-- ==== Sys2Proof/Word.lean ====
section
/-! DEFINITION. The one word the GC-840 puts on its links: the byte. Quantities inside the part are integers with ranges
(00_scope.md, "Units, signs and ranges"), so they are `Nat` or `Int`; only what crosses a link, and the sets the manual lays
out as bits (attention flags, interlock lines), is a bit vector. -/

namespace Sys2Proof

/-- One byte on a link (R214). -/
abbrev Byte := BitVec 8

/-- The top of every whole-unit counter (00_scope.md: 0 to 4,294,967,295). -/
abbrev top32 : Nat := 4294967295

end Sys2Proof
end

