-- ==== Sys2Proof/Config.lean ====
section
/-! DEFINITION. What the part fixes by its construction, and the one choice the manual leaves open inside a step. -/

namespace Sys2Proof.Config

/-- Programs in the store (R1). -/
abbrev programCount : Nat := 32
/-- Step slots shared by all programs (R1). -/
abbrev slotCount : Nat := 512
/-- Entries of the history table (R99). -/
abbrev entryCount : Nat := 64
/-- Pins allowed (R108). -/
abbrev pinLimit : Nat := 56
/-- Records the eviction queue holds (R103). -/
abbrev evictionDepth : Nat := 16
/-- Records a port's result queue holds (R52). -/
abbrev resultDepth : Nat := 32
/-- Entries the cabinet fault log holds (R185). -/
abbrev faultLogDepth : Nat := 8
/-- Current of one phase, mA (R135). -/
abbrev phaseCurrent : Nat := 40000
/-- Top of a commanded current, mA, and of a power setpoint, W (00_scope.md). -/
abbrev maxCommand : Nat := 320000
/-- Top of a voltage, mV (00_scope.md). -/
abbrev maxVoltage : Nat := 1000000
/-- Top of a measured current, mA (00_scope.md). -/
abbrev maxMeasuredCurrent : Nat := 400000
/-- Top of a budget value, W (R117). -/
abbrev maxBudget : Nat := 1000000

/-- A consumer of a sample (R60). `protection` stands also for the intake's own MEASUREMENT_LOST at a missed sample (R59). -/
inductive Consumer where
  | accounting | sequencer | protection
  deriving DecidableEq, Repr, Inhabited

/-- An order of the three consumers of one sample. R60: "their work on one sample has no order among them". -/
inductive ConsumerOrder where
  | accountingSequencerProtection
  | accountingProtectionSequencer
  | protectionAccountingSequencer
  | sequencerAccountingProtection
  | sequencerProtectionAccounting
  | protectionSequencerAccounting
  deriving DecidableEq, Repr, Inhabited

/-- FREE VALUE (log entry 1). The order in which the three consumers take the n-th sample instant of the machine. The manual
gives no rule for it (R42, R60, R84: "either may be taken first"), so nothing in Lean can evaluate it. -/
opaque consumerOrder : Nat → ConsumerOrder

end Sys2Proof.Config
end

