-- ==== Sys2Proof/Syntax.lean ====
section
/-! DEFINITION. The commands the masters issue and the events the part takes: one constructor of `Instr` for each row of
spec/opcode_table.json, with the data each row carries. -/

namespace Sys2Proof

/-- The two masters; a command is tagged with its issuer (00_scope.md, "The two masters"). -/
inductive Master where
  | station | hall
  deriving DecidableEq, Repr, Inhabited

/-- How a command came to be taken: from the station port (R206), or from the command slot of a CYCLE frame with the tag it
carried (R198). The issuer decides which link holds the reply (R207). -/
inductive Issuer where
  | station
  | hall (tag : Byte)
  deriving DecidableEq, Repr, Inhabited

/-- The issuer tag of a command. -/
def Issuer.master : Issuer → Master
  | .station => .station
  | .hall _ => .hall

/-- The kinds of a step record, in the order of R7. -/
inductive Kind where
  | ccCharge | cccvCharge | ccDischarge | cpDischarge | rest | pulse | loop | endRun
  deriving DecidableEq, Repr, Inhabited

/-- The quantities of an end condition, in the order of R15. -/
inductive CondQuantity where
  | voltage | current | temperature | stepTime | stepCharge | stepEnergy | settleGrade | throttledTime
  deriving DecidableEq, Repr, Inhabited

/-- The relations of R16. -/
inductive Relation where
  | atOrAbove | atOrBelow
  deriving DecidableEq, Repr, Inhabited

/-- The actions of R16. -/
inductive Action where
  | next
  | goto (target : Nat)
  | endRun
  | faultRun
  deriving DecidableEq, Repr, Inhabited

/-- An end condition (R15). -/
structure Condition where
  quantity : CondQuantity
  relation : Relation
  threshold : Int
  action : Action
  deriving DecidableEq, Repr, Inhabited

/-- A stored step record (R7, R216): a field the kind does not carry is 0 and a LOOP or END has no conditions. Numeric
fields are kept as written, inside or outside their ranges (R6). -/
structure StepRecord where
  kind : Kind
  level : Nat
  current : Nat
  power : Nat
  cvVoltage : Nat
  cvTolerance : Nat
  settleTolerance : Nat
  duration : Nat
  baseCurrent : Int
  pulseCurrent : Int
  baseTime : Nat
  pulseTime : Nat
  captureDelay : Nat
  loopTarget : Nat
  repeatCount : Nat
  cycleMark : Nat
  conditions : List Condition
  deriving DecidableEq, Repr, Inhabited

/-- A history selector as its nine bytes give it (R109, R214): form byte 0 by number, 1 by serial. -/
structure Selector where
  form : Nat
  value : Nat
  deriving DecidableEq, Repr, Inhabited

/-- Five limits of voltage, current, temperature and power: the arguments of SET_LIMITS and the cabinet limits (R164). -/
structure Limits where
  maxVoltage : Nat
  maxCharge : Nat
  maxDischarge : Nat
  maxTemp : Int
  maxPower : Nat
  deriving DecidableEq, Repr, Inhabited

/-- A port envelope (R164, R167). -/
structure Envelope where
  vMax : Nat
  vMin : Nat
  charge : Nat
  discharge : Nat
  tMax : Int
  deriving DecidableEq, Repr, Inhabited

/-- An import and an export value, W (R117). -/
structure Budget where
  imp : Nat
  exp : Nat
  deriving DecidableEq, Repr, Inhabited

/-- The four port defaults (R71). -/
structure PortDefaults where
  currentTol : Nat
  voltageTol : Nat
  powerTol : Nat
  cvGain : Nat
  deriving DecidableEq, Repr, Inhabited

/-- An attention set or mask in its link layout (R214): one byte per port, STEP_END to PORT_TAKEN as bits 0 to 7; one cabinet
byte, LOCKOUT to RESTARTED as bits 0 to 5. -/
structure Attention where
  ports : Vector Byte 8
  cabinet : Byte
  deriving DecidableEq, Repr

/-- The 46 commands of R214's list, each with the arguments its rule names. A number is what its bytes spell: unsigned, or
signed where R214 says so. WRITE_STEP and IMPORT_ENTRY carry their record as its bytes. -/
inductive Command where
  | openProgram (number steps : Nat)
  | writeStep (number index : Nat) (record : List Byte)
  | closeProgram (number : Nat)
  | deleteProgram (number : Nat)
  | readStep (number index : Nat)
  | claimPort (port : Nat)
  | releasePort (port : Nat)
  | takePort (port : Nat)
  | startRun (port program start : Nat)
  | holdPort (port : Nat)
  | resumePort (port : Nat)
  | abortRun (port : Nat)
  | clearFault (port : Nat)
  | retryIdentify (port : Nat)
  | setEnvelope (port : Nat) (envelope : Envelope)
  | setReservedPhases (port count : Nat)
  | setInterlockMask (port : Nat) (lines : Byte)
  | setCalibration (port channel : Nat) (offset : Int) (gain : Nat)
  | setSettleEdges (port setting : Nat)
  | setPortDefaults (port : Nat) (defaults : PortDefaults)
  | readPortStatus (port : Nat)
  | readResult (port : Nat)
  | peekResult (port : Nat)
  | readCapture (port : Nat)
  | readHistory (selector : Selector)
  | pinEntry (selector : Selector)
  | unpinEntry (selector : Selector)
  | importEntry (record : List Byte)
  | deleteEntry (selector : Selector)
  | readEviction
  | setLimits (limits : Limits)
  | lockLimits
  | setFallbackBudget (budget : Budget)
  | setStandaloneBudget (budget : Budget)
  | setRampTime (time : Nat)
  | setLockoutPolicy (policy : Nat)
  | closeContactor
  | openContactor
  | clearLockout
  | readCabinetStatus
  | readFaultLog
  | clearFaultLog
  | setPhaseService (phase : Nat)
  | readAttention
  | clearAttention (flags : Attention)
  | setAttentionMask (mask : Attention)
  deriving DecidableEq, Repr

/-- What happens to a port at one sample instant (R55, R59): the ten-byte reply that arrives for its strobe, or the next strobe
with no good reply before it. -/
inductive Reading where
  | arrival (reply : List Byte)
  | missed
  deriving DecidableEq, Repr

/-- Which ID attempt a nine-byte reply answers: the one in flight, or one that has expired or was abandoned (R96). -/
inductive IdSource where
  | presentAttempt | endedAttempt
  deriving DecidableEq, Repr

/-- The levels of the input lines that a power-on reset finds (R93, R141, R164). A set bit is a CLOSED presence contact, an
OPEN thermal switch, a high fault line or a high active line. -/
structure InputLines where
  presenceClosed : BitVec 8
  thermalOpen : BitVec 8
  phaseFault : BitVec 16
  phaseActive : BitVec 16
  doorOpen : Bool
  feedbackClosed : Bool
  deriving DecidableEq, Repr, Inhabited

/-- The commands and events of spec/opcode_table.json, one constructor a row, in the table's order. The first 46 are the
commands of the masters, taken from the link the issuer names. The rest are events on the part's lines and in its time; those
that fall at a sample instant carry that instant's reading (log entry 3). -/
inductive Instr where
  | openProgram (iss : Issuer) (number steps : Nat)
  | writeStep (iss : Issuer) (number index : Nat) (record : List Byte)
  | closeProgram (iss : Issuer) (number : Nat)
  | deleteProgram (iss : Issuer) (number : Nat)
  | readStep (iss : Issuer) (number index : Nat)
  | claimPort (iss : Issuer) (port : Nat)
  | releasePort (iss : Issuer) (port : Nat)
  | takePort (iss : Issuer) (port : Nat)
  | startRun (iss : Issuer) (port program start : Nat)
  | holdPort (iss : Issuer) (port : Nat)
  | resumePort (iss : Issuer) (port : Nat)
  | abortRun (iss : Issuer) (port : Nat)
  | clearFault (iss : Issuer) (port : Nat)
  | retryIdentify (iss : Issuer) (port : Nat)
  | setEnvelope (iss : Issuer) (port : Nat) (envelope : Envelope)
  | setReservedPhases (iss : Issuer) (port count : Nat)
  | setInterlockMask (iss : Issuer) (port : Nat) (lines : Byte)
  | setCalibration (iss : Issuer) (port channel : Nat) (offset : Int) (gain : Nat)
  | setSettleEdges (iss : Issuer) (port setting : Nat)
  | setPortDefaults (iss : Issuer) (port : Nat) (defaults : PortDefaults)
  | readPortStatus (iss : Issuer) (port : Nat)
  | readResult (iss : Issuer) (port : Nat)
  | peekResult (iss : Issuer) (port : Nat)
  | readCapture (iss : Issuer) (port : Nat)
  | readHistory (iss : Issuer) (selector : Selector)
  | pinEntry (iss : Issuer) (selector : Selector)
  | unpinEntry (iss : Issuer) (selector : Selector)
  | importEntry (iss : Issuer) (record : List Byte)
  | deleteEntry (iss : Issuer) (selector : Selector)
  | readEviction (iss : Issuer)
  | setLimits (iss : Issuer) (limits : Limits)
  | lockLimits (iss : Issuer)
  | setFallbackBudget (iss : Issuer) (budget : Budget)
  | setStandaloneBudget (iss : Issuer) (budget : Budget)
  | setRampTime (iss : Issuer) (time : Nat)
  | setLockoutPolicy (iss : Issuer) (policy : Nat)
  | closeContactor (iss : Issuer)
  | openContactor (iss : Issuer)
  | clearLockout (iss : Issuer)
  | readCabinetStatus (iss : Issuer)
  | readFaultLog (iss : Issuer)
  | clearFaultLog (iss : Issuer)
  | setPhaseService (iss : Issuer) (phase : Nat)
  | readAttention (iss : Issuer)
  | clearAttention (iss : Issuer) (flags : Attention)
  | setAttentionMask (iss : Issuer) (mask : Attention)
  | transactionStart
  | transactionEnd (shiftedIn : List Byte)
  | powerOnReset (lines : InputLines)
  | sampleArrival (p : Fin 8) (reply : List Byte)
  | sampleStrobe (p : Fin 8)
  | lateSampleReply (p : Fin 8) (reply : List Byte)
  | measurementLost (p : Fin 8)
  | settleWindowCheck (p : Fin 8) (reply : List Byte)
  | pulseEdge (p : Fin 8) (reading : Reading)
  | captureB (p : Fin 8) (reply : List Byte)
  | durationEnd (p : Fin 8) (reading : Reading)
  | drainComplete (p : Fin 8) (reading : Reading)
  | rampComplete (p : Fin 8) (reading : Reading)
  | holdDrainComplete (p : Fin 8) (reading : Reading)
  | endingComplete (p : Fin 8) (reading : Reading)
  | trip (p : Fin 8) (reply : List Byte)
  | thermalSwitch (p : Fin 8)
  | allocationTick
  | presenceClose (p : Fin 8)
  | presenceOpen (p : Fin 8)
  | idReply (p : Fin 8) (source : IdSource) (reply : List Byte)
  | idAttemptExpiry (p : Fin 8)
  | doorOpen
  | doorClose
  | phaseFault (f : Fin 16) (high : Bool)
  | activeLineFall (f : Fin 16)
  | ackWatchExpiry (f : Fin 16)
  | activeLineRise (f : Fin 16)
  | feedbackClose
  | feedbackOpen
  | closingWatchExpiry
  | openingWatchExpiry
  | cooldownExpiry
  | discover (frame : List Byte)
  | renumber (frame : List Byte)
  | cycleFrame (frame : List Byte)
  | chainFrameDiscard (frame : List Byte)
  | silenceTimeout
  | answerFrame (frame : List Byte)
  | answerWatchExpiry
  | upstreamFrame (frame : List Byte)
  | upstreamWaitExpiry
  | thermalSwitchClose (p : Fin 8)
  deriving DecidableEq, Repr

end Sys2Proof
end

