-- ==== Sys2Proof/WellFormed.lean ====
section
/-! DEFINITION. Well-formed commands and events: every operand fits the bytes that carry it (R214), and a reply, record or frame
has the length its line or link gives it (R55, R96, R214, R215). What is in range is not asked here: the commands' own checks
judge that. -/

namespace Sys2Proof

/-- A number that fits `k` bytes. -/
def fits (k n : Nat) : Bool := decide (n < 256 ^ k)

/-- A signed number that fits `k` bytes of two's complement. -/
def fitsSigned (k : Nat) (i : Int) : Bool := decide (-(256 ^ k : Nat) ≤ 2 * i) && decide (2 * i < (256 ^ k : Nat))

/-- An envelope fits its 20 bytes. -/
def Envelope.wf (e : Envelope) : Bool :=
  fits 4 e.vMax && fits 4 e.vMin && fits 4 e.charge && fits 4 e.discharge && fitsSigned 4 e.tMax

/-- Limits fit their 20 bytes. -/
def Limits.wf (l : Limits) : Bool :=
  fits 4 l.maxVoltage && fits 4 l.maxCharge && fits 4 l.maxDischarge && fitsSigned 4 l.maxTemp && fits 4 l.maxPower

/-- A budget fits its 8 bytes. -/
def Budget.wf (b : Budget) : Bool := fits 4 b.imp && fits 4 b.exp

/-- Port defaults fit their 7 bytes. -/
def PortDefaults.wf (d : PortDefaults) : Bool :=
  fits 2 d.currentTol && fits 2 d.voltageTol && fits 2 d.powerTol && fits 1 d.cvGain

/-- A selector fits its 9 bytes. -/
def Selector.wf (x : Selector) : Bool := fits 1 x.form && fits 8 x.value

/-- An attention set or mask names no unused bit of its cabinet byte. -/
def Attention.wf (a : Attention) : Bool := a.cabinet &&& 0xC0 = 0

/-- A command whose arguments fit their encodings (R214). -/
def Command.wf : Command → Bool
  | .openProgram n k => fits 1 n && fits 1 k
  | .writeStep n i r => fits 1 n && fits 1 i && decide (r.length = 74)
  | .closeProgram n | .deleteProgram n => fits 1 n
  | .readStep n i => fits 1 n && fits 1 i
  | .claimPort p | .releasePort p | .takePort p => fits 1 p
  | .startRun p n i => fits 1 p && fits 1 n && fits 1 i
  | .holdPort p | .resumePort p | .abortRun p | .clearFault p | .retryIdentify p => fits 1 p
  | .setEnvelope p e => fits 1 p && e.wf
  | .setReservedPhases p n => fits 1 p && fits 1 n
  | .setInterlockMask p _ => fits 1 p
  | .setCalibration p c o g => fits 1 p && fits 1 c && fitsSigned 4 o && fits 4 g
  | .setSettleEdges p e => fits 1 p && fits 1 e
  | .setPortDefaults p d => fits 1 p && d.wf
  | .readPortStatus p | .readResult p | .peekResult p | .readCapture p => fits 1 p
  | .readHistory x | .pinEntry x | .unpinEntry x | .deleteEntry x => x.wf
  | .importEntry r => decide (r.length = 78)
  | .setLimits l => l.wf
  | .setFallbackBudget b | .setStandaloneBudget b => b.wf
  | .setRampTime t => fits 4 t
  | .setLockoutPolicy x => fits 1 x
  | .setPhaseService f => fits 1 f
  | .clearAttention a | .setAttentionMask a => a.wf
  | .readEviction | .lockLimits | .closeContactor | .openContactor | .clearLockout | .readCabinetStatus | .readFaultLog
  | .clearFaultLog | .readAttention => true

/-- A reading's reply has ten bytes (R55). -/
def Reading.wf : Reading → Bool
  | .arrival reply => decide (reply.length = 10)
  | .missed => true

/-- The issuer and the command of a row that is a command. -/
def Instr.command : Instr → Option (Issuer × Command)
  | .openProgram iss number steps => some (iss, .openProgram number steps)
  | .writeStep iss number index record => some (iss, .writeStep number index record)
  | .closeProgram iss number => some (iss, .closeProgram number)
  | .deleteProgram iss number => some (iss, .deleteProgram number)
  | .readStep iss number index => some (iss, .readStep number index)
  | .claimPort iss port => some (iss, .claimPort port)
  | .releasePort iss port => some (iss, .releasePort port)
  | .takePort iss port => some (iss, .takePort port)
  | .startRun iss port program start => some (iss, .startRun port program start)
  | .holdPort iss port => some (iss, .holdPort port)
  | .resumePort iss port => some (iss, .resumePort port)
  | .abortRun iss port => some (iss, .abortRun port)
  | .clearFault iss port => some (iss, .clearFault port)
  | .retryIdentify iss port => some (iss, .retryIdentify port)
  | .setEnvelope iss port envelope => some (iss, .setEnvelope port envelope)
  | .setReservedPhases iss port count => some (iss, .setReservedPhases port count)
  | .setInterlockMask iss port lines => some (iss, .setInterlockMask port lines)
  | .setCalibration iss port channel offset gain => some (iss, .setCalibration port channel offset gain)
  | .setSettleEdges iss port setting => some (iss, .setSettleEdges port setting)
  | .setPortDefaults iss port defaults => some (iss, .setPortDefaults port defaults)
  | .readPortStatus iss port => some (iss, .readPortStatus port)
  | .readResult iss port => some (iss, .readResult port)
  | .peekResult iss port => some (iss, .peekResult port)
  | .readCapture iss port => some (iss, .readCapture port)
  | .readHistory iss selector => some (iss, .readHistory selector)
  | .pinEntry iss selector => some (iss, .pinEntry selector)
  | .unpinEntry iss selector => some (iss, .unpinEntry selector)
  | .importEntry iss record => some (iss, .importEntry record)
  | .deleteEntry iss selector => some (iss, .deleteEntry selector)
  | .readEviction iss => some (iss, .readEviction)
  | .setLimits iss limits => some (iss, .setLimits limits)
  | .lockLimits iss => some (iss, .lockLimits)
  | .setFallbackBudget iss budget => some (iss, .setFallbackBudget budget)
  | .setStandaloneBudget iss budget => some (iss, .setStandaloneBudget budget)
  | .setRampTime iss time => some (iss, .setRampTime time)
  | .setLockoutPolicy iss policy => some (iss, .setLockoutPolicy policy)
  | .closeContactor iss => some (iss, .closeContactor)
  | .openContactor iss => some (iss, .openContactor)
  | .clearLockout iss => some (iss, .clearLockout)
  | .readCabinetStatus iss => some (iss, .readCabinetStatus)
  | .readFaultLog iss => some (iss, .readFaultLog)
  | .clearFaultLog iss => some (iss, .clearFaultLog)
  | .setPhaseService iss phase => some (iss, .setPhaseService phase)
  | .readAttention iss => some (iss, .readAttention)
  | .clearAttention iss flags => some (iss, .clearAttention flags)
  | .setAttentionMask iss mask => some (iss, .setAttentionMask mask)
  | .transactionStart => none
  | .transactionEnd _ => none
  | .powerOnReset _ => none
  | .sampleArrival _ _ => none
  | .sampleStrobe _ => none
  | .lateSampleReply _ _ => none
  | .measurementLost _ => none
  | .settleWindowCheck _ _ => none
  | .pulseEdge _ _ => none
  | .captureB _ _ => none
  | .durationEnd _ _ => none
  | .drainComplete _ _ => none
  | .rampComplete _ _ => none
  | .holdDrainComplete _ _ => none
  | .endingComplete _ _ => none
  | .trip _ _ => none
  | .thermalSwitch _ => none
  | .allocationTick => none
  | .presenceClose _ => none
  | .presenceOpen _ => none
  | .idReply _ _ _ => none
  | .idAttemptExpiry _ => none
  | .doorOpen => none
  | .doorClose => none
  | .phaseFault _ _ => none
  | .activeLineFall _ => none
  | .ackWatchExpiry _ => none
  | .activeLineRise _ => none
  | .feedbackClose => none
  | .feedbackOpen => none
  | .closingWatchExpiry => none
  | .openingWatchExpiry => none
  | .cooldownExpiry => none
  | .discover _ => none
  | .renumber _ => none
  | .cycleFrame _ => none
  | .chainFrameDiscard _ => none
  | .silenceTimeout => none
  | .answerFrame _ => none
  | .answerWatchExpiry => none
  | .upstreamFrame _ => none
  | .upstreamWaitExpiry => none
  | .thermalSwitchClose _ => none

/-- A well-formed event: the lengths of replies and frames. -/
def Instr.eventWf : Instr → Bool
  | .openProgram _ _ _ => true
  | .writeStep _ _ _ _ => true
  | .closeProgram _ _ => true
  | .deleteProgram _ _ => true
  | .readStep _ _ _ => true
  | .claimPort _ _ => true
  | .releasePort _ _ => true
  | .takePort _ _ => true
  | .startRun _ _ _ _ => true
  | .holdPort _ _ => true
  | .resumePort _ _ => true
  | .abortRun _ _ => true
  | .clearFault _ _ => true
  | .retryIdentify _ _ => true
  | .setEnvelope _ _ _ => true
  | .setReservedPhases _ _ _ => true
  | .setInterlockMask _ _ _ => true
  | .setCalibration _ _ _ _ _ => true
  | .setSettleEdges _ _ _ => true
  | .setPortDefaults _ _ _ => true
  | .readPortStatus _ _ => true
  | .readResult _ _ => true
  | .peekResult _ _ => true
  | .readCapture _ _ => true
  | .readHistory _ _ => true
  | .pinEntry _ _ => true
  | .unpinEntry _ _ => true
  | .importEntry _ _ => true
  | .deleteEntry _ _ => true
  | .readEviction _ => true
  | .setLimits _ _ => true
  | .lockLimits _ => true
  | .setFallbackBudget _ _ => true
  | .setStandaloneBudget _ _ => true
  | .setRampTime _ _ => true
  | .setLockoutPolicy _ _ => true
  | .closeContactor _ => true
  | .openContactor _ => true
  | .clearLockout _ => true
  | .readCabinetStatus _ => true
  | .readFaultLog _ => true
  | .clearFaultLog _ => true
  | .setPhaseService _ _ => true
  | .readAttention _ => true
  | .clearAttention _ _ => true
  | .setAttentionMask _ _ => true
  | .transactionStart => true
  | .transactionEnd _ => true
  | .powerOnReset _ => true
  | .sampleArrival _ reply => decide (reply.length = 10)
  | .sampleStrobe _ => true
  | .lateSampleReply _ reply => decide (reply.length = 10)
  | .measurementLost _ => true
  | .settleWindowCheck _ reply => decide (reply.length = 10)
  | .pulseEdge _ reading => reading.wf
  | .captureB _ reply => decide (reply.length = 10)
  | .durationEnd _ reading => reading.wf
  | .drainComplete _ reading => reading.wf
  | .rampComplete _ reading => reading.wf
  | .holdDrainComplete _ reading => reading.wf
  | .endingComplete _ reading => reading.wf
  | .trip _ reply => decide (reply.length = 10)
  | .thermalSwitch _ => true
  | .allocationTick => true
  | .presenceClose _ => true
  | .presenceOpen _ => true
  | .idReply _ _ reply => decide (reply.length = 9)
  | .idAttemptExpiry _ => true
  | .doorOpen => true
  | .doorClose => true
  | .phaseFault _ _ => true
  | .activeLineFall _ => true
  | .ackWatchExpiry _ => true
  | .activeLineRise _ => true
  | .feedbackClose => true
  | .feedbackOpen => true
  | .closingWatchExpiry => true
  | .openingWatchExpiry => true
  | .cooldownExpiry => true
  | .discover frame => decide (frame.length = 5)
  | .renumber frame => decide (frame.length = 5)
  | .cycleFrame frame => decide (130 ≤ frame.length)
  | .chainFrameDiscard _ => true
  | .silenceTimeout => true
  | .answerFrame frame => decide (frame.length = 5)
  | .answerWatchExpiry => true
  | .upstreamFrame _ => true
  | .upstreamWaitExpiry => true
  | .thermalSwitchClose _ => true

/-- A well-formed command or event. -/
def Instr.wf (i : Instr) : Bool := i.eventWf && (i.command.map fun x => x.2.wf).getD true

end Sys2Proof
end

