-- ==== Sys2Proof/Machine/State.lean ====
section
/-! DEFINITION. The state of the GC-840: every item the chapters give a block, as plain data, and the part right after
power-on reset. What the manual defines from other items (the gang of a port, the held count, the attention line, the pool's
free count, the pinned count) is computed from them in Machine/Ops.lean and is not stored twice. -/

namespace Sys2Proof.Machine

/-- No meaning of this model ends in a fault: the manual gives every command and event an effect. -/
inductive Fault where
  deriving DecidableEq, Repr

/-- Why a step is refused. -/
inductive Refusal where
  /-- Raised by `exec` alone, for a row that has no meaning yet. Safe: the model stops where the part goes on. -/
  | notModelled (mnemonic : String)
  deriving DecidableEq, Repr

/-! ### Program store (R1) -/

/-- State of a program header (R1). -/
inductive HeaderState where
  | empty | building | ready
  deriving DecidableEq, Repr, Inhabited

/-- A program header (R1). The step list has one place per reserved slot; `none` is an unwritten slot. The step count is its
length and the written count the number of places written. `loopNumbers` holds, per index, the counter number of R19. -/
structure Header where
  state : HeaderState
  author : Master
  steps : List (Option StepRecord)
  useCount : Nat
  loopNumbers : List (Option Nat)
  deriving DecidableEq, Repr, Inhabited

/-! ### Port sequencer (R23) -/

/-- Port states, in the order of R23. -/
inductive PortState where
  | vacant | identifying | unidentified | ready | transfer | running | holding | held | ending | faulted
  deriving DecidableEq, Repr, Inhabited

/-- Transfer stages (R23). -/
inductive Stage where
  | draining | acquiring | ramping
  deriving DecidableEq, Repr, Inhabited

/-- Sub-phases (R23). -/
inductive SubPhase where
  | none | cc | cv | base | pulse
  deriving DecidableEq, Repr, Inhabited

/-- A direction of current: into the pack or out of it. -/
inductive Direction where
  | charge | discharge
  deriving DecidableEq, Repr, Inhabited

/-- The set of hold causes (R23). -/
structure HoldCauses where
  master : Bool
  interlock : Bool
  door : Bool
  deriving DecidableEq, Repr, Inhabited

/-- The empty set of hold causes. -/
def HoldCauses.none : HoldCauses := ⟨false, false, false⟩

/-- A drain or ramp in flight (R23, R34, R37): start level and direction, elapsed sample instants, latched ramp time. -/
structure Slew where
  level : Nat
  direction : Direction
  elapsed : Nat
  time : Nat
  deriving DecidableEq, Repr, Inhabited

/-- How a run ended (R23). -/
inductive RunOutcome where
  | none | completed | aborted | faulted
  deriving DecidableEq, Repr, Inhabited

/-- Owners (R23). -/
inductive Owner where
  | none | station | hall
  deriving DecidableEq, Repr, Inhabited

/-- The resistance of a step (R51): its value, or invalid. -/
inductive StepResistance where
  | notPulse | valid (microOhm : Int) | invalid
  deriving DecidableEq, Repr, Inhabited

/-- The bounds that status shows, as formed at the latest sample instant (R117, R140). -/
structure Bounds where
  grantBound : Nat
  stepDemand : Nat
  cvDemand : Nat
  phaseCapacity : Nat
  deriving DecidableEq, Repr, Inhabited

/-- The run context of a port (R23). `lastProgram` is the program of the present or last run (R54, R174) and `countersUsed` the
number of loop counters that it uses (R19, R47, R54), both latched at START_RUN; `step` is the record
of the current or last step with its setpoints clamped (R169); `endingAs` is the outcome that the completion of ENDING will
record (R47, R48); `resistance` is the capture outcome of the current step (R75). -/
structure RunContext where
  state : PortState
  stage : Stage
  causes : HoldCauses
  program : Option (Fin 32)
  lastProgram : Option (Fin 32)
  countersUsed : Nat
  stepIndex : Nat
  subPhase : SubPhase
  counters : Vector Nat 16
  stepTimer : Nat
  throttledTime : Nat
  runCycles : Nat
  slew : Option Slew
  outcome : RunOutcome
  endingAs : RunOutcome
  step : Option StepRecord
  clamped : Bool
  throttled : Bool
  resistance : Option Int
  applied : Int
  cvIntegrator : Nat
  bounds : Bounds
  deriving DecidableEq, Repr

/-- The run context after either reset (R23). DESIGN CHOICE (log entry 22): with it the program of the last run and its number of
counters are none and 0 again, so a fault record written after an internal restart and before a run names no run (R174). -/
def RunContext.initial : RunContext where
  state := .vacant
  stage := .draining
  causes := .none
  program := Option.none
  lastProgram := Option.none
  countersUsed := 0
  stepIndex := 0
  subPhase := .none
  counters := Vector.replicate 16 0
  stepTimer := 0
  throttledTime := 0
  runCycles := 0
  slew := Option.none
  outcome := .none
  endingAs := .none
  step := Option.none
  clamped := false
  throttled := false
  resistance := Option.none
  applied := 0
  cvIntegrator := 0
  bounds := ⟨0, 0, 0, 0⟩

/-- End reasons, in the order of R214. -/
inductive EndReason where
  | condition (n : Nat) | duration | aborted | fault | packRemoved | lockout
  deriving DecidableEq, Repr, Inhabited

/-- A result record (R51). -/
structure ResultRecord where
  program : Option (Fin 32)
  stepIndex : Nat
  kind : Kind
  reason : EndReason
  runCycles : Nat
  stepTime : Nat
  chargeIn : Nat
  chargeOut : Nat
  energyIn : Nat
  energyOut : Nat
  endVoltage : Nat
  endCurrent : Int
  maxTemp : Int
  throttledTime : Nat
  clamped : Bool
  resistance : StepResistance
  deriving DecidableEq, Repr

/-! ### Sample intake (R58) -/

/-- A calibration pair (R56). -/
structure Calibration where
  offset : Int
  gain : Nat
  deriving DecidableEq, Repr, Inhabited

/-- A sample after conversion and saturation (R57). -/
structure Sample where
  voltage : Nat
  current : Int
  temperature : Int
  reversed : Bool
  deriving DecidableEq, Repr, Inhabited

/-- The reply of the port's latest strobe (R55): no strobe yet, still awaited, arrived good, or arrived and failed its check. -/
inductive Strobe where
  | none | awaited | answered | failed
  deriving DecidableEq, Repr, Inhabited

/-- The settle detector (R63). `target` and `band` have meaning only while the window holds a sample. -/
structure Settle where
  count : Nat
  dirty : Bool
  target : Int
  band : Nat
  grade1 : Bool
  grade2 : Bool
  deriving DecidableEq, Repr, Inhabited

/-- An empty window with both grades clear (R63). DESIGN CHOICE (log entry 29): target and band, of which R63 gives no value for an
empty window, are 0 in it. -/
def Settle.empty : Settle := ⟨0, false, 0, 0, false, false⟩

/-- Settle-edge settings, in the order of R70. -/
inductive SettleEdges where
  | rise | fall | both | off
  deriving DecidableEq, Repr, Inhabited

/-- One capture (R72, R73). -/
structure CapturePoint where
  voltage : Nat
  current : Int
  held : Bool
  timer : Nat
  deriving DecidableEq, Repr, Inhabited

/-- A capture result (R75); a resistance of `none` is the mark invalid. -/
structure CaptureResult where
  program : Option (Fin 32)
  stepIndex : Nat
  runCycles : Nat
  a : CapturePoint
  b : CapturePoint
  resistance : Option Int
  deriving DecidableEq, Repr

/-- The sample intake of one port (R58, R63, R70, R71, R75). -/
structure Intake where
  voltageCal : Calibration
  currentCal : Calibration
  temperatureCal : Calibration
  latest : Option Sample
  missed : Nat
  strobe : Strobe
  settle : Settle
  edges : SettleEdges
  defaults : PortDefaults
  captureA : Option CapturePoint
  slot : Option CaptureResult
  captureValid : Bool
  overwrite : Bool
  deriving DecidableEq, Repr

/-! ### Accounting unit (R78) -/

/-- An accounted quantity: whole count and residue (R78). -/
structure Quantity where
  whole : Nat
  residue : Nat
  deriving DecidableEq, Repr, Inhabited

/-- The five accounted quantities and the saturated mark of a set or of a history entry (R78, R99). -/
structure Tally where
  chargeIn : Quantity
  chargeOut : Quantity
  energyIn : Quantity
  energyOut : Quantity
  time : Quantity
  saturated : Bool
  deriving DecidableEq, Repr, Inhabited

/-- A cleared tally (R78). -/
def Tally.cleared : Tally := ⟨⟨0, 0⟩, ⟨0, 0⟩, ⟨0, 0⟩, ⟨0, 0⟩, ⟨0, 0⟩, false⟩

/-- The step set (R78). -/
structure StepSet where
  tally : Tally
  maxTemp : Int
  deriving DecidableEq, Repr, Inhabited

/-- The unfolded set (R78). -/
structure UnfoldedSet where
  tally : Tally
  maxTemp : Int
  cycleDelta : Nat
  faultDelta : Nat
  lastResistance : Option Int
  deriving DecidableEq, Repr, Inhabited

/-- A cleared step set (R78). -/
def StepSet.cleared : StepSet := ⟨.cleared, -400⟩

/-- A cleared unfolded set (R78). -/
def UnfoldedSet.cleared : UnfoldedSet := ⟨.cleared, -400, 0, 0, none⟩

/-- The three sets of a port (R78). -/
structure Accounts where
  step : StepSet
  run : Tally
  unfolded : UnfoldedSet
  deriving DecidableEq, Repr, Inhabited

/-- All three sets cleared (R79). -/
def Accounts.cleared : Accounts := ⟨.cleared, .cleared, .cleared⟩

/-! ### Identification and history (R93, R99) -/

/-- Last failure of an identification, in the order of R93. -/
inductive IdFailure where
  | none | noReply | badCheck | zeroSerial | serialInUse
  deriving DecidableEq, Repr, Inhabited

/-- An ID attempt in flight (R93). -/
structure Attempt where
  number : Nat
  elapsed : Nat
  deriving DecidableEq, Repr, Inhabited

/-- The identification state of a port (R93). -/
structure Ident where
  present : Bool
  attempt : Option Attempt
  lastFailure : IdFailure
  serialRead : Option Nat
  bound : Option (Fin 64)
  deriving DecidableEq, Repr, Inhabited

/-- An occupied history entry (R99). `totals.saturated` is the entry's saturated mark; `mounted` is the mounted mark with the
bound port. -/
structure Entry where
  serial : Nat
  cycles : Nat
  totals : Tally
  maxTemp : Int
  faultCount : Nat
  lastResistance : Option Int
  lastPort : Option (Fin 8)
  mounted : Option (Fin 8)
  pinned : Bool
  deriving DecidableEq, Repr, Inhabited

/-- An eviction record (R103). -/
structure EvictionRecord where
  entry : Entry
  number : Fin 64
  time : Nat
  deriving DecidableEq, Repr

/-- The history table with its recency list, eviction queue and wait list (R99, R100, R103, R104). -/
structure History where
  entries : Vector (Option Entry) 64
  recency : List (Fin 64)
  evictions : List EvictionRecord
  waiting : List (Fin 8)
  deriving DecidableEq, Repr

/-! ### Power allocator (R117, R123) -/

/-- Budget sources, in the order of R117. -/
inductive BudgetSource where
  | standalone | hallLive | fallback
  deriving DecidableEq, Repr, Inhabited

/-- A request basis (R123): which step of the bound program it is, that step with its setpoints as clamped, and a sub-phase. -/
structure Basis where
  index : Nat
  step : StepRecord
  subPhase : SubPhase
  deriving DecidableEq, Repr, Inhabited

/-- A port's line of the grant table (R117). -/
structure GrantEntry where
  basis : Option Basis
  request : Int
  level : Nat
  requestClamped : Bool
  grant : Int
  deriving DecidableEq, Repr, Inhabited

/-- Outcome of a round, with its sharing level (R117). -/
inductive RoundOutcome where
  | unthrottled
  | importThrottled (level : Nat)
  | exportThrottled (level : Nat)
  deriving DecidableEq, Repr, Inhabited

/-- The last round (R117). -/
structure LastRound where
  budget : Budget
  iTot : Nat
  eTot : Nat
  outcome : RoundOutcome
  deriving DecidableEq, Repr, Inhabited

/-- The cabinet-wide state of the allocator (R117). -/
structure Allocator where
  source : BudgetSource
  inForce : Budget
  standalone : Budget
  fallback : Budget
  lastRound : LastRound
  roundCount : Nat
  rampTime : Nat
  deriving DecidableEq, Repr, Inhabited

/-! ### Phase pool (R141, R143) -/

/-- Phase states (R141). -/
inductive PhaseState where
  | free | assigned (p : Fin 8) | outOfService
  deriving DecidableEq, Repr

/-- A phase record (R141) with the levels of its two input lines. -/
structure Phase where
  state : PhaseState
  enabled : Bool
  direction : Direction
  command : Nat
  watch : Option Nat
  faultHigh : Bool
  activeHigh : Bool
  deriving DecidableEq, Repr

/-- The raw need and the need of a port in ACQUIRING (R143 to R145). -/
structure Need where
  raw : Nat
  need : Nat
  deriving DecidableEq, Repr, Inhabited

/-- What the pool holds for a port besides its phases and its place in the queue (R143). -/
structure PortPhases where
  reserved : Nat
  need : Option Need
  deriving DecidableEq, Repr, Inhabited

/-- The phases and the phase wait queue, a port with its shortfall, oldest first (R141, R147). -/
structure Pool where
  phases : Vector Phase 16
  queue : List (Fin 8 × Nat)
  deriving DecidableEq, Repr

/-! ### Protection unit (R164, R174, R185) -/

/-- Fault codes, in the order of R173. -/
inductive FaultCode where
  | reversedPack | voltageHigh | voltageLow | chargeCurrentHigh | dischargeCurrentHigh | temperatureHigh
  | thermalSwitch | measurementLost | packRemoved | programFault | lockout
  deriving DecidableEq, Repr, Inhabited

/-- The program, step index and run cycle count of the present or last run (R174). -/
structure RunMark where
  program : Fin 32
  stepIndex : Nat
  runCycles : Nat
  deriving DecidableEq, Repr

/-- A fault record (R174); `run` is none for a port that has never run. -/
structure FaultRecord where
  code : FaultCode
  time : Nat
  portState : PortState
  run : Option RunMark
  voltage : Nat
  current : Int
  temperature : Int
  additional : Nat
  deriving DecidableEq, Repr

/-- What protection holds for a port (R164). -/
structure PortProtection where
  requested : Envelope
  effective : Envelope
  clamped : Bool
  filters : Vector Nat 6
  thermalOpen : Bool
  thermalLatch : Bool
  fault : Option FaultRecord
  deriving DecidableEq, Repr

/-- Lockout policies (R164). -/
inductive LockoutPolicy where
  | hold | restart
  deriving DecidableEq, Repr, Inhabited

/-- The cabinet state with the lockout stage (R164). `waiting true` waits, under RESTART, for the feedback to open (R182);
`waiting false` waits for CLEAR_LOCKOUT. -/
inductive CabinetState where
  | normal
  | cooldown (remaining : Nat)
  | waiting (restarts : Bool)
  deriving DecidableEq, Repr, Inhabited

/-- Contactor states (R164). -/
inductive ContactorState where
  | opened | closing | closed
  deriving DecidableEq, Repr, Inhabited

/-- Causes of the cabinet fault log, in the order of R185. -/
inductive LogCause where
  | disableAckFailure | linkDropped | contactorStuck | contactorFault
  deriving DecidableEq, Repr, Inhabited

/-- Effects of a log entry, in the order of R185. -/
inductive LogEffect where
  | lockoutEntered | duringLockout | noLockout
  deriving DecidableEq, Repr, Inhabited

/-- A cabinet fault log entry (R185). -/
structure LogEntry where
  cause : LogCause
  phase : Option (Fin 16)
  time : Nat
  effect : LogEffect
  deriving DecidableEq, Repr

/-- The cabinet-wide state of the protection unit (R164). `closingExpired` is a mark of the model's own: a closing has expired in
the present ms with its feedback OPEN, and neither CLOSE_CONTACTOR nor a closing feedback has been taken since, so a feedback that
closes falls within the opening watch of that expiry (R188; log entry 28). -/
structure Protection where
  limits : Limits
  locked : Bool
  policy : LockoutPolicy
  cabinet : CabinetState
  contactor : ContactorState
  drive : Bool
  closingWatch : Option Nat
  openingWatch : Option Nat
  closingExpired : Bool
  feedbackClosed : Bool
  doorOpen : Bool
  log : List LogEntry
  overflow : Nat
  time : Nat
  deriving DecidableEq, Repr

/-! ### Replies and the command unit (R204, R206, R207) -/

/-- Reply codes: OK, then the refusal codes in the order of 00_scope.md (R214). -/
inductive ReplyCode where
  | ok | notOwner | badState | inUse | noSpace | badField | locked | empty | duplicate | pinLimit | noDcLink | unknown
  | frameError
  deriving DecidableEq, Repr, Inhabited

/-- A reply (R207). -/
structure Reply where
  code : ReplyCode
  clamped : Bool
  data : List Byte
  deriving DecidableEq, Repr, Inhabited

/-- A response of the station port (R206): number, command code answered, reply. -/
structure Response where
  number : Nat
  command : Nat
  reply : Reply
  deriving DecidableEq, Repr, Inhabited

/-- The command unit (R204), the port owners apart. `transaction` is the response frame latched while the select line is
asserted (R205). -/
structure CommandUnit where
  stationSet : Attention
  hallSet : Attention
  stationMask : Attention
  hallMask : Attention
  response : Option Response
  responseNumber : Nat
  transaction : Option (List Byte)
  deriving DecidableEq, Repr

/-! ### Hall chain interface (R189) -/

/-- Chain states, in the order of R189. -/
inductive ChainState where
  | unlinked | discovered | stale
  deriving DecidableEq, Repr, Inhabited

/-- A report slot waiting for the upstream frame from below, with the ms since the CYCLE frame was taken (R201). -/
structure Uplink where
  slot : List Byte
  elapsed : Nat
  deriving DecidableEq, Repr, Inhabited

/-- The hall chain interface (R189), with the report slot of R201 that waits for the list from below. -/
structure Chain where
  number : Option Nat
  state : ChainState
  live : Bool
  downstream : Bool
  last : Bool
  answerWatch : Option Nat
  errors : Nat
  validRun : Nat
  silence : Option Nat
  frameLines : Option Byte
  asserted : Byte
  entry : Option Budget
  superframe : Option Nat
  lastTag : Option Byte
  lastResponse : Option Reply
  responsePending : Bool
  breaks : Nat
  uplink : Option Uplink
  deriving DecidableEq, Repr

/-! ### The part -/

/-- Everything held for one port. -/
structure Port where
  run : RunContext
  owner : Owner
  results : List ResultRecord
  lost : Nat
  intake : Intake
  acct : Accounts
  ident : Ident
  alloc : GrantEntry
  phases : PortPhases
  prot : PortProtection
  mask : Byte
  deriving DecidableEq, Repr

/-- Something the part has put on a line: a chain frame, the bytes of a station transaction, an ID read request, a sample
strobe. -/
inductive Sent where
  | upstream (frame : List Byte)
  | downstream (frame : List Byte)
  | station (bytes : List Byte)
  | idRequest (p : Fin 8)
  | strobe (p : Fin 8)
  deriving DecidableEq, Repr

/-- The state of the GC-840. `sent` (what the part has put on its lines since power-on, oldest first) and `instants` (how many
free values have been drawn, Config.consumerOrder) are the model's own; `pending` is the queue of waiting commands. -/
structure State where
  ports : Vector Port 8
  headers : Vector Header 32
  history : History
  alloc : Allocator
  pool : Pool
  prot : Protection
  chain : Chain
  cmd : CommandUnit
  sent : List Sent
  instants : Nat
  pending : List Instr
  deriving DecidableEq, Repr

/-! ### Power-on reset values -/

/-- No flag set, or no mask mark set. -/
def noFlags : Attention := ⟨Vector.replicate 8 0, 0⟩

/-- POWER_ON set and every other flag clear (R204); POWER_ON is bit 4 of the cabinet byte (R214). -/
def powerOnFlags : Attention := ⟨Vector.replicate 8 0, 0x10⟩

/-- An EMPTY header (R3). -/
def Header.empty : Header := ⟨.empty, .station, [], 0, []⟩

/-- The cabinet limits at power-on reset (R164). -/
def resetLimits : Limits := ⟨1000000, 320000, 320000, 1500, 320000⟩

/-- The requested and effective envelope at power-on reset (R164). -/
def resetEnvelope : Envelope := ⟨1000000, 0, 320000, 320000, 1500⟩

/-- The default calibration pair (R56). -/
def Calibration.default : Calibration := ⟨0, 32768⟩

/-- The intake after power-on reset (R58, R63, R70, R71, R75). DESIGN CHOICE (log entry 38): no strobe of before the reset awaits its
reply, so a reply to one that arrives after the reset is discarded. -/
def Intake.atReset : Intake where
  voltageCal := .default
  currentCal := .default
  temperatureCal := .default
  latest := none
  missed := 0
  strobe := .none
  settle := .empty
  edges := .off
  defaults := ⟨200, 20, 100, 16⟩
  captureA := none
  slot := none
  captureValid := false
  overwrite := false

/-- A port's line of the grant table after either reset (R117). -/
def GrantEntry.none : GrantEntry := ⟨Option.none, 0, 0, false, 0⟩

/-- A port after power-on reset whose presence contact and thermal switch have the given levels. -/
def Port.atReset (present thermalOpen : Bool) : Port where
  run := .initial
  owner := .none
  results := []
  lost := 0
  intake := .atReset
  acct := .cleared
  ident := ⟨present, none, .none, none, none⟩
  alloc := .none
  phases := ⟨0, none⟩
  prot := ⟨resetEnvelope, resetEnvelope, false, Vector.replicate 6 0, thermalOpen, false, none⟩
  mask := 0

/-- A phase after power-on reset, before its fault line is looked at (R141). -/
def Phase.atReset (faultHigh activeHigh : Bool) : Phase := ⟨.free, false, .charge, 0, none, faultHigh, activeHigh⟩

/-- The allocator after power-on reset (R117). -/
def Allocator.atReset : Allocator where
  source := .standalone
  inForce := ⟨0, 0⟩
  standalone := ⟨0, 0⟩
  fallback := ⟨0, 0⟩
  lastRound := ⟨⟨0, 0⟩, 0, 0, .unthrottled⟩
  roundCount := 0
  rampTime := 50

/-- The protection unit after power-on reset with the given levels of feedback and door (R164). -/
def Protection.atReset (feedbackClosed doorOpen : Bool) : Protection where
  limits := resetLimits
  locked := false
  policy := .hold
  cabinet := .normal
  contactor := .opened
  drive := false
  closingWatch := none
  openingWatch := none
  closingExpired := false
  feedbackClosed := feedbackClosed
  doorOpen := doorOpen
  log := []
  overflow := 0
  time := 0

/-- The hall chain interface after power-on reset (R189). DESIGN CHOICE (log entry 23): a report slot that waits for the list from
below, of which R189 lists no item and no reset value, is dropped. -/
def Chain.atReset : Chain where
  number := none
  state := .unlinked
  live := false
  downstream := false
  last := false
  answerWatch := none
  errors := 0
  validRun := 0
  silence := none
  frameLines := none
  asserted := 0
  entry := none
  superframe := none
  lastTag := none
  lastResponse := none
  responsePending := false
  breaks := 0
  uplink := none

/-- The command unit after power-on reset (R204). DESIGN CHOICE (log entry 36): a transaction in progress is dropped. -/
def CommandUnit.atReset : CommandUnit where
  stationSet := powerOnFlags
  hallSet := powerOnFlags
  stationMask := noFlags
  hallMask := noFlags
  response := none
  responseNumber := 0
  transaction := none

/-- Every block at its power-on values with the input lines at the given levels, before the levels act (R93, R141, R164). -/
def State.blocksAtReset (lines : InputLines) : State where
  ports := Vector.ofFn fun p : Fin 8 => Port.atReset (lines.presenceClosed.getLsbD p) (lines.thermalOpen.getLsbD p)
  headers := Vector.replicate 32 Header.empty
  history := ⟨Vector.replicate 64 none, [], [], []⟩
  alloc := .atReset
  pool := ⟨Vector.ofFn fun f : Fin 16 => Phase.atReset (lines.phaseFault.getLsbD f) (lines.phaseActive.getLsbD f), []⟩
  prot := Protection.atReset lines.feedbackClosed lines.doorOpen
  chain := .atReset
  cmd := .atReset
  sent := []
  instants := 0
  pending := []

/-- Line levels at which nothing acts at a reset: no pack present, switches CLOSED, fault and active lines low, door CLOSED,
contactor feedback OPEN (DESIGN CHOICE, log entry 2: the manual takes the levels from the lines). -/
def quietLines : InputLines := ⟨0, 0, 0, 0, false, false⟩

/-- The part right after power-on reset, with every input line quiet. -/
def State.reset : State := State.blocksAtReset quietLines

end Sys2Proof.Machine
end

