-- ==== Sys2Proof/Machine/Bytes.lean ====
section
/-! DEFINITION. How fields and frames become bytes and back (R214, R215): big-endian numbers, two's complement, the two kinds of
check, and the codes of the enumerated values. -/

namespace Sys2Proof.Machine

/-! ### Numbers -/

/-- A number in `k` bytes, most significant first (R214). -/
def bytesOf : Nat → Nat → List Byte
  | 0, _ => []
  | k + 1, n => BitVec.ofNat 8 (n / 256 ^ k) :: bytesOf k n

/-- The number that bytes spell, most significant first (R214). -/
def natOf : List Byte → Nat
  | [] => 0
  | b :: bs => b.toNat * 256 ^ bs.length + natOf bs

/-- A signed number in `k` bytes of two's complement (R214). -/
def signedBytes (k : Nat) (i : Int) : List Byte := bytesOf k (i % (256 ^ k : Nat)).toNat

/-- The signed number that bytes spell in two's complement (R214). -/
def intOf (bs : List Byte) : Int :=
  if 2 * natOf bs < 256 ^ bs.length then natOf bs else (natOf bs : Int) - (256 ^ bs.length : Nat)

/-- The `len` bytes at offset `off`. -/
def slice (bs : List Byte) (off len : Nat) : List Byte := (bs.drop off).take len

/-- The unsigned field of `len` bytes at offset `off`. -/
def natAt (bs : List Byte) (off len : Nat) : Nat := natOf (slice bs off len)

/-- The signed field of `len` bytes at offset `off`. -/
def intAt (bs : List Byte) (off len : Nat) : Int := intOf (slice bs off len)

/-- One byte. -/
def u8 (n : Nat) : List Byte := bytesOf 1 n
/-- Two bytes. -/
def u16 (n : Nat) : List Byte := bytesOf 2 n
/-- Four bytes. -/
def u32 (n : Nat) : List Byte := bytesOf 4 n
/-- Eight bytes. -/
def u64 (n : Nat) : List Byte := bytesOf 8 n
/-- Two bytes, signed. -/
def i16 (i : Int) : List Byte := signedBytes 2 i
/-- Four bytes, signed. -/
def i32 (i : Int) : List Byte := signedBytes 4 i

/-- A mark or a two-valued level, as an enumerated value. -/
def flagByte (b : Bool) : List Byte := u8 (if b then 1 else 0)

/-- An optional field: a presence byte, then the value bytes, 0 when absent (R214). -/
def optional (width : Nat) (v : Option (List Byte)) : List Byte :=
  match v with
  | some bs => u8 1 ++ bs
  | none => u8 0 ++ List.replicate width 0

/-- "None" in a one-byte number field is 255 (R214). -/
def orNone (n : Option Nat) : List Byte := u8 (n.getD 255)

/-- A list of varying length: a count byte, then its items (R214). -/
def counted (items : List (List Byte)) : List Byte := u8 items.length ++ items.flatten

/-! ### Checks -/

/-- The bytes sum to 0 modulo 256 (R55, R96, R206). -/
def sumsToZero (bs : List Byte) : Bool := (bs.map BitVec.toNat).sum % 256 = 0

/-- The byte that makes the bytes before it sum to 0 modulo 256. -/
def checkByte (bs : List Byte) : Byte := BitVec.ofNat 8 (256 - (bs.map BitVec.toNat).sum % 256)

/-- One bit of the CRC-16 of R214: generator x^16 + x^12 + x^5 + 1. -/
def crcShift (c : BitVec 16) : BitVec 16 := if c.msb then (c <<< 1) ^^^ 0x1021 else c <<< 1

/-- One byte of the CRC-16, most significant bit first. -/
def crcByte (c : BitVec 16) (b : Byte) : BitVec 16 :=
  crcShift (crcShift (crcShift (crcShift (crcShift (crcShift (crcShift (crcShift (c ^^^ (b.setWidth 16 <<< 8)))))))))

/-- The CRC-16 of a chain frame's bytes before its check: initial value 65,535. -/
def crc16 (bs : List Byte) : BitVec 16 := bs.foldl crcByte 0xFFFF

/-- A chain frame: its bytes and then their check, most significant byte first. -/
def withCrc (bs : List Byte) : List Byte := bs ++ u16 (crc16 bs).toNat

/-- The last two bytes of a chain frame are the check of those before. -/
def crcGood (frame : List Byte) : Bool :=
  decide (3 ≤ frame.length) && decide (frame.drop (frame.length - 2) = u16 (crc16 (frame.take (frame.length - 2))).toNat)

/-! ### Codes of enumerated values: 0 upward in the order of the rule that defines them (R214) -/

/-- Code of a kind (R7). -/
def kindCode : Kind → Nat
  | .ccCharge => 0 | .cccvCharge => 1 | .ccDischarge => 2 | .cpDischarge => 3 | .rest => 4 | .pulse => 5 | .loop => 6
  | .endRun => 7

/-- The kind a code names (R7, R216). -/
def kindOf : Nat → Option Kind
  | 0 => some .ccCharge | 1 => some .cccvCharge | 2 => some .ccDischarge | 3 => some .cpDischarge | 4 => some .rest
  | 5 => some .pulse | 6 => some .loop | 7 => some .endRun | _ => none

/-- Code of a condition's quantity (R15). -/
def quantityCode : CondQuantity → Nat
  | .voltage => 0 | .current => 1 | .temperature => 2 | .stepTime => 3 | .stepCharge => 4 | .stepEnergy => 5
  | .settleGrade => 6 | .throttledTime => 7

/-- The quantity a code names (R15, R216). -/
def quantityOf : Nat → Option CondQuantity
  | 0 => some .voltage | 1 => some .current | 2 => some .temperature | 3 => some .stepTime | 4 => some .stepCharge
  | 5 => some .stepEnergy | 6 => some .settleGrade | 7 => some .throttledTime | _ => none

/-- Code of a relation (R16). -/
def relationCode : Relation → Nat
  | .atOrAbove => 0 | .atOrBelow => 1

/-- The relation a code names (R16, R216). -/
def relationOf : Nat → Option Relation
  | 0 => some .atOrAbove | 1 => some .atOrBelow | _ => none

/-- Code of an action (R16). -/
def actionCode : Action → Nat
  | .next => 0 | .goto _ => 1 | .endRun => 2 | .faultRun => 3

/-- The action that a code and a GOTO operand name; the operand is read for GOTO only (R16, R216). -/
def actionOf (code operand : Nat) : Option Action :=
  match code with
  | 0 => some .next | 1 => some (.goto operand) | 2 => some .endRun | 3 => some .faultRun | _ => none

/-- The GOTO operand byte of an action: 0 unless it is a GOTO (R216). -/
def actionOperand : Action → Nat
  | .goto t => t
  | _ => 0

/-- Code of a master: an author is STATION or HALL (R1). -/
def masterCode : Master → Nat
  | .station => 0 | .hall => 1

/-- Code of a header state (R1). -/
def headerStateCode : HeaderState → Nat
  | .empty => 0 | .building => 1 | .ready => 2

/-- Code of a port state (R23). -/
def portStateCode : PortState → Nat
  | .vacant => 0 | .identifying => 1 | .unidentified => 2 | .ready => 3 | .transfer => 4 | .running => 5 | .holding => 6
  | .held => 7 | .ending => 8 | .faulted => 9

/-- Code of a transfer stage (R23). -/
def stageCode : Stage → Nat
  | .draining => 0 | .acquiring => 1 | .ramping => 2

/-- Code of a sub-phase (R23). -/
def subPhaseCode : SubPhase → Nat
  | .none => 0 | .cc => 1 | .cv => 2 | .base => 3 | .pulse => 4

/-- Code of a run outcome (R23). -/
def outcomeCode : RunOutcome → Nat
  | .none => 0 | .completed => 1 | .aborted => 2 | .faulted => 3

/-- Code of an owner (R23). -/
def ownerCode : Owner → Nat
  | .none => 0 | .station => 1 | .hall => 2

/-- Code of an end reason (R214). -/
def endReasonCode : EndReason → Nat
  | .condition n => n | .duration => 4 | .aborted => 5 | .fault => 6 | .packRemoved => 7 | .lockout => 8

/-- Code of a direction (R141). -/
def directionCode : Direction → Nat
  | .charge => 0 | .discharge => 1

/-- Code of a last failure (R93). -/
def idFailureCode : IdFailure → Nat
  | .none => 0 | .noReply => 1 | .badCheck => 2 | .zeroSerial => 3 | .serialInUse => 4

/-- Code of a budget source (R117). -/
def sourceCode : BudgetSource → Nat
  | .standalone => 0 | .hallLive => 1 | .fallback => 2

/-- Code of a fault code (R173). -/
def faultCodeCode : FaultCode → Nat
  | .reversedPack => 0 | .voltageHigh => 1 | .voltageLow => 2 | .chargeCurrentHigh => 3 | .dischargeCurrentHigh => 4
  | .temperatureHigh => 5 | .thermalSwitch => 6 | .measurementLost => 7 | .packRemoved => 8 | .programFault => 9
  | .lockout => 10

/-- Code of a lockout policy (R164). -/
def policyCode : LockoutPolicy → Nat
  | .hold => 0 | .restart => 1

/-- The policy a code names (R182). -/
def policyOf : Nat → Option LockoutPolicy
  | 0 => some .hold | 1 => some .restart | _ => none

/-- The settle-edge setting a code names (R70). -/
def edgesOf : Nat → Option SettleEdges
  | 0 => some .rise | 1 => some .fall | 2 => some .both | 3 => some .off | _ => none

/-- Code of a settle-edge setting (R70). -/
def edgesCode : SettleEdges → Nat
  | .rise => 0 | .fall => 1 | .both => 2 | .off => 3

/-- Code of a contactor state (R164). -/
def contactorCode : ContactorState → Nat
  | .opened => 0 | .closing => 1 | .closed => 2

/-- Code of a chain state (R189). -/
def chainStateCode : ChainState → Nat
  | .unlinked => 0 | .discovered => 1 | .stale => 2

/-- Code of a cause of the cabinet fault log (R185). -/
def logCauseCode : LogCause → Nat
  | .disableAckFailure => 0 | .linkDropped => 1 | .contactorStuck => 2 | .contactorFault => 3

/-- Code of an effect of the cabinet fault log (R185). -/
def logEffectCode : LogEffect → Nat
  | .lockoutEntered => 0 | .duringLockout => 1 | .noLockout => 2

/-- A reply code: 0 for OK, the refusal codes 1 to 12 in the order of 00_scope.md (R214). -/
def replyCodeCode : ReplyCode → Nat
  | .ok => 0 | .notOwner => 1 | .badState => 2 | .inUse => 3 | .noSpace => 4 | .badField => 5 | .locked => 6 | .empty => 7
  | .duplicate => 8 | .pinLimit => 9 | .noDcLink => 10 | .unknown => 11 | .frameError => 12

/-! ### Records (11_record_and_frame_layouts.md, "Stored records") -/

/-- One condition slot: quantity, relation, threshold, action, GOTO operand (8 bytes). -/
def conditionBytes (c : Condition) : List Byte :=
  u8 (quantityCode c.quantity) ++ u8 (relationCode c.relation) ++ i32 c.threshold ++ u8 (actionCode c.action)
    ++ u8 (actionOperand c.action)

/-- A step record in its 74 bytes, with the loop counter number byte given. -/
def stepBytes (r : StepRecord) (counter : Nat) : List Byte :=
  u8 (kindCode r.kind) ++ u8 r.level ++ u32 r.current ++ u32 r.power ++ u32 r.cvVoltage ++ u16 r.cvTolerance
    ++ u16 r.settleTolerance ++ u32 r.duration ++ i32 r.baseCurrent ++ i32 r.pulseCurrent ++ u16 r.baseTime
    ++ u16 r.pulseTime ++ u16 r.captureDelay ++ u8 r.loopTarget ++ u16 r.repeatCount ++ u8 r.cycleMark
    ++ u8 r.conditions.length ++ (r.conditions.map conditionBytes).flatten
    ++ List.replicate (32 - 8 * r.conditions.length) 0 ++ u8 counter

/-- A condition from its slot, or none where a code is none of those of R15 and R16 (R6, R216). The threshold is signed for
TEMPERATURE and unsigned for every other quantity. -/
def parseCondition (slot : List Byte) : Option Condition :=
  match quantityOf (natAt slot 0 1), relationOf (natAt slot 1 1), actionOf (natAt slot 6 1) (natAt slot 7 1) with
  | some q, some r, some a =>
    some ⟨q, r, if q = .temperature then intAt slot 2 4 else natAt slot 2 4, a⟩
  | _, _, _ => none

/-- The first `n` condition slots, all of which must be well formed. -/
def parseConditions : Nat → List Byte → Option (List Condition)
  | 0, _ => some []
  | n + 1, bs =>
    match parseCondition (bs.take 8), parseConditions n (bs.drop 8) with
    | some c, some cs => some (c :: cs)
    | _, _ => none

/-- Whether a kind carries a current setpoint (R7). -/
def carriesCurrent : Kind → Bool
  | .ccCharge | .cccvCharge | .ccDischarge => true
  | _ => false

/-- The power kinds of R7. -/
def isPowerKind : Kind → Bool
  | .ccCharge | .cccvCharge | .ccDischarge | .cpDischarge => true
  | _ => false

/-- The power steps of R7: the power kinds and PULSE. -/
def isPowerStep : Kind → Bool
  | .ccCharge | .cccvCharge | .ccDischarge | .cpDischarge | .pulse => true
  | _ => false

/-- The timed steps of R7: all but LOOP and END. -/
def isTimed : Kind → Bool
  | .loop | .endRun => false
  | _ => true

/-- The record a slot stores when the bytes are written: the fields the kind carries, 0 in the others, the read conditions;
none where the record is malformed (R6, R7, R216). DESIGN CHOICE (log entry 37): a condition count above 4 is malformed in a LOOP or an
END too. -/
def parseStep (bs : List Byte) : Option StepRecord :=
  match kindOf (natAt bs 0 1) with
  | none => none
  | some k =>
    if 4 < natAt bs 40 1 then none
    else
      match if isTimed k then parseConditions (natAt bs 40 1) (bs.drop 41) else some [] with
      | none => none
      | some cs =>
        let only (c : Bool) (n : Nat) : Nat := if c then n else 0
        let onlyInt (c : Bool) (i : Int) : Int := if c then i else 0
        some
          { kind := k
            level := only (isPowerStep k) (natAt bs 1 1)
            current := only (carriesCurrent k) (natAt bs 2 4)
            power := only (k = .cpDischarge) (natAt bs 6 4)
            cvVoltage := only (k = .cccvCharge) (natAt bs 10 4)
            cvTolerance := only (k = .cccvCharge) (natAt bs 14 2)
            settleTolerance := only (isPowerStep k) (natAt bs 16 2)
            duration := only (isTimed k) (natAt bs 18 4)
            baseCurrent := onlyInt (k = .pulse) (intAt bs 22 4)
            pulseCurrent := onlyInt (k = .pulse) (intAt bs 26 4)
            baseTime := only (k = .pulse) (natAt bs 30 2)
            pulseTime := only (k = .pulse) (natAt bs 32 2)
            captureDelay := only (k = .pulse) (natAt bs 34 2)
            loopTarget := only (k = .loop) (natAt bs 36 1)
            repeatCount := only (k = .loop) (natAt bs 37 2)
            cycleMark := only (k = .loop) (natAt bs 39 1)
            conditions := cs }

/-- A result record in its 47 bytes. Marks: bit 0 clamped; bits 1 and 2 resistance, 0 not a PULSE, 1 valid, 2 invalid. -/
def resultBytes (r : ResultRecord) : List Byte :=
  orNone (r.program.map Fin.val) ++ u8 r.stepIndex ++ u8 (kindCode r.kind) ++ u8 (endReasonCode r.reason) ++ u32 r.runCycles
    ++ u32 r.stepTime ++ u32 r.chargeIn ++ u32 r.chargeOut ++ u32 r.energyIn ++ u32 r.energyOut ++ u32 r.endVoltage
    ++ i32 r.endCurrent ++ i16 r.maxTemp ++ u32 r.throttledTime
    ++ u8 ((if r.clamped then 1 else 0)
        + (match r.resistance with | .notPulse => 0 | .valid _ => 2 | .invalid => 4))
    ++ i32 (match r.resistance with | .valid o => o | _ => 0)

/-- A quantity of charge: whole count (4), residue (4). -/
def chargeBytes (q : Quantity) : List Byte := u32 q.whole ++ u32 q.residue
/-- A quantity of energy: whole count (4), residue (8). -/
def energyBytes (q : Quantity) : List Byte := u32 q.whole ++ u64 q.residue
/-- A quantity of time: whole count (4), residue (2). -/
def timeBytes (q : Quantity) : List Byte := u32 q.whole ++ u16 q.residue

/-- The five accounted quantities in the order of R78 (46 bytes). -/
def tallyBytes (t : Tally) : List Byte :=
  chargeBytes t.chargeIn ++ chargeBytes t.chargeOut ++ energyBytes t.energyIn ++ energyBytes t.energyOut ++ timeBytes t.time

/-- A resistance: presence byte and value (5 bytes). -/
def resistanceBytes (r : Option Int) : List Byte := optional 4 (r.map i32)

/-- A history record in its 78 bytes, with an entry number and a time of eviction. -/
def historyBytes (e : Entry) (number time : Nat) : List Byte :=
  u64 e.serial ++ u32 e.cycles ++ tallyBytes e.totals ++ i16 e.maxTemp ++ u16 e.faultCount ++ resistanceBytes e.lastResistance
    ++ orNone (e.lastPort.map Fin.val)
    ++ u8 ((if e.mounted.isSome then 1 else 0) + (if e.pinned then 2 else 0) + (if e.totals.saturated then 4 else 0))
    ++ u8 number ++ u64 time

/-- A charge quantity at an offset. -/
def chargeAt (bs : List Byte) (off : Nat) : Quantity := ⟨natAt bs off 4, natAt bs (off + 4) 4⟩
/-- An energy quantity at an offset. -/
def energyAt (bs : List Byte) (off : Nat) : Quantity := ⟨natAt bs off 4, natAt bs (off + 4) 8⟩
/-- A time quantity at an offset. -/
def timeAt (bs : List Byte) (off : Nat) : Quantity := ⟨natAt bs off 4, natAt bs (off + 4) 2⟩

/-- The entry that a history record's bytes spell, with its mounted and pinned marks not read (R111, R216). The last
resistance is read only where its presence byte is 1, the last port only below 8; `importRefused` judges the others. -/
def parseHistory (bs : List Byte) : Entry where
  serial := natAt bs 0 8
  cycles := natAt bs 8 4
  totals :=
    { chargeIn := chargeAt bs 12, chargeOut := chargeAt bs 20, energyIn := energyAt bs 28, energyOut := energyAt bs 40,
      time := timeAt bs 52, saturated := natAt bs 68 1 / 4 % 2 = 1 }
  maxTemp := intAt bs 58 2
  faultCount := natAt bs 60 2
  lastResistance := if natAt bs 62 1 = 1 then some (intAt bs 63 4) else none
  lastPort := if h : natAt bs 67 1 < 8 then some ⟨natAt bs 67 1, h⟩ else none
  mounted := none
  pinned := false

/-- An attention set or mask in its nine bytes (R214). -/
def attentionBytes (a : Attention) : List Byte := a.ports.toList ++ [a.cabinet]

/-- The attention set or mask that nine bytes spell; the unused bits of the cabinet byte are not read (R214, R216). -/
def parseAttention (bs : List Byte) : Attention :=
  ⟨Vector.ofFn fun p : Fin 8 => bs.getD p 0, bs.getD 8 0 &&& 0x3F⟩

end Sys2Proof.Machine
end

