-- ==== Sys2Proof/Machine/Flags.lean ====
section
/-! DEFINITION. The attention flags of the two masters, the attention line and the hall attention summary (R204, R209 to
R212). -/

namespace Sys2Proof.Machine

/-- The per-port flags, in the order of R204. PORT_TAKEN exists in the station set alone. -/
inductive PortFlag where
  | stepEnd | runEnd | fault | hold | settle | capture | phaseWait | portTaken
  deriving DecidableEq, Repr, Inhabited

/-- The cabinet flags, in the order of R204. -/
inductive CabinetFlag where
  | lockout | evictionPending | budgetSourceChanged | phaseOutOfService | powerOn | restarted
  deriving DecidableEq, Repr, Inhabited

/-- The bit of a per-port flag in its port's byte (R214). -/
def portBit : PortFlag → Byte
  | .stepEnd => 0x01 | .runEnd => 0x02 | .fault => 0x04 | .hold => 0x08 | .settle => 0x10 | .capture => 0x20
  | .phaseWait => 0x40 | .portTaken => 0x80

/-- The bit of a cabinet flag in the cabinet byte (R214). -/
def cabinetBit : CabinetFlag → Byte
  | .lockout => 0x01 | .evictionPending => 0x02 | .budgetSourceChanged => 0x04 | .phaseOutOfService => 0x08
  | .powerOn => 0x10 | .restarted => 0x20

/-- A per-port flag is set in an attention set. -/
def hasPortFlag (a : Attention) (p : Fin 8) (f : PortFlag) : Bool := a.ports[p] &&& portBit f != 0

/-- A cabinet flag is set in an attention set. -/
def hasCabinetFlag (a : Attention) (f : CabinetFlag) : Bool := a.cabinet &&& cabinetBit f != 0

/-- An attention set with a per-port flag set. -/
def withPortFlag (a : Attention) (p : Fin 8) (f : PortFlag) : Attention :=
  { a with ports := a.ports.set p (a.ports[p] ||| portBit f) }

/-- An attention set with a cabinet flag set. -/
def withCabinetFlag (a : Attention) (f : CabinetFlag) : Attention := { a with cabinet := a.cabinet ||| cabinetBit f }

/-- An attention set without the flags that a second one names (R211). -/
def withoutFlags (a named : Attention) : Attention :=
  ⟨Vector.ofFn fun p : Fin 8 => a.ports[p] &&& ~~~named.ports[p], a.cabinet &&& ~~~named.cabinet⟩

/-- An event sets a per-port flag in both attention sets (R209). -/
def raisePort (f : PortFlag) (p : Fin 8) (s : State) : State :=
  { s with cmd := { s.cmd with
      stationSet := withPortFlag s.cmd.stationSet p f
      hallSet := withPortFlag s.cmd.hallSet p f } }

/-- An event sets a cabinet flag in both attention sets (R209). -/
def raiseCabinet (f : CabinetFlag) (s : State) : State :=
  { s with cmd := { s.cmd with
      stationSet := withCabinetFlag s.cmd.stationSet f
      hallSet := withCabinetFlag s.cmd.hallSet f } }

/-- PORT_TAKEN is set in the station set alone (R27, R209). -/
def raisePortTaken (p : Fin 8) (s : State) : State :=
  { s with cmd := { s.cmd with stationSet := withPortFlag s.cmd.stationSet p .portTaken } }

/-- The attention set of a master. -/
def attentionSet (m : Master) (s : State) : Attention :=
  match m with
  | .station => s.cmd.stationSet
  | .hall => s.cmd.hallSet

/-- The mask of a master. -/
def attentionMask (m : Master) (s : State) : Attention :=
  match m with
  | .station => s.cmd.stationMask
  | .hall => s.cmd.hallMask

/-- The state with a master's attention set replaced. -/
def setAttentionSet (m : Master) (a : Attention) (s : State) : State :=
  match m with
  | .station => { s with cmd := { s.cmd with stationSet := a } }
  | .hall => { s with cmd := { s.cmd with hallSet := a } }

/-- The state with a master's mask replaced. -/
def setMask (m : Master) (a : Attention) (s : State) : State :=
  match m with
  | .station => { s with cmd := { s.cmd with stationMask := a } }
  | .hall => { s with cmd := { s.cmd with hallMask := a } }

/-- The flags of a set that are unmasked. -/
def unmasked (set mask : Attention) : Attention := withoutFlags set mask

/-- Some flag of a set is set. -/
def anyFlag (a : Attention) : Bool := a.ports.toList.any (· != 0) || a.cabinet != 0

/-- The attention line: asserted while some station flag is set and unmasked (R212). -/
def attentionLine (s : State) : Bool := anyFlag (unmasked s.cmd.stationSet s.cmd.stationMask)

/-- The hall attention summary (R200): port k as bit k, and the unmasked cabinet flags. -/
def hallSummary (s : State) : Byte × Byte :=
  let u := unmasked s.cmd.hallSet s.cmd.hallMask
  (BitVec.ofNat 8 ((List.finRange 8).map fun k : Fin 8 => if u.ports[k] != 0 then 2 ^ k.val else 0).sum, u.cabinet)

end Sys2Proof.Machine
end

