-- ==== Sys2Proof/Machine/Ops.lean ====
section
/-! DEFINITION. The shared operations on the state: one port's items, the program store, result queues, accounting and folds,
fault records, and the forms every command's checks and reply take. -/

namespace Sys2Proof.Machine

/-! ### One port of the state -/

/-- The state with one port changed. -/
def modPort (p : Fin 8) (g : Port → Port) (s : State) : State := { s with ports := s.ports.set p (g s.ports[p]) }

/-- The state with one port's run context changed. -/
def modRun (p : Fin 8) (g : RunContext → RunContext) (s : State) : State :=
  modPort p (fun q => { q with run := g q.run }) s

/-- The state with one port's intake changed. -/
def modIntake (p : Fin 8) (g : Intake → Intake) (s : State) : State :=
  modPort p (fun q => { q with intake := g q.intake }) s

/-- The state with one port's accounts changed. -/
def modAcct (p : Fin 8) (g : Accounts → Accounts) (s : State) : State :=
  modPort p (fun q => { q with acct := g q.acct }) s

/-- The state with one port's identification changed. -/
def modIdent (p : Fin 8) (g : Ident → Ident) (s : State) : State :=
  modPort p (fun q => { q with ident := g q.ident }) s

/-- The state with one port's line of the grant table changed. -/
def modGrant (p : Fin 8) (g : GrantEntry → GrantEntry) (s : State) : State :=
  modPort p (fun q => { q with alloc := g q.alloc }) s

/-- The state with one port's protection changed. -/
def modProt (p : Fin 8) (g : PortProtection → PortProtection) (s : State) : State :=
  modPort p (fun q => { q with prot := g q.prot }) s

/-- The state with one phase changed. -/
def modPhase (f : Fin 16) (g : Phase → Phase) (s : State) : State :=
  { s with pool := { s.pool with phases := s.pool.phases.set f (g s.pool.phases[f]) } }

/-- The state with one program header changed. -/
def modHeader (n : Fin 32) (g : Header → Header) (s : State) : State :=
  { s with headers := s.headers.set n (g s.headers[n]) }

/-- The state with one history entry changed. -/
def modEntry (e : Fin 64) (g : Option Entry → Option Entry) (s : State) : State :=
  { s with history := { s.history with entries := s.history.entries.set e (g s.history.entries[e]) } }

/-- An operation on each port in ascending port number. -/
def forPorts (g : Fin 8 → State → State) (s : State) : State := (List.finRange 8).foldl (fun t p => g p t) s

/-- Something the part puts on one of its lines. -/
def send (x : Sent) (s : State) : State := { s with sent := s.sent ++ [x] }

/-! ### Groups of port states -/

/-- The bound states of R24. -/
def isBound : PortState → Bool
  | .transfer | .running | .holding | .held | .ending => true
  | _ => false

/-- The idle states of R24. -/
def isIdle : PortState → Bool
  | .vacant | .identifying | .unidentified | .ready => true
  | _ => false

/-- The states in which a step is current (R49, R79), which are those that hold causes reach (R45). -/
def hasStep : PortState → Bool
  | .transfer | .running | .holding | .held => true
  | _ => false

/-- The states in which a port's phases are enabled (R155). -/
def isEnabledState : PortState → Bool
  | .transfer | .running | .holding | .ending => true
  | _ => false

/-! ### Replies and common checks (R28, R207) -/

/-- A refusal changes nothing (R207). -/
def refuse (code : ReplyCode) (s : State) : State × Reply := (s, ⟨code, false, []⟩)

/-- A refusal that carries data (R17). -/
def refuseWith (code : ReplyCode) (data : List Byte) (s : State) : State × Reply := (s, ⟨code, false, data⟩)

/-- OK without data. -/
def done (s : State) : State × Reply := (s, ⟨.ok, false, []⟩)

/-- OK with data. -/
def answer (data : List Byte) (s : State) : State × Reply := (s, ⟨.ok, false, data⟩)

/-- OK with the CLAMPED mark where a value was clamped. -/
def doneClamped (clamped : Bool) (s : State) : State × Reply := (s, ⟨.ok, clamped, []⟩)

/-- The port-number check (R28). -/
def onPort (port : Nat) (s : State) (k : Fin 8 → State × Reply) : State × Reply :=
  if h : port < 8 then k ⟨port, h⟩ else refuse .badField s

/-- The owner that a master is. -/
def ownerOf : Master → Owner
  | .station => .station
  | .hall => .hall

/-- The port-number and ownership checks of a port-changing command (R28). -/
def onOwnPort (m : Master) (port : Nat) (s : State) (k : Fin 8 → State × Reply) : State × Reply :=
  onPort port s fun p => if s.ports[p].owner = ownerOf m then k p else refuse .notOwner s

/-- The program-number check of the program commands (R5, R6, R17, R20, R21). -/
def onProgram (number : Nat) (s : State) (k : Fin 32 → State × Reply) : State × Reply :=
  if h : number < 32 then k ⟨number, h⟩ else refuse .badField s

/-! ### The program store -/

/-- The pool's free count: 512 less the reserved slots (R1). -/
def freeSlots (s : State) : Nat := 512 - (s.headers.toList.map fun h => h.steps.length).sum

/-- The written count of a header (R1). -/
def writtenCount (h : Header) : Nat := (h.steps.filter Option.isSome).length

/-- The record at an index of a program, if it is written. -/
def recordAt (n : Fin 32) (i : Nat) (s : State) : Option StepRecord := (s.headers[n].steps[i]?).join

/-- The counter number of the LOOP at an index (R19). -/
def loopNumberAt (n : Fin 32) (i : Nat) (s : State) : Option Nat := (s.headers[n].loopNumbers[i]?).join

/-- The use count of a program falls by one (R4). -/
def releaseProgram (n : Option (Fin 32)) (s : State) : State :=
  match n with
  | some n => modHeader n (fun h => { h with useCount := h.useCount - 1 }) s
  | none => s

/-! ### Samples -/

/-- The sample a port hands on at a missed sample (R59): the latest arrival, 0 mA from the fourth miss on, zeros before any
arrival. -/
def heldSample (latest : Option Sample) (missed : Nat) : Sample :=
  match latest with
  | none => ⟨0, 0, 0, false⟩
  | some v => if 4 ≤ missed then { v with current := 0 } else v

/-- A port's latest sample, an arrival or a held sample (R124, R174, R200): what was handed on last. DESIGN CHOICE (log entry 39):
before any sample has been handed on it is 0 mV, 0 mA and 0, like the held sample of R59 before any arrival. -/
def latestSample (q : Port) : Sample := heldSample q.intake.latest q.intake.missed

/-- The settle grade derived from the two grades (R63). -/
def settleGrade (d : Settle) : Nat := if d.grade2 then 2 else if d.grade1 then 1 else 0

/-- Both grades cleared and the window restarted (R69). -/
def restartSettle (p : Fin 8) (s : State) : State := modIntake p (fun i => { i with settle := .empty }) s

/-- Capture A discarded (R76). -/
def discardCapture (p : Fin 8) (s : State) : State := modIntake p (fun i => { i with captureA := none }) s

/-! ### Result queue (R51, R52) -/

/-- The result record of a port's current step, with a reason (R51). DESIGN CHOICE (log entry 30): the end values are those of the
sample handed on last, so after four or more missed samples in a row the end current is the held 0 mA of R59. -/
def resultRecord (q : Port) (reason : EndReason) : ResultRecord :=
  let v := latestSample q
  let kind := (q.run.step.map StepRecord.kind).getD .endRun
  { program := q.run.program
    stepIndex := q.run.stepIndex
    kind := kind
    reason := reason
    runCycles := q.run.runCycles
    stepTime := q.run.stepTimer
    chargeIn := q.acct.step.tally.chargeIn.whole
    chargeOut := q.acct.step.tally.chargeOut.whole
    energyIn := q.acct.step.tally.energyIn.whole
    energyOut := q.acct.step.tally.energyOut.whole
    endVoltage := v.voltage
    endCurrent := v.current
    maxTemp := q.acct.step.maxTemp
    throttledTime := q.run.throttledTime
    clamped := q.run.clamped
    resistance :=
      if kind = .pulse then
        match q.run.resistance with
        | some r => .valid r
        | none => .invalid
      else .notPulse }

/-- A record joins the tail of a port's queue, dropping the oldest of 32 (R52). -/
def pushResult (r : ResultRecord) (q : Port) : Port :=
  if q.results.length < 32 then { q with results := q.results ++ [r] }
  else { q with results := q.results.drop 1 ++ [r], lost := min 65535 (q.lost + 1) }

/-- The current step's record is completed and queued, and STEP_END is set (R41, R48, R49). -/
def queueResult (p : Fin 8) (reason : EndReason) (s : State) : State :=
  raisePort .stepEnd p (modPort p (fun q => pushResult (resultRecord q reason) q) s)

/-! ### Accounting (R80 to R83) -/

/-- A contribution to one quantity with its carry, and whether the count reached its top at it (R81, R83). -/
def addTo (divisor contribution : Nat) (q : Quantity) : Quantity × Bool :=
  if q.whole = top32 then (⟨top32, 0⟩, false)
  else if q.residue + contribution < divisor then (⟨q.whole, q.residue + contribution⟩, false)
  else if q.whole + 1 = top32 then (⟨top32, 0⟩, true)
  else (⟨q.whole + 1, q.residue + contribution - divisor⟩, false)

/-- Divisor of a charge quantity (R78). -/
abbrev chargeDivisor : Nat := 3600000
/-- Divisor of an energy quantity (R78). -/
abbrev energyDivisor : Nat := 3600000000000
/-- Divisor of the time under current (R78). -/
abbrev timeDivisor : Nat := 1000

/-- One sample added to a set (R80, R81). -/
def integrate (v : Sample) (t : Tally) : Tally :=
  let i := v.current.natAbs
  let inwards := 0 < v.current
  let outwards := v.current < 0
  let ci := addTo chargeDivisor (if inwards then i else 0) t.chargeIn
  let co := addTo chargeDivisor (if outwards then i else 0) t.chargeOut
  let ei := addTo energyDivisor (if inwards then v.voltage * i else 0) t.energyIn
  let eo := addTo energyDivisor (if outwards then v.voltage * i else 0) t.energyOut
  let tm := addTo timeDivisor (if v.current = 0 then 0 else 1) t.time
  ⟨ci.1, co.1, ei.1, eo.1, tm.1, t.saturated || ci.2 || co.2 || ei.2 || eo.2 || tm.2⟩

/-- One sample taken by the accounting unit: each set receives it in the states of R79. -/
def account (v : Sample) (q : Port) : Port :=
  let a := q.acct
  let a := if hasStep q.run.state then
      { a with step := ⟨integrate v a.step.tally, max a.step.maxTemp v.temperature⟩ } else a
  let a := if isBound q.run.state then { a with run := integrate v a.run } else a
  let a := if q.ident.bound.isSome then
      { a with unfolded := { a.unfolded with
          tally := integrate v a.unfolded.tally, maxTemp := max a.unfolded.maxTemp v.temperature } } else a
  { q with acct := a }

/-! ### Folds (R86, R87) -/

/-- One quantity of an entry at a fold, and whether it is saturated after it (R87). -/
def foldQuantity (divisor : Nat) (e u : Quantity) : Quantity × Bool :=
  let carry := if e.residue + u.residue < divisor then 0 else 1
  let whole := e.whole + u.whole + carry
  if whole < top32 then (⟨whole, e.residue + u.residue - carry * divisor⟩, false) else (⟨top32, 0⟩, true)

/-- The totals of an entry after a fold of an unfolded set (R87). -/
def foldTally (e u : Tally) : Tally :=
  let ci := foldQuantity chargeDivisor e.chargeIn u.chargeIn
  let co := foldQuantity chargeDivisor e.chargeOut u.chargeOut
  let ei := foldQuantity energyDivisor e.energyIn u.energyIn
  let eo := foldQuantity energyDivisor e.energyOut u.energyOut
  let tm := foldQuantity timeDivisor e.time u.time
  ⟨ci.1, co.1, ei.1, eo.1, tm.1, e.saturated || u.saturated || ci.2 || co.2 || ei.2 || eo.2 || tm.2⟩

/-- An entry after a fold of an unfolded set (R85, R87). -/
def foldEntry (u : UnfoldedSet) (e : Entry) : Entry :=
  let totals := foldTally e.totals u.tally
  let cycles := e.cycles + u.cycleDelta
  { e with
    totals := { totals with saturated := totals.saturated || decide (top32 ≤ cycles) }
    cycles := min top32 cycles
    faultCount := min 65535 (e.faultCount + u.faultDelta)
    maxTemp := max e.maxTemp u.maxTemp
    lastResistance := u.lastResistance.orElse fun _ => e.lastResistance }

/-- A fold: the unfolded set of a port is added to the entry bound to the port and cleared; a port with no entry bound is left
as it is (R86, R87). -/
def fold (p : Fin 8) (s : State) : State :=
  match s.ports[p].ident.bound with
  | none => s
  | some e =>
    modAcct p (fun a => { a with unfolded := .cleared })
      (modEntry e (Option.map (foldEntry s.ports[p].acct.unfolded)) s)

/-! ### Fault records (R174) -/

/-- What a fault record holds of the run context. -/
def runMark (r : RunContext) : Option RunMark := r.lastProgram.map fun n => ⟨n, r.stepIndex, r.runCycles⟩

/-- A fault reaches a port: the first writes the record and raises the fault count delta of a bound entry, a further one raises
the additional-fault count (R85, R174). -/
def recordFault (code : FaultCode) (time : Nat) (q : Port) : Port :=
  match q.prot.fault with
  | some r => { q with prot := { q.prot with fault := some { r with additional := min 255 (r.additional + 1) } } }
  | none =>
    let v := latestSample q
    { q with
      prot := { q.prot with
        fault := some ⟨code, time, q.run.state, runMark q.run, v.voltage, v.current, v.temperature, 0⟩ }
      acct := if q.ident.bound.isSome then
          { q.acct with unfolded := { q.acct.unfolded with faultDelta := 1 } } else q.acct }

/-- A fault record is written, with the cabinet time, or its count raised (R174). -/
def writeFault (p : Fin 8) (code : FaultCode) (s : State) : State := modPort p (recordFault code s.prot.time) s

/-! ### Interlock (R45, R196) -/

/-- A port's interlock condition: some line of its mask is asserted. -/
def interlocked (q : Port) (asserted : Byte) : Bool := q.mask &&& asserted != 0

end Sys2Proof.Machine
end

