-- ==== Sys2Proof/Machine/Alloc.lean ====
section
/-! DEFINITION. The power allocator: requests from their bases, rounds, and the budget in force (R117 to R131). -/

namespace Sys2Proof.Machine

/-! ### Requests (R124, R125) -/

/-- The least integer not below `n / d`. -/
def ceilDiv (n d : Nat) : Nat := (n + d - 1) / d

/-- The import formula of R124 for a voltage (mV) and a current (mA). -/
def importRequest (v i : Nat) : Nat := ceilDiv (v * i * 1025) (10 ^ 9)

/-- The export formula of R124 for a voltage (mV) and a current (mA), as a magnitude. -/
def exportRequest (v i : Nat) : Nat := v * i * 975 / 10 ^ 9

/-- The larger-magnitude current of a PULSE; the pulse current where the magnitudes are equal (R124). -/
def pulseRequestCurrent (r : StepRecord) : Int :=
  if r.pulseCurrent.natAbs < r.baseCurrent.natAbs then r.baseCurrent else r.pulseCurrent

/-- The request of a basis before the per-port limit (R124), from the voltage of the port's latest sample and the current `ic`
of its CV row. -/
def formula (v ic : Nat) : Option Basis → Int
  | none => 0
  | some b =>
    match b.step.kind with
    | .ccCharge => importRequest v b.step.current
    | .cccvCharge =>
      if b.subPhase = .cv then importRequest b.step.cvVoltage ic else importRequest v b.step.current
    | .ccDischarge => -(exportRequest v b.step.current : Int)
    | .cpDischarge => -((b.step.power * 975 / 1000 : Nat) : Int)
    | .pulse =>
      let c := pulseRequestCurrent b.step
      if 0 < c then importRequest v c.natAbs else -(exportRequest v c.natAbs : Int)
    | .rest | .loop | .endRun => 0

/-- The current of the CV row of R124: the clamped setpoint in ACQUIRING and RAMPING, the CV integrator otherwise. -/
def cvRequestCurrent (r : RunContext) (b : Option Basis) : Nat :=
  if r.state = .transfer ∧ r.stage ≠ .draining then (b.map fun x => x.step.current).getD 0 else r.cvIntegrator

/-- A request held to the maximum per-port power (R125), and whether it was clamped. -/
def clampRequest (limit : Nat) (r : Int) : Int × Bool :=
  if r.natAbs ≤ limit then (r, false) else (if 0 < r then (limit : Int) else -(limit : Int), true)

/-- A port's line with its request, mark and level formed from its basis (R124 to R126); a level is 0 to 3 (R7, R117). -/
def formRequest (limit : Nat) (q : Port) : Port :=
  let c := clampRequest limit (formula (latestSample q).voltage (cvRequestCurrent q.run q.alloc.basis) q.alloc.basis)
  { q with alloc := { q.alloc with
      request := c.1, requestClamped := c.2, level := min 3 ((q.alloc.basis.map fun b => b.step.level).getD 0) } }

/-! ### Rounds (R127 to R130) -/

/-- The eight requests with their levels, in port order. -/
def requests (s : State) : List (Int × Nat) := s.ports.toList.map fun q => (q.alloc.request, q.alloc.level)

/-- The sum of the magnitudes at a level. -/
def levelSum (mags : List (Nat × Nat)) (l : Nat) : Nat := ((mags.filter fun x => x.2 = l).map Prod.fst).sum

/-- The visit of the levels: the sharing level with the remainder there, or none where every level fits (R129, R130). -/
def sharing (mags : List (Nat × Nat)) : List Nat → Nat → Option (Nat × Nat)
  | [], _ => none
  | l :: ls, rem => if levelSum mags l ≤ rem then sharing mags ls (rem - levelSum mags l) else some (l, rem)

/-- The floor of a shared grant (R129). -/
def sharedFloor (mags : List (Nat × Nat)) (l rem m : Nat) : Nat := m * rem / levelSum mags l

/-- The leftover watts at the sharing level (R129). -/
def leftover (mags : List (Nat × Nat)) (l rem : Nat) : Nat :=
  rem - ((mags.filter fun x => x.2 = l).map fun x => sharedFloor mags l rem x.1).sum

/-- Grants at the sharing level, given out in port order: a floor each, and one watt more to each asking port until the
leftover is used up (R129). -/
def giveOut (mags : List (Nat × Nat)) (l rem : Nat) : List (Nat × Nat) → Nat → List Nat
  | [], _ => []
  | (m, lv) :: xs, left =>
    if l < lv then m :: giveOut mags l rem xs left
    else if lv < l ∨ m = 0 then 0 :: giveOut mags l rem xs left
    else (sharedFloor mags l rem m + (if 0 < left then 1 else 0)) :: giveOut mags l rem xs (left - 1)

/-- The granted magnitudes of one side within a headroom, with the sharing level. -/
def shareOut (mags : List (Nat × Nat)) (headroom : Nat) : List Nat × Option Nat :=
  match sharing mags [3, 2, 1, 0] headroom with
  | none => (mags.map Prod.fst, none)
  | some (l, rem) => (giveOut mags l rem mags (leftover mags l rem), some l)

/-- The import magnitudes with their levels: 0 for a port that asks for no import. -/
def imports (rs : List (Int × Nat)) : List (Nat × Nat) := rs.map fun r => (r.1.toNat, r.2)

/-- The export magnitudes with their levels: 0 for a port that asks for no export. -/
def exports (rs : List (Int × Nat)) : List (Nat × Nat) := rs.map fun r => ((-r.1).toNat, r.2)

/-- The sum of the magnitudes of one side: I_tot or E_tot (R128). -/
def sideTotal (mags : List (Nat × Nat)) : Nat := (mags.map Prod.fst).sum

/-- The eight grants and the outcome of a round (R128 to R130). -/
def allocate (b : Budget) (rs : List (Int × Nat)) : List Int × RoundOutcome :=
  let iTot := sideTotal (imports rs)
  let eTot := sideTotal (exports rs)
  if b.imp + eTot < iTot then
    let g := shareOut (imports rs) (b.imp + eTot)
    ((g.1.zip (exports rs)).map fun x => (x.1 : Int) - x.2.1, .importThrottled (g.2.getD 0))
  else if b.exp + iTot < eTot then
    let g := shareOut (exports rs) (b.exp + iTot)
    ((g.1.zip (imports rs)).map fun x => (x.2.1 : Int) - x.1, .exportThrottled (g.2.getD 0))
  else (rs.map Prod.fst, .unthrottled)

/-- One round: all eight grants, the last round and the round count (R127). -/
def round (s : State) : State :=
  let rs := requests s
  let r := allocate s.alloc.inForce rs
  { s with
    ports := Vector.ofFn fun p : Fin 8 =>
      { s.ports[p] with alloc := { s.ports[p].alloc with grant := r.1.getD p 0 } }
    alloc := { s.alloc with
      lastRound := ⟨s.alloc.inForce, sideTotal (imports rs), sideTotal (exports rs), r.2⟩
      roundCount := (s.alloc.roundCount + 1) % 4294967296 } }

/-- The sum of the eight grants, the net grant of status and report (R140, R200). -/
def netGrant (s : State) : Int := (s.ports.toList.map fun q => q.alloc.grant).sum

/-- A basis event: the port's basis is set, its request formed, and a round run (R123, R126, R127). -/
def setBasis (p : Fin 8) (b : Option Basis) (s : State) : State :=
  round (modPort p (fun q => formRequest s.prot.limits.maxPower { q with alloc := { q.alloc with basis := b } }) s)

/-- The allocation tick: all requests formed again, then a round (R126). -/
def tickRequests (s : State) : State :=
  round { s with ports := s.ports.map (formRequest s.prot.limits.maxPower) }

/-! ### The budget in force (R118 to R122) -/

/-- A value held to 1,000,000 W (R120, R121). -/
def clampBudget (b : Budget) : Budget := ⟨min b.imp 1000000, min b.exp 1000000⟩

/-- A change of the budget in force: a change of source sets BUDGET_SOURCE_CHANGED and runs a round, a change of values alone
runs a round, no change runs nothing (R119). -/
def changeBudget (src : BudgetSource) (b : Budget) (s : State) : State :=
  let t := { s with alloc := { s.alloc with source := src, inForce := b } }
  if s.alloc.source ≠ src then round (raiseCabinet .budgetSourceChanged t)
  else if s.alloc.inForce ≠ b then round t
  else s

/-- SET_STANDALONE_BUDGET (R121). -/
def setStandalone (b : Budget) (s : State) : State × Reply :=
  let c := clampBudget b
  let t := { s with alloc := { s.alloc with standalone := c } }
  doneClamped (c ≠ b) (if s.alloc.source = .standalone then changeBudget .standalone c t else t)

/-- SET_FALLBACK_BUDGET (R122). -/
def setFallback (m : Master) (b : Budget) (s : State) : State × Reply :=
  if m = .station then refuse .notOwner s
  else
    let c := clampBudget b
    let t := { s with alloc := { s.alloc with fallback := c } }
    doneClamped (c ≠ b) (if s.alloc.source = .fallback then changeBudget .fallback c t else t)

/-- SET_RAMP_TIME (R139). -/
def setRamp (time : Nat) (s : State) : State × Reply :=
  let t := max 10 (min 500 time)
  doneClamped (t ≠ time) { s with alloc := { s.alloc with rampTime := t } }

end Sys2Proof.Machine
end

