-- ==== Sys2Proof/Machine/Pool.lean ====
section
/-! DEFINITION. The phase pool: assignment, need, the phase wait queue, releases, enables and disables, the current split and
the phase outputs (R141 to R163). -/

namespace Sys2Proof.Machine

/-! ### Counting (R141, R143, R152) -/

/-- The gang of a port: its assigned phases in ascending number (R152). -/
def gang (p : Fin 8) (s : State) : List (Fin 16) :=
  (List.finRange 16).filter fun f : Fin 16 => s.pool.phases[f].state = .assigned p

/-- The held count of a port (R143). -/
def heldCount (p : Fin 8) (s : State) : Nat := (gang p s).length

/-- The FREE phases in ascending number. -/
def freePhases (s : State) : List (Fin 16) :=
  (List.finRange 16).filter fun f : Fin 16 => s.pool.phases[f].state = .free

/-- The FREE count (R141). -/
def freeCount (s : State) : Nat := (freePhases s).length

/-- The in-service count (R141). -/
def inServiceCount (s : State) : Nat :=
  ((List.finRange 16).filter fun f : Fin 16 => s.pool.phases[f].state ≠ .outOfService).length

/-- The phase capacity of a port (R135, R152), mA. -/
def phaseCapacity (p : Fin 8) (s : State) : Nat := 40000 * heldCount p s

/-- The gang position of a phase, k of n (R152). -/
def gangPosition (f : Fin 16) (s : State) : Option (Nat × Nat) :=
  match s.pool.phases[f].state with
  | .assigned p => some ((gang p s).idxOf f, heldCount p s)
  | _ => none

/-! ### Enables and disables (R155, R160) -/

/-- A disable: the enable falls with the reference and the command, and an acknowledgement watch begins unless one is pending or
the active line reads low (R155, R160). A phase that is disabled already is left disabled with command 0 mA. -/
def disabled (ph : Phase) : Phase :=
  if ph.enabled then
    { ph with enabled := false, command := 0
              watch := match ph.watch with
                | some w => some w
                | none => if ph.activeHigh then some 0 else none }
  else { ph with command := 0 }

/-- The enable of a phase of an enabled port rises unless a watch is pending (R155). -/
def enabled (ph : Phase) : Phase := if ph.watch.isNone then { ph with enabled := true } else ph

/-- A disable of one phase. -/
def disablePhase (f : Fin 16) (s : State) : State := modPhase f disabled s

/-- Every phase of a port disabled at once (R49). -/
def disablePort (p : Fin 8) (s : State) : State := (gang p s).foldl (fun t f => disablePhase f t) s

/-- The enables of a port's phases follow the port's state (R155). -/
def refreshEnables (p : Fin 8) (s : State) : State :=
  if isEnabledState s.ports[p].run.state then (gang p s).foldl (fun t f => modPhase f enabled t) s else disablePort p s

/-! ### Taking and releasing (R142, R150) -/

/-- A FREE phase is assigned to a port; its enable rises if the port is enabled and no watch is pending (R155). -/
def assignPhase (p : Fin 8) (s : State) (f : Fin 16) : State :=
  modPhase f (fun ph =>
    let ph := { ph with state := .assigned p, command := 0 }
    if isEnabledState s.ports[p].run.state then enabled ph else ph) s

/-- The `n` lowest-numbered FREE phases are assigned to a port. -/
def takePhases (p : Fin 8) (n : Nat) (s : State) : State := ((freePhases s).take n).foldl (assignPhase p) s

/-- A released phase: disabled, FREE, with command 0 mA (R142, R150). -/
def releasePhase (s : State) (f : Fin 16) : State := modPhase f (fun ph => { disabled ph with state := .free }) s

/-- A port releases its highest-numbered phases and keeps the `keep` lowest (R150). -/
def releaseBeyond (p : Fin 8) (keep : Nat) (s : State) : State := ((gang p s).drop keep).foldl releasePhase s

/-! ### The phase wait queue (R146 to R149) -/

/-- The direction that a signed current has; 0 mA has none. -/
def currentDirection (i : Int) : Option Direction := if 0 < i then some .charge else if i < 0 then some .discharge else none

/-- The direction of a step's command (R133): that of its kind, or the sign of the present PULSE current. -/
def stepDirection (r : RunContext) : Option Direction :=
  match r.step with
  | none => none
  | some x =>
    match x.kind with
    | .ccCharge | .cccvCharge => some .charge
    | .ccDischarge | .cpDischarge => some .discharge
    | .pulse => currentDirection (if r.subPhase = .pulse then x.pulseCurrent else x.baseCurrent)
    | .rest | .loop | .endRun => none

/-- A port's need is met: the ramp begins, with the ramp time latched (R36, R37, R146). A ramp toward 0 mA holds CHARGE as its
direction, which nothing reads (log entry 12). -/
def meetNeed (p : Fin 8) (s : State) : State :=
  modPort p (fun q => { q with
    run := { q.run with stage := .ramping, slew := some ⟨0, (stepDirection q.run).getD .charge, 0, s.alloc.rampTime⟩ }
    phases := { q.phases with need := none } }) s

/-- Service of a queue: the head takes its shortfall of FREE phases and ramps, while it fits (R148). -/
def serveList : List (Fin 8 × Nat) → State → State
  | [], s => { s with pool := { s.pool with queue := [] } }
  | (p, n) :: rest, s =>
    if n ≤ freeCount s then serveList rest (meetNeed p (takePhases p n s))
    else { s with pool := { s.pool with queue := (p, n) :: rest } }

/-- A service of the phase wait queue (R148). -/
def serveQueue (s : State) : State := serveList s.pool.queue s

/-- A port is in the phase wait queue. -/
def isQueued (p : Fin 8) (s : State) : Bool := s.pool.queue.any fun x => x.1 = p

/-- A port leaves ACQUIRING other than by service: out of the queue, which is served if the port stood at its head (R147). -/
def leaveQueue (p : Fin 8) (s : State) : State :=
  let wasHead := (s.pool.queue.head?.map Prod.fst) = some p
  let t := modPort p (fun q => { q with phases := { q.phases with need := none } })
    { s with pool := { s.pool with queue := s.pool.queue.filter fun x => x.1 ≠ p } }
  if wasHead then serveQueue t else t

/-- A port releases the phases beyond a count, and the queue is served (R142, R150). -/
def releaseAndServe (p : Fin 8) (keep : Nat) (s : State) : State :=
  if keep < heldCount p s then serveQueue (releaseBeyond p keep s) else s

/-- A port releases its non-reserved phases (R150). -/
def releaseUnreserved (p : Fin 8) (s : State) : State := releaseAndServe p s.ports[p].phases.reserved s

/-! ### Need (R144, R145) -/

/-- The raw need of a step with its clamped setpoints (R144). -/
def rawNeed (r : StepRecord) (vMin : Nat) : Nat :=
  let whole :=
    match r.kind with
    | .ccCharge | .cccvCharge | .ccDischarge => ceilDiv r.current 40000
    | .cpDischarge => ceilDiv (r.power * 10 ^ 6) (max vMin 5000 * 40000)
    | .pulse => ceilDiv (max r.baseCurrent.natAbs r.pulseCurrent.natAbs) 40000
    | .rest | .loop | .endRun => 0
  min 8 whole

/-- The cap of a port: the in-service count less the reserved counts of the other seven (R145). -/
def cap (p : Fin 8) (s : State) : Nat :=
  inServiceCount s - (((List.finRange 8).filter fun q => q ≠ p).map fun q : Fin 8 => s.ports[q].phases.reserved).sum

/-- Entry into ACQUIRING: the need is formed, and met, or the port joins the phase wait queue (R144, R146). -/
def acquire (p : Fin 8) (s : State) : State :=
  let raw := rawNeed (s.ports[p].run.step.getD default) s.ports[p].prot.effective.vMin
  let n := min raw (cap p s)
  let h := heldCount p s
  let r := s.ports[p].phases.reserved
  let t := modPort p (fun q => { q with
    run := { q.run with state := .transfer, stage := .acquiring, slew := none, applied := 0 }
    phases := { q.phases with need := some ⟨raw, n⟩ } }) s
  if n ≤ h then releaseAndServe p (max n r) (meetNeed p t)
  else if s.pool.queue.isEmpty ∧ n - h ≤ freeCount s then meetNeed p (takePhases p (n - h) t)
  else
    let u := releaseBeyond p r t
    serveQueue (raisePort .phaseWait p
      { u with pool := { u.pool with queue := u.pool.queue ++ [(p, n - min h r)] } })

/-- The need and shortfall of a queued port formed again from its kept raw need and its cap (R149). -/
def reformNeed (s : State) (x : Fin 8 × Nat) : Fin 8 × Nat :=
  (x.1, min ((s.ports[x.1].phases.need.map Need.raw).getD 0) (cap x.1 s) - heldCount x.1 s)

/-- A change of caps: every waiting port's need is formed again, those whose shortfall falls to 0 leave the queue and ramp, and
the queue is served (R149). -/
def reformNeeds (s : State) : State :=
  let q := s.pool.queue.map (reformNeed s)
  let t := q.foldl (fun u x => modPort x.1 (fun y => { y with
    phases := { y.phases with need := y.phases.need.map fun n => ⟨n.raw, min n.raw (cap x.1 s)⟩ } }) u) s
  let v := (q.filter fun x => x.2 = 0).foldl (fun u x => meetNeed x.1 u) t
  serveQueue { v with pool := { v.pool with queue := q.filter fun x => x.2 ≠ 0 } }

/-! ### Commands of the pool (R151, R159) -/

/-- SET_RESERVED_PHASES, after the checks of R28 (R151). -/
def reservePhases (p : Fin 8) (count : Nat) (s : State) : State × Reply :=
  let h := heldCount p s
  let st := s.ports[p].run.state
  let isRest := (s.ports[p].run.step.map StepRecord.kind) = some .rest
  if 8 < count then refuse .badField s
  else if st = .transfer then refuse .badState s
  else if h < count ∧ freeCount s < count - h then refuse .noSpace s
  else
    let t := modPort p (fun q => { q with phases := { q.phases with reserved := count } }) s
    let keepsAll := st = .holding ∨ st = .ending ∨ (st = .running ∧ ¬ isRest)
    let u :=
      if h < count then takePhases p (count - h) t
      else if keepsAll then t
      else releaseBeyond p count t
    done (if count ≠ s.ports[p].phases.reserved then reformNeeds u
      else if count < h ∧ ¬ keepsAll then serveQueue u
      else u)

/-- SET_PHASE_SERVICE (R159). -/
def servicePhase (phase : Nat) (s : State) : State × Reply :=
  if h : phase < 16 then
    let f : Fin 16 := ⟨phase, h⟩
    if s.pool.phases[f].state ≠ .outOfService then refuse .badState s
    else if s.pool.phases[f].faultHigh then refuse .badState s
    else done (reformNeeds (modPhase f (fun ph => { ph with state := .free, command := 0 }) s))
  else refuse .badField s

/-! ### Current split and direction (R153, R156) -/

/-- The share of the phase at place `k` of a gang of `n` (R153). -/
def share (c n k : Nat) : Nat := c / n + (if k < c % n then 1 else 0)

/-- One phase takes its share of a command (R153, R156): a change of direction under current waits one sample at 0 mA. DESIGN CHOICE
(log entry 32): an ASSIGNED phase that is still disabled, its watch pending, is turned and takes its share like an enabled one. -/
def takeShare (c : Int) (n k : Nat) (ph : Phase) : Phase :=
  let d : Direction := if 0 < c then .charge else .discharge
  if c = 0 then { ph with command := 0 }
  else if ph.direction = d then { ph with command := share c.natAbs n k }
  else if ph.command = 0 then { ph with direction := d, command := share c.natAbs n k }
  else { ph with direction := d, command := 0 }

/-- A port's applied command is set and split over its gang (R135, R153). -/
def command (p : Fin 8) (c : Int) (s : State) : State :=
  let g := gang p s
  g.zipIdx.foldl (fun t x => modPhase x.1 (takeShare c g.length x.2) t) (modRun p (fun r => { r with applied := c }) s)

/-! ### Phase outputs (R154, R155, R157) -/

/-- The duty of a phase's reference line, ‰, with rounding half up (R154). -/
def duty (ph : Phase) : Nat := if ph.enabled then 50 + (2 * ph.command * 900 + 40000) / 80000 else 0

/-! Sync times are counted in 1/840 µs, in which every `50 k / n` µs with `n` up to 8 is a whole number. -/

/-- The switching period of 50 µs (R157). -/
abbrev syncPeriod : Nat := 42000

/-- The length of a sync pulse, 25 µs (R157). -/
abbrev syncLength : Nat := 21000

/-- The offset of a phase's sync pulse from the start of the period, `50 k / n` µs; none while its sync line stays low (R157). -/
def syncOffset (f : Fin 16) (s : State) : Option Nat :=
  if s.pool.phases[f].enabled then (gangPosition f s).map fun x => syncPeriod * x.1 / x.2 else none

/-- A sync line at a time `x` of which 0 is the start of a period, for pulses that start at an offset in each period from
period `first` on (R157). A pulse may end in the period after the one it starts in. -/
def syncHighFrom (first offset x : Nat) : Bool :=
  decide (syncPeriod * first + offset ≤ x) && decide ((x - offset) % syncPeriod < syncLength)

/-- A sync line about an event that forms a gang again, by the phase's offsets before and after it (R157). Times count from the
start of the period before the one of the event, which is period 1; `x` is no earlier than the event. A line that is disabled is
low. The old offset serves the periods that have begun, and its pulse in progress runs to its end; the new offset serves the
periods from the next one, period 2, on. -/
def syncLine (before after : Option Nat) (x : Nat) : Bool :=
  match after with
  | none => false
  | some new =>
    syncHighFrom 2 new x ||
      match before with
      | none => false
      | some old =>
        (decide (old ≤ x) && decide (x < old + syncLength)) ||
          (decide (syncPeriod + old ≤ x) && decide (x < syncPeriod + old + syncLength))

end Sys2Proof.Machine
end

