-- ==== Sys2Proof/Machine/Sequencer.lean ====
section
/-! DEFINITION. The port sequencer: entering steps, transfers, holds, run ends, step ends and the fault path (R29 to R50), with
the clamp at step entry (R169). -/

namespace Sys2Proof.Machine

/-! ### Clamp at step entry (R169) -/

/-- A signed current clamped to an envelope, sign kept (R169). -/
def clampCurrent (e : Envelope) (i : Int) : Int :=
  if 0 < i then min i e.charge else -((min i.natAbs e.discharge : Nat) : Int)

/-- A step's setpoints clamped to the effective envelope and the cabinet limits (R169). -/
def clampStep (e : Envelope) (maxPower : Nat) (r : StepRecord) : StepRecord :=
  match r.kind with
  | .ccCharge => { r with current := min r.current e.charge }
  | .cccvCharge => { r with current := min r.current e.charge, cvVoltage := min r.cvVoltage e.vMax }
  | .ccDischarge => { r with current := min r.current e.discharge }
  | .cpDischarge => { r with power := min r.power maxPower }
  | .pulse => { r with baseCurrent := clampCurrent e r.baseCurrent, pulseCurrent := clampCurrent e r.pulseCurrent }
  | .rest | .loop | .endRun => r

/-- The sub-phase in which a step begins (R33). -/
def initialSubPhase : Kind → SubPhase
  | .cccvCharge => .cc
  | .pulse => .base
  | _ => .none

/-! ### Drains (R34) -/

/-- A drain from the port's applied command, with the ramp time latched (R34). -/
def drainFrom (r : RunContext) (time : Nat) : Slew :=
  ⟨r.applied.natAbs, if r.applied < 0 then .discharge else .charge, 0, time⟩

/-- A drain begins on a port (R34). -/
def startDrain (p : Fin 8) (s : State) : State :=
  modRun p (fun r => { r with slew := some (drainFrom r s.alloc.rampTime), throttled := false }) s

/-! ### Holds (R43 to R45) -/

/-- Entry into HELD (R44), with the CV integrator at 0 mA (R134). -/
def enterHeld (p : Fin 8) (s : State) : State :=
  let s := modRun p (fun r => { r with
    state := .held, slew := none, applied := 0, throttled := false, cvIntegrator := 0 }) s
  let s := restartSettle p (discardCapture p s)
  let s := setBasis p none s
  let s := leaveQueue p s
  let s := releaseUnreserved p (disablePort p s)
  raisePort .hold p (fold p s)

/-- Causes added to a port's set. -/
def addCauses (c : HoldCauses) (r : RunContext) : RunContext :=
  { r with causes := ⟨r.causes.master || c.master, r.causes.interlock || c.interlock, r.causes.door || c.door⟩ }

/-- A port in TRANSFER, RUNNING, HOLDING or HELD takes hold causes (R43, R45). -/
def holdPort (c : HoldCauses) (p : Fin 8) (s : State) : State :=
  let r := s.ports[p].run
  let t := modRun p (addCauses c) s
  if r.state = .running ∨ r.state = .transfer then
    if r.applied = 0 then enterHeld p t
    else restartSettle p (discardCapture p (startDrain p (modRun p (fun x => { x with state := .holding }) t)))
  else t

/-- MASTER as a set of causes. -/
def masterCause : HoldCauses := ⟨true, false, false⟩
/-- INTERLOCK and MASTER (R45). -/
def interlockCauses : HoldCauses := ⟨true, true, false⟩
/-- DOOR and MASTER (R45). -/
def doorCauses : HoldCauses := ⟨true, false, true⟩

/-- The interlock condition of a port before and after a change, handed to its sequencer (R45, R196, R197). -/
def handInterlock (before after : Bool) (p : Fin 8) (s : State) : State :=
  if after && !before then
    if hasStep s.ports[p].run.state then holdPort interlockCauses p s else s
  else if before && !after then
    modRun p (fun r => { r with causes := { r.causes with interlock := false } }) s
  else s

/-! ### Ending a run (R47) -/

/-- Completion of ENDING (R47, R48): request 0 W and a round, release, fold, unbinding, READY and RUN_END. -/
def completeEnding (p : Fin 8) (s : State) : State :=
  let s := modRun p (fun r => { r with slew := none, applied := 0, throttled := false }) s
  let s := setBasis p none s
  let s := releaseUnreserved p s
  let s := fold p s
  let s := releaseProgram s.ports[p].run.program s
  let s := modRun p (fun r => { r with program := none, outcome := r.endingAs, state := .ready }) s
  raisePort .runEnd p (disablePort p s)

/-- ENDING is entered with no causes and a drain from the applied command, complete at once at 0 mA (R47, R48). -/
def enterEnding (as_ : RunOutcome) (p : Fin 8) (s : State) : State :=
  let s := modRun p (fun r => { r with state := .ending, causes := .none, endingAs := as_ }) s
  let s := restartSettle p (discardCapture p s)
  if s.ports[p].run.applied = 0 then completeEnding p s else startDrain p s

/-! ### Entering a step (R31 to R36) -/

/-- Completion of the drain of TRANSFER (R35): a power step asks for phases, a REST runs at once. -/
def completeDrain (p : Fin 8) (s : State) : State :=
  let s := modRun p (fun r => { r with slew := none, applied := 0 }) s
  let rec_ := s.ports[p].run.step.getD default
  if isPowerStep rec_.kind then
    acquire p (setBasis p (some ⟨s.ports[p].run.stepIndex, rec_, initialSubPhase rec_.kind⟩)
      (modRun p (fun r => { r with stage := .acquiring }) s))
  else
    let s := setBasis p none s
    let s := releaseUnreserved p s
    modRun p (fun r => { r with state := .running, stepTimer := 0 }) s

/-- Entry into TRANSFER for the timed step at an index (R33). -/
def enterTransfer (p : Fin 8) (i : Nat) (rec_ : StepRecord) (s : State) : State :=
  let s := modPort p (fun q =>
    let c := clampStep q.prot.effective s.prot.limits.maxPower rec_
    { q with
      run := { q.run with
        state := .transfer, stage := .draining, stepIndex := i, stepTimer := 0, throttledTime := 0, throttled := false
        subPhase := initialSubPhase rec_.kind, step := some c, clamped := decide (c ≠ rec_), resistance := none }
      acct := { q.acct with step := .cleared } }) s
  let s := refreshEnables p (restartSettle p (discardCapture p s))
  if s.ports[p].run.applied = 0 then completeDrain p s else startDrain p s

/-- A LOOP is taken (R32): its counter, and for the cycle mark the cycle counts and a fold; the index that is entered next. -/
def takeLoop (p : Fin 8) (n : Fin 32) (i : Nat) (rec_ : StepRecord) (s : State) : Nat × State :=
  let k := (loopNumberAt n i s).getD 0
  let c := s.ports[p].run.counters.toList.getD k 0 + 1
  let back := decide (c < rec_.repeatCount)
  let s := modRun p (fun r => { r with counters := r.counters.setIfInBounds k (if back then c else 0) }) s
  let s :=
    if rec_.cycleMark = 1 then
      fold p (modPort p (fun q => { q with
        run := { q.run with runCycles := min top32 (q.run.runCycles + 1) }
        acct := { q.acct with unfolded := { q.acct.unfolded with cycleDelta := 1 } } }) s)
    else s
  (if back then rec_.loopTarget else i + 1, s)

/-- Entering an index of the bound program (R31). `fuel` bounds the chain of instant steps, at most 63 long by R18; a chain that
outran it would end the run (log entry 6). -/
def enterIndex (p : Fin 8) : Nat → Nat → State → State
  | 0, _, s => enterEnding .completed p s
  | fuel + 1, i, s =>
    match s.ports[p].run.program with
    | none => enterEnding .completed p s
    | some n =>
      match recordAt n i s with
      | none => enterEnding .completed p s
      | some rec_ =>
        match rec_.kind with
        | .endRun => enterEnding .completed p s
        | .loop =>
          let next := takeLoop p n i rec_ s
          enterIndex p fuel next.1 next.2
        | _ => enterTransfer p i rec_ s

/-- The longest chain of instant steps with the step it reaches (R31). -/
abbrev chainFuel : Nat := 64

/-! ### Faults (R49, R50) -/

/-- The end reason that a fault code gives (R49). -/
def faultReason : FaultCode → EndReason
  | .packRemoved => .packRemoved
  | .lockout => .lockout
  | _ => .fault

/-- The fault path of a port in a bound state (R49). DEDUCED (log entry 31): the applied command that status shows is 0 mA from the
fault itself on, not from the port's next sample instant. -/
def faultBound (p : Fin 8) (code : FaultCode) (s : State) : State :=
  let s := disablePort p s
  let found := s.ports[p].run.state
  let s := writeFault p code s
  let s := if hasStep found ∧ code ≠ .programFault then queueResult p (faultReason code) s else s
  let s := leaveQueue p (modRun p (fun r => { r with causes := .none }) s)
  let s := modRun p (fun r => { r with
    state := .faulted, slew := none, applied := 0, throttled := false, outcome := .faulted }) s
  let s := restartSettle p (discardCapture p s)
  let s := releaseUnreserved p s
  let s := setBasis p none s
  let s := fold p s
  let s := releaseProgram s.ports[p].run.program s
  raisePort .fault p (modRun p (fun r => { r with program := none }) s)

/-- Entry into FAULTED from an idle state (R50): no record of a step, no change of the last run outcome. -/
def faultIdle (p : Fin 8) (code : FaultCode) (s : State) : State :=
  let s := fold p (writeFault p code s)
  let s := modRun p (fun r => { r with state := .faulted }) (disablePort p s)
  raisePort .fault p (restartSettle p s)

/-- A fault reaches a port, by its state (R49, R50, R174). A VACANT port holds no pack and takes none. -/
def faultPort (p : Fin 8) (code : FaultCode) (s : State) : State :=
  match s.ports[p].run.state with
  | .transfer | .running | .holding | .held | .ending => faultBound p code s
  | .ready | .unidentified => faultIdle p code s
  | .identifying =>
    faultIdle p code
      { modIdent p (fun i => { i with attempt := none, serialRead := none }) s with
        history := { s.history with waiting := s.history.waiting.filter fun q => q ≠ p } }
  | .faulted => writeFault p code s
  | .vacant => s

/-! ### Step ends (R41) -/

/-- A step ends with a reason and an action: record and STEP_END, fold, action (R41). -/
def endStep (p : Fin 8) (reason : EndReason) (action : Action) (s : State) : State :=
  let s := fold p (queueResult p reason s)
  let s := restartSettle p (discardCapture p s)
  match action with
  | .next => enterIndex p chainFuel (s.ports[p].run.stepIndex + 1) s
  | .goto t => enterIndex p chainFuel t s
  | .endRun => enterEnding .completed p s
  | .faultRun => faultPort p .programFault s

/-! ### Commands of the sequencer -/

/-- The contactor is CLOSED (R29, R46). -/
def linkClosed (s : State) : Bool := s.prot.contactor = .closed

/-- The cabinet is in LOCKOUT. -/
def inLockout (s : State) : Bool := s.prot.cabinet ≠ .normal

/-- START_RUN, after the checks of R28 (R29, R30). -/
def startRun (p : Fin 8) (program start : Nat) (s : State) : State × Reply :=
  onProgram program s fun n =>
    if s.ports[p].run.state ≠ .ready then refuse .badState s
    else if inLockout s then refuse .badState s
    else if s.prot.doorOpen then refuse .badState s
    else if interlocked s.ports[p] s.chain.asserted then refuse .badState s
    else if s.headers[n].state ≠ .ready then refuse .badState s
    else if s.headers[n].steps.length ≤ start then refuse .badField s
    else if ¬ linkClosed s then refuse .noDcLink s
    else
      let t := modHeader n (fun h => { h with useCount := h.useCount + 1 }) s
      let t := modPort p (fun q => { q with
        run := { q.run with
          program := some n, lastProgram := some n
          countersUsed := (s.headers[n].loopNumbers.filter Option.isSome).length
          runCycles := 0, counters := Vector.replicate 16 0, outcome := .none }
        acct := { q.acct with run := .cleared } }) t
      done (enterIndex p chainFuel start t)

/-- HOLD_PORT, after the checks of R28 (R43). -/
def holdCommand (p : Fin 8) (s : State) : State × Reply :=
  if hasStep s.ports[p].run.state then done (holdPort masterCause p s) else refuse .badState s

/-- RESUME_PORT, after the checks of R28 (R46). -/
def resumeCommand (p : Fin 8) (s : State) : State × Reply :=
  let r := s.ports[p].run
  if r.state ≠ .held then refuse .badState s
  else if r.causes.interlock ∨ r.causes.door then refuse .badState s
  else if ¬ linkClosed s then refuse .noDcLink s
  else
    let rec_ := r.step.getD default
    let t := restartSettle p (modRun p (fun x => { x with causes := .none }) s)
    if isPowerStep rec_.kind then
      let t := refreshEnables p (modRun p (fun x => { x with state := .transfer, stage := .acquiring }) t)
      done (acquire p (setBasis p (some ⟨r.stepIndex, rec_, r.subPhase⟩) t))
    else
      done (setBasis p none (refreshEnables p (modRun p (fun x => { x with state := .running }) t)))

/-- ABORT_RUN, after the checks of R28 (R48). -/
def abortCommand (p : Fin 8) (s : State) : State × Reply :=
  if hasStep s.ports[p].run.state then
    done (enterEnding .aborted p (leaveQueue p (queueResult p .aborted s)))
  else refuse .badState s

end Sys2Proof.Machine
end

