-- ==== Sys2Proof/Machine/History.lean ====
section
/-! DEFINITION. Pack identification and the history table: attempts, lookup, making and evicting entries, mounts, the wait list
and the history commands (R93 to R116). -/

namespace Sys2Proof.Machine

/-! ### Entries (R99 to R103) -/

/-- An entry moves to, or joins at, the most-recent end of the recency list (R100). -/
def touch (e : Fin 64) (s : State) : State :=
  { s with history := { s.history with recency := (s.history.recency.filter fun x => x ≠ e) ++ [e] } }

/-- The entry that holds a serial (R101). -/
def entryOf (serial : Nat) (s : State) : Option (Fin 64) :=
  (List.finRange 64).find? fun e : Fin 64 => s.history.entries[e].any fun x => x.serial = serial

/-- The lowest-numbered free entry (R102). -/
def freeEntry (s : State) : Option (Fin 64) := (List.finRange 64).find? fun e : Fin 64 => s.history.entries[e].isNone

/-- The evictable entry (R102). -/
def evictable (s : State) : Option (Fin 64) :=
  s.history.recency.find? fun e => s.history.entries[e].any fun x => x.mounted.isNone && !x.pinned

/-- An entry leaves the recency list and becomes free (R103, R112). -/
def freeUp (e : Fin 64) (s : State) : State :=
  modEntry e (fun _ => none)
    { s with history := { s.history with recency := s.history.recency.filter fun x => x ≠ e } }

/-- An eviction (R103). -/
def evict (e : Fin 64) (s : State) : State :=
  match s.history.entries[e] with
  | none => s
  | some x =>
    raiseCabinet .evictionPending
      (freeUp e { s with history := { s.history with evictions := s.history.evictions ++ [⟨x, e, s.prot.time⟩] } })

/-- An entry is made with the given contents, evicting if it must; none where no entry can be made (R102). -/
def makeEntry (contents : Entry) (s : State) : Option (Fin 64 × State) :=
  match freeEntry s with
  | some e => some (e, modEntry e (fun _ => some contents) s)
  | none =>
    match evictable s with
    | some e =>
      if s.history.evictions.length < 16 then some (e, modEntry e (fun _ => some contents) (evict e s)) else none
    | none => none

/-- A new entry for a mount (R102). -/
def freshEntry (serial : Nat) : Entry := ⟨serial, 0, .cleared, -400, 0, none, none, none, false⟩

/-! ### Mount and unmount (R106, R107) -/

/-- A mount completes (R106). -/
def mount (p : Fin 8) (e : Fin 64) (s : State) : State :=
  let s := modEntry e (Option.map fun x => { x with mounted := some p, lastPort := some p }) s
  modPort p (fun q => { q with
    ident := { q.ident with bound := some e, lastFailure := .none, attempt := none }
    run := { q.run with state := .ready } }) (touch e s)

/-- The entry bound to a port is unmounted (R107). -/
def unmount (p : Fin 8) (s : State) : State :=
  match s.ports[p].ident.bound with
  | none => s
  | some e =>
    modIdent p (fun i => { i with bound := none })
      (touch e (modEntry e (Option.map fun x => { x with mounted := none }) s))

/-! ### Lookup (R101) and the wait list (R104, R105) -/

/-- A serial is in use for a port: mounted on another port, or read by another port on the wait list (R101). -/
def serialInUse (p : Fin 8) (serial : Nat) (s : State) : Bool :=
  (s.history.entries.toList.any fun x => x.any fun y => decide (y.serial = serial) && y.mounted.any fun q => q ≠ p) ||
    s.history.waiting.any fun q => decide (q ≠ p) && decide (s.ports[q].ident.serialRead = some serial)

/-- An identification ends in UNIDENTIFIED with a last failure (R97, R101). -/
def unidentified (p : Fin 8) (why : IdFailure) (s : State) : State :=
  modPort p (fun q => { q with
    ident := { q.ident with lastFailure := why, attempt := none, serialRead := none }
    run := { q.run with state := .unidentified } }) s

/-- The lookup of a serial for a port: the state after it, or none where no entry can be made (R101). -/
def lookup (p : Fin 8) (serial : Nat) (s : State) : Option State :=
  if serialInUse p serial s then some (unidentified p .serialInUse s)
  else
    match entryOf serial s with
    | some e => some (mount p e s)
    | none => (makeEntry (freshEntry serial) s).map fun x => mount p x.1 x.2

/-- The wait list is served from its head (R105). -/
def serveWaiting : List (Fin 8) → State → State
  | [], s => { s with history := { s.history with waiting := [] } }
  | p :: rest, s =>
    match s.ports[p].ident.serialRead.map fun n => lookup p n { s with history := { s.history with waiting := p :: rest } } with
    | some (some t) => serveWaiting rest t
    | some none => { s with history := { s.history with waiting := p :: rest } }
    | none => serveWaiting rest s

/-- A service of the history wait list (R105). -/
def serveHistory (s : State) : State := serveWaiting s.history.waiting s

/-! ### Attempts (R96, R97) -/

/-- An attempt begins, with a read request to the pack's ID device (R96). -/
def beginAttempt (p : Fin 8) (n : Nat) (s : State) : State :=
  send (.idRequest p) (modIdent p (fun i => { i with attempt := some ⟨n, 0⟩ }) s)

/-- An identification starts (R94, R98). -/
def startIdentify (p : Fin 8) (s : State) : State :=
  beginAttempt p 1 (modPort p (fun q => { q with
    ident := { q.ident with lastFailure := .none, serialRead := none }
    run := { q.run with state := .identifying } }) s)

/-- An attempt fails (R97). -/
def failAttempt (p : Fin 8) (n : Nat) (why : IdFailure) (s : State) : State :=
  if n < 3 then beginAttempt p (n + 1) (modIdent p (fun i => { i with lastFailure := why }) s)
  else
    modPort p (fun q => { q with
      ident := { q.ident with lastFailure := why, attempt := none }
      run := { q.run with state := .unidentified } }) s

/-- An attempt succeeds with a serial: the lookup, or a place on the wait list (R97, R101, R104). -/
def succeedAttempt (p : Fin 8) (serial : Nat) (s : State) : State :=
  let t := modIdent p (fun i => { i with attempt := none, serialRead := some serial }) s
  match lookup p serial t with
  | some u => u
  | none => { t with history := { t.history with waiting := t.history.waiting ++ [p] } }

/-- A reply on a port's identification line (R96): one of another attempt than the one in flight, or of another length than nine
bytes, is discarded (log entry 20). -/
def receiveId (p : Fin 8) (source : IdSource) (reply : List Byte) (s : State) : State :=
  match s.ports[p].ident.attempt with
  | none => s
  | some a =>
    if source ≠ .presentAttempt ∨ reply.length ≠ 9 then s
    else if ¬ sumsToZero reply then failAttempt p a.number .badCheck s
    else if natOf (reply.take 8) = 0 then failAttempt p a.number .zeroSerial s
    else succeedAttempt p (natOf (reply.take 8)) s

/-- The expiry of an attempt, at 50 ms (R96). -/
def expireAttempt (p : Fin 8) (s : State) : State :=
  match s.ports[p].ident.attempt with
  | some a => if 50 ≤ a.elapsed then failAttempt p a.number .noReply s else s
  | none => s

/-! ### Presence (R94, R95, R172) -/

/-- The thermal latch is set and THERMAL_SWITCH reaches the port (R172). -/
def thermalTrip (p : Fin 8) (s : State) : State :=
  faultPort p .thermalSwitch (modProt p (fun x => { x with thermalLatch := true }) s)

/-- What a CLOSED contact starts: an identification in VACANT, and the opening edge that a thermal switch reading OPEN counts as
(R94, R172). -/
def packArrives (p : Fin 8) (s : State) : State :=
  let t := if s.ports[p].run.state = .vacant then startIdentify p s else s
  if s.ports[p].prot.thermalOpen then thermalTrip p t else t

/-- A presence contact closes (R94). -/
def closePresence (p : Fin 8) (s : State) : State :=
  if s.ports[p].ident.present then s
  else packArrives p (modIdent p (fun i => { i with present := true }) s)

/-- A port in an idle state becomes VACANT. -/
def toVacant (p : Fin 8) (s : State) : State := modRun p (fun r => { r with state := .vacant }) s

/-- A presence contact opens (R95). -/
def openPresence (p : Fin 8) (s : State) : State :=
  if ¬ s.ports[p].ident.present then s
  else
    let t := modIdent p (fun i => { i with present := false }) s
    match s.ports[p].run.state with
    | .vacant => t
    | .identifying =>
      toVacant p (modIdent p (fun i => { i with attempt := none, serialRead := none })
        { t with history := { t.history with waiting := t.history.waiting.filter fun q => q ≠ p } })
    | .unidentified => toVacant p t
    | .ready => toVacant p (unmount p (fold p t))
    | .faulted => unmount p (fold p t)
    | .transfer | .running | .holding | .held | .ending => unmount p (faultPort p .packRemoved t)

/-- Presence detection at the end of a reset (R93, R172), in ascending port number (DESIGN CHOICE, log entry 33). -/
def presenceDetection (s : State) : State :=
  forPorts (fun p t => if t.ports[p].ident.present then packArrives p t else t) s

/-! ### The commands (R98, R108 to R113) -/

/-- RETRY_IDENTIFY (R28, R98): either master on an unowned port, the owner alone on an owned one. -/
def retryIdentify (m : Master) (port : Nat) (s : State) : State × Reply :=
  onPort port s fun p =>
    if s.ports[p].owner ≠ ownerOf m ∧ s.ports[p].owner ≠ .none then refuse .notOwner s
    else if s.ports[p].run.state ≠ .unidentified then refuse .badState s
    else done (startIdentify p s)

/-- The checks of a selector (R109, R214). -/
def onEntry (sel : Selector) (s : State) (k : Fin 64 → Entry → State × Reply) : State × Reply :=
  if sel.form = 0 then
    if h : sel.value < 64 then
      match s.history.entries[sel.value] with
      | some x => k ⟨sel.value, h⟩ x
      | none => refuse .empty s
    else refuse .badField s
  else if sel.form = 1 then
    if sel.value = 0 then refuse .badField s
    else
      match entryOf sel.value s with
      | some e =>
        match s.history.entries[e] with
        | some x => k e x
        | none => refuse .empty s
      | none => refuse .empty s
  else refuse .badField s

/-- An unfolded set as READ_HISTORY sends it, after its port (R214): 56 bytes. -/
def unfoldedBytes (p : Fin 8) (u : UnfoldedSet) : List Byte :=
  u8 p.val ++ tallyBytes u.tally ++ i16 u.maxTemp ++ resistanceBytes u.lastResistance ++ u8 u.cycleDelta ++ u8 u.faultDelta
    ++ flagByte u.tally.saturated

/-- READ_HISTORY (R110, R214). The value bytes of an absent unfolded set are sent as 0 (log entry 15). -/
def readHistory (sel : Selector) (s : State) : State × Reply :=
  onEntry sel s fun e x =>
    answer
      (historyBytes x e.val 0 ++ u8 (s.history.recency.idxOf e + 1)
        ++ optional 57 (x.mounted.map fun p => unfoldedBytes p s.ports[p].acct.unfolded)) s

/-- The pinned count (R108). -/
def pinnedCount (s : State) : Nat := (s.history.entries.toList.filter fun x => x.any fun y => y.pinned).length

/-- PIN_ENTRY (R108). -/
def pinEntry (sel : Selector) (s : State) : State × Reply :=
  onEntry sel s fun e x =>
    if x.pinned then done s
    else if 56 ≤ pinnedCount s then refuse .pinLimit s
    else done (modEntry e (Option.map fun y => { y with pinned := true }) s)

/-- UNPIN_ENTRY (R108). -/
def unpinEntry (sel : Selector) (s : State) : State × Reply :=
  onEntry sel s fun e _ => done (modEntry e (Option.map fun y => { y with pinned := false }) s)

/-- The BAD_FIELD checks of an imported record (R111, R216). -/
def importBad (record : List Byte) : Bool :=
  let x := parseHistory record
  let t := x.totals
  decide (x.serial = 0) ||
    decide (chargeDivisor ≤ t.chargeIn.residue) || decide (chargeDivisor ≤ t.chargeOut.residue) ||
    decide (energyDivisor ≤ t.energyIn.residue) || decide (energyDivisor ≤ t.energyOut.residue) ||
    decide (timeDivisor ≤ t.time.residue) ||
    decide (x.maxTemp < -400) || decide (1500 < x.maxTemp) ||
    decide (8 ≤ natAt record 67 1 ∧ natAt record 67 1 ≤ 254) ||
    decide (1 < natAt record 62 1) || decide (natAt record 62 1 = 1 ∧ intAt record 63 4 < -2147483647)

/-- A quantity of an imported record: at its top it is saturated, with residue 0 (R111). -/
def importQuantity (q : Quantity) : Quantity := if q.whole = top32 then ⟨top32, 0⟩ else q

/-- The entry that an imported record gives (R111). -/
def importedEntry (record : List Byte) : Entry :=
  let x := parseHistory record
  let t := x.totals
  { x with totals :=
      { chargeIn := importQuantity t.chargeIn, chargeOut := importQuantity t.chargeOut
        energyIn := importQuantity t.energyIn, energyOut := importQuantity t.energyOut, time := importQuantity t.time
        saturated := t.saturated || t.chargeIn.whole = top32 || t.chargeOut.whole = top32 || t.energyIn.whole = top32 ||
          t.energyOut.whole = top32 || t.time.whole = top32 || x.cycles = top32 } }

/-- IMPORT_ENTRY (R111). -/
def importEntry (record : List Byte) (s : State) : State × Reply :=
  if importBad record then refuse .badField s
  else if (entryOf (importedEntry record).serial s).isSome then refuse .duplicate s
  else
    match makeEntry (importedEntry record) s with
    | none => refuse .noSpace s
    | some (e, t) => answer (u8 e.val) (touch e t)

/-- DELETE_ENTRY (R112). -/
def deleteEntry (sel : Selector) (s : State) : State × Reply :=
  onEntry sel s fun e x =>
    if x.mounted.isSome then refuse .inUse s
    else if x.pinned then refuse .badState s
    else done (serveHistory (freeUp e s))

/-- READ_EVICTION (R113). -/
def readEviction (s : State) : State × Reply :=
  match s.history.evictions with
  | [] => refuse .empty s
  | r :: rest =>
    answer (historyBytes r.entry r.number.val r.time ++ u8 rest.length)
      (serveHistory { s with history := { s.history with evictions := rest } })

end Sys2Proof.Machine
end

