-- ==== Sys2Proof/Machine/Protect.lean ====
section
/-! DEFINITION. The protection unit: limits and envelopes, the thermal switch, fault clearing, the door, the contactor, lockout,
both resets, and the phase pool's line events that report to it (R158, R160, R164 to R188). -/

namespace Sys2Proof.Machine

/-! ### Limits and envelopes (R165 to R168) -/

/-- The effective envelope of a requested one (R167). -/
def effectiveOf (l : Limits) (e : Envelope) : Envelope where
  vMax := min e.vMax l.maxVoltage
  vMin := min e.vMin l.maxVoltage
  charge := min e.charge l.maxCharge
  discharge := min e.discharge l.maxDischarge
  tMax := min e.tMax l.maxTemp

/-- A port's effective envelope and its mark formed again from its requested envelope (R165, R167). -/
def formEnvelope (l : Limits) (x : PortProtection) : PortProtection :=
  let e := effectiveOf l x.requested
  { x with effective := e, clamped := decide (e ≠ x.requested) }

/-- The ranges of R164. -/
def limitsInRange (l : Limits) : Bool :=
  decide (l.maxVoltage ≤ 1000000) && decide (l.maxCharge ≤ 320000) && decide (l.maxDischarge ≤ 320000) &&
    decide (-400 ≤ l.maxTemp) && decide (l.maxTemp ≤ 1500) && decide (l.maxPower ≤ 320000)

/-- SET_LIMITS (R165). -/
def setLimits (l : Limits) (s : State) : State × Reply :=
  if s.prot.locked then refuse .locked s
  else if ¬ limitsInRange l then refuse .badField s
  else
    done { s with
      prot := { s.prot with limits := l }
      ports := s.ports.map fun q => { q with prot := formEnvelope l q.prot } }

/-- LOCK_LIMITS (R166). -/
def lockLimits (m : Master) (s : State) : State × Reply :=
  if m = .station then refuse .notOwner s else done { s with prot := { s.prot with locked := true } }

/-- The ranges and the relation of R167. -/
def envelopeInRange (e : Envelope) : Bool :=
  decide (e.vMax ≤ 1000000) && decide (e.vMin ≤ 1000000) && decide (e.charge ≤ 320000) && decide (e.discharge ≤ 320000) &&
    decide (-400 ≤ e.tMax) && decide (e.tMax ≤ 1500) && decide (e.vMin ≤ e.vMax)

/-- SET_ENVELOPE (R28, R167). -/
def setEnvelope (m : Master) (port : Nat) (e : Envelope) (s : State) : State × Reply :=
  onOwnPort m port s fun p =>
    if ¬ envelopeInRange e then refuse .badField s
    else
      doneClamped (decide (effectiveOf s.prot.limits e ≠ e))
        (modProt p (fun x => formEnvelope s.prot.limits { x with requested := e }) s)

/-! ### Thermal switch and CLEAR_FAULT (R172, R175) -/

/-- A change of a port's thermal switch to OPEN (R172). -/
def openThermal (p : Fin 8) (s : State) : State :=
  if s.ports[p].prot.thermalOpen then s
  else
    let t := modProt p (fun x => { x with thermalOpen := true }) s
    if s.ports[p].ident.present then thermalTrip p t else t

/-- A change of a port's thermal switch to CLOSED (R172). -/
def closeThermal (p : Fin 8) (s : State) : State := modProt p (fun x => { x with thermalOpen := false }) s

/-- The state that a port leaves FAULTED for (R175). -/
def clearedState (i : Ident) : PortState :=
  if ¬ i.present then .vacant else if i.bound.isSome then .ready else .unidentified

/-- CLEAR_FAULT (R28, R175). -/
def clearFault (m : Master) (port : Nat) (s : State) : State × Reply :=
  onOwnPort m port s fun p =>
    let q := s.ports[p]
    if q.run.state ≠ .faulted then refuse .badState s
    else if inLockout s then refuse .badState s
    else if q.prot.thermalLatch && q.ident.present && q.prot.thermalOpen then refuse .badState s
    else
      done (modPort p (fun x => { x with
        prot := { x.prot with fault := none, thermalLatch := false, filters := Vector.replicate 6 0 }
        run := { x.run with state := clearedState x.ident } }) s)

/-! ### The door (R176) -/

/-- The door opens: DOOR and MASTER reach every port with a current step (R45, R176), in ascending port number (DESIGN CHOICE, log
entry 33). -/
def openDoor (s : State) : State :=
  if s.prot.doorOpen then s
  else
    forPorts (fun p t => if hasStep t.ports[p].run.state then holdPort doorCauses p t else t)
      { s with prot := { s.prot with doorOpen := true } }

/-- The door closes: DOOR leaves every port's causes (R176). -/
def closeDoor (s : State) : State :=
  { s with
    prot := { s.prot with doorOpen := false }
    ports := s.ports.map fun q => { q with run := { q.run with causes := { q.run.causes with door := false } } } }

/-! ### The cabinet fault log (R185) -/

/-- An entry is appended to the cabinet fault log, or counted as overflow (R185). -/
def appendLog (cause : LogCause) (phase : Option (Fin 16)) (effect : LogEffect) (s : State) : State :=
  { s with prot :=
      if s.prot.log.length < 8 then { s.prot with log := s.prot.log ++ [⟨cause, phase, s.prot.time, effect⟩] }
      else { s.prot with overflow := min 65535 (s.prot.overflow + 1) } }

/-! ### Lockout (R180, R181) -/

/-- The drive goes off, the contactor state becomes OPEN and an opening watch begins, which ends at once where the feedback reads
OPEN (R178). R188 speaks of that watch for the closing that expires; `expireClosing` reconciles the two (log entry 28). -/
def openLink (x : Protection) : Protection :=
  { x with
    drive := false, contactor := .opened, closingWatch := none
    openingWatch := if x.feedbackClosed then some 0 else none }

/-- The cooldown of 5,000 ms begins (R180, R181). -/
def startCooldown (s : State) : State := { s with prot := { s.prot with cabinet := .cooldown 5000 } }

/-- LOCKOUT reaches one port at lockout entry (R180, item 3). -/
def lockoutPort (p : Fin 8) (s : State) : State :=
  if isBound s.ports[p].run.state ∨ s.ports[p].run.state = .faulted then faultPort p .lockout s else s

/-- Lockout entry (R161, R180). DESIGN CHOICE (log entry 33): LOCKOUT reaches the ports, and they fold, in ascending port number;
the wait queue is served between two faults, so a higher port may take phases before its own fault. -/
def enterLockout (cause : LogCause) (phase : Option (Fin 16)) (s : State) : State :=
  let wasBound (p : Fin 8) : Bool := isBound s.ports[p].run.state
  let t := (List.finRange 16).foldl (fun u f => disablePhase f u) (startCooldown s)
  let t := if t.prot.contactor = .opened then t else { t with prot := openLink t.prot }
  let t := forPorts lockoutPort t
  let t := forPorts (fun p u => if wasBound p then u else fold p u) t
  startCooldown (raiseCabinet .lockout (appendLog cause phase .lockoutEntered t))

/-- A lockout cause is reported: lockout entry in NORMAL, a further cause in LOCKOUT (R180, R181). -/
def lockoutCause (cause : LogCause) (phase : Option (Fin 16)) (s : State) : State :=
  if inLockout s then startCooldown (raiseCabinet .lockout (appendLog cause phase .duringLockout s))
  else enterLockout cause phase s

/-! ### The internal restart (R184) -/

/-- One port at the internal restart, after its fold and unmount (R23, R58, R63, R75, R91, R93, R117, R143, R164). -/
def restartPort (q : Port) : Port :=
  { q with
    run := .initial
    intake := { q.intake with
      settle := .empty, captureA := none, slot := none, captureValid := false, overwrite := false }
    acct := .cleared
    ident := ⟨q.ident.present, none, .none, none, none⟩
    alloc := .none
    phases := ⟨q.phases.reserved, none⟩
    prot := { q.prot with filters := Vector.replicate 6 0, thermalLatch := false, fault := none } }

/-- One phase at the internal restart, before reservations are taken again (R161). -/
def restartPhase (ph : Phase) : Phase :=
  if ph.state = .outOfService then disabled ph else { disabled ph with state := .free }

/-- The blocks at the internal restart, before presence detection (R3, R91, R115, R117, R161, R184). -/
def restartBlocks (s : State) : State :=
  let s := forPorts (fun p t => unmount p (fold p t)) s
  let s := { s with
    ports := s.ports.map restartPort
    headers := s.headers.map fun h => { h with useCount := 0 }
    history := { s.history with waiting := [] }
    alloc := { s.alloc with lastRound := { s.alloc.lastRound with iTot := 0, eTot := 0 } }
    pool := ⟨s.pool.phases.map restartPhase, []⟩
    prot := { s.prot with cabinet := .normal, contactor := .opened, drive := false } }
  let s := forPorts (fun p t => takePhases p t.ports[p].phases.reserved t) s
  raiseCabinet .restarted s

/-- The internal restart (R184). -/
def internalRestart (s : State) : State := presenceDetection (restartBlocks s)

/-- The end of a cooldown (R182). -/
def endCooldown (s : State) : State :=
  if s.prot.cabinet ≠ .cooldown 0 then s
  else
    match s.prot.policy with
    | .hold => { s with prot := { s.prot with cabinet := .waiting false } }
    | .restart =>
      if s.prot.feedbackClosed then { s with prot := { s.prot with cabinet := .waiting true } } else internalRestart s

/-- CLEAR_LOCKOUT (R183). -/
def clearLockout (s : State) : State × Reply :=
  match s.prot.cabinet with
  | .waiting _ => if s.prot.feedbackClosed then refuse .badState s else done (internalRestart s)
  | .normal | .cooldown _ => refuse .badState s

/-- SET_LOCKOUT_POLICY (R182). -/
def setPolicy (m : Master) (policy : Nat) (s : State) : State × Reply :=
  if m = .station then refuse .notOwner s
  else
    match policyOf policy with
    | some x => done { s with prot := { s.prot with policy := x } }
    | none => refuse .badField s

/-! ### The contactor (R177 to R179) -/

/-- CLOSE_CONTACTOR (R177). A closing that expired in the same ms is then past: its mark falls (log entry 28). -/
def closeContactor (s : State) : State × Reply :=
  if inLockout s ∨ s.prot.contactor ≠ .opened ∨ s.prot.openingWatch.isSome ∨ s.prot.feedbackClosed then refuse .badState s
  else done { s with prot := { s.prot with drive := true, contactor := .closing, closingWatch := some 0, closingExpired := false } }

/-- A port state that bars OPEN_CONTACTOR (R178). -/
def barsOpening (st : PortState) : Bool :=
  match st with
  | .transfer | .running | .holding | .ending => true
  | _ => false

/-- OPEN_CONTACTOR (R178). -/
def openContactor (s : State) : State × Reply :=
  if s.ports.toList.any fun q => barsOpening q.run.state then refuse .badState s
  else if s.prot.contactor = .opened then done s
  else done { s with prot := openLink s.prot }

/-- The contactor feedback closes (R177, R179). With an expiry of the closing in the same ms, the feedback falls within the opening
watch that began at the expiry (R188; log entry 28). That watch is then pending, and the mark of the expiry falls: once the watch
has ended, a further closing is CONTACTOR_STUCK (R179). -/
def closeFeedback (s : State) : State :=
  if s.prot.feedbackClosed then s
  else
    let t := { s with prot := { s.prot with feedbackClosed := true } }
    match s.prot.contactor with
    | .closing => { t with prot := { t.prot with contactor := .closed, closingWatch := none } }
    | .opened =>
      if s.prot.openingWatch.isSome then t
      else if s.prot.closingExpired then { t with prot := { t.prot with openingWatch := some 0, closingExpired := false } }
      else lockoutCause .contactorStuck none t
    | .closed => t

/-- The contactor feedback opens (R178, R179, R182). -/
def openFeedback (s : State) : State :=
  if ¬ s.prot.feedbackClosed then s
  else
    let t := { s with prot := { s.prot with feedbackClosed := false } }
    match s.prot.contactor with
    | .closed => lockoutCause .linkDropped none { t with prot := openLink t.prot }
    | .closing => t
    | .opened =>
      let u := { t with prot := { t.prot with openingWatch := none } }
      if s.prot.cabinet = .waiting true then internalRestart u else u

/-- The expiry of a closing, 200 ms after it began (R177). Where its opening watch ends at once, the ms is marked for R188 (log
entry 28). -/
def expireClosing (s : State) : State :=
  match s.prot.closingWatch with
  | some n =>
    if n < 200 then s
    else appendLog .contactorFault none .noLockout
      { s with prot := { openLink s.prot with closingExpired := !s.prot.feedbackClosed } }
  | none => s

/-- The expiry of an opening, 200 ms after it began (R178). -/
def expireOpening (s : State) : State :=
  match s.prot.openingWatch with
  | some n =>
    if n < 200 then s
    else lockoutCause .contactorStuck none { s with prot := { s.prot with openingWatch := none } }
  | none => s

/-! ### The phase pool's lines (R158, R160) -/

/-- A phase becomes OUT_OF_SERVICE, disabled (R158). -/
def outOfService (ph : Phase) : Phase := { disabled ph with state := .outOfService }

/-- A rise of a phase's fault line (R158). -/
def riseFault (f : Fin 16) (s : State) : State :=
  if s.pool.phases[f].faultHigh then s
  else
    let t := modPhase f (fun ph => { ph with faultHigh := true }) s
    if s.pool.phases[f].state = .outOfService then t
    else reformNeeds (raiseCabinet .phaseOutOfService (modPhase f outOfService t))

/-- A fall of a phase's fault line: the level alone (R159). -/
def fallFault (f : Fin 16) (s : State) : State := modPhase f (fun ph => { ph with faultHigh := false }) s

/-- A phase is assigned to an enabled port (R155). -/
def phaseMayRise (f : Fin 16) (s : State) : Bool :=
  match s.pool.phases[f].state with
  | .assigned p => isEnabledState s.ports[p].run.state
  | .free | .outOfService => false

/-- A fall of a phase's active line: the acknowledgement of a pending watch (R155, R160). -/
def fallActive (f : Fin 16) (s : State) : State :=
  if ¬ s.pool.phases[f].activeHigh then s
  else
    let rises := s.pool.phases[f].watch.isSome && phaseMayRise f s
    modPhase f (fun ph =>
      { ph with activeHigh := false, watch := none, enabled := ph.enabled || rises }) s

/-- A rise of a phase's active line: a failed disable where the phase is disabled with no watch pending (R160). -/
def riseActive (f : Fin 16) (s : State) : State :=
  let ph := s.pool.phases[f]
  if ph.activeHigh then s
  else
    let t := modPhase f (fun x => { x with activeHigh := true }) s
    if ¬ ph.enabled ∧ ph.watch.isNone then lockoutCause .disableAckFailure (some f) t else t

/-- The expiry of an acknowledgement watch, 2 ms after it began (R160). -/
def expireWatch (f : Fin 16) (s : State) : State :=
  match s.pool.phases[f].watch with
  | some n =>
    if n < 2 then s
    else lockoutCause .disableAckFailure (some f) (modPhase f (fun ph => { ph with watch := none }) s)
  | none => s

/-! ### Power-on reset (R204) -/

/-- Power-on reset: every block at its reset values, then the levels of the fault lines and the feedback, then presence
detection (R93, R141, R164). The waiting commands and the count of free values are the model's own and are kept. -/
def powerOn (lines : InputLines) (s : State) : State :=
  let t := { State.blocksAtReset lines with instants := s.instants, pending := s.pending }
  let t := { t with pool := { t.pool with phases := t.pool.phases.map fun ph => if ph.faultHigh then outOfService ph else ph } }
  let t := if lines.feedbackClosed then lockoutCause .contactorStuck none t else t
  presenceDetection t

/-! ### The fault log commands (R186) -/

/-- A cabinet fault log entry as it is sent: cause, phase (optional), cabinet time, effect. -/
def logBytes (x : LogEntry) : List Byte :=
  u8 (logCauseCode x.cause) ++ optional 1 (x.phase.map fun f => u8 f.val) ++ u64 x.time ++ u8 (logEffectCode x.effect)

/-- READ_FAULT_LOG (R186). -/
def readFaultLog (s : State) : State × Reply :=
  if s.prot.log.isEmpty ∧ s.prot.overflow = 0 then refuse .empty s
  else answer (counted (s.prot.log.map logBytes) ++ u16 s.prot.overflow) s

/-- CLEAR_FAULT_LOG (R186). -/
def clearFaultLog (s : State) : State × Reply := done { s with prot := { s.prot with log := [], overflow := 0 } }

end Sys2Proof.Machine
end

