-- ==== Sys2Proof/Machine/Status.lean ====
section
/-! DEFINITION. The reads of ports and cabinet: results, captures, port status, cabinet status and attention (R53, R54, R62, R77,
R90, R114, R140, R163, R187, R202, R208, R210). The order of the items is that of their rules, the rules in chapter order; what
the manual leaves to the reader in the encoding of an item is in log entry 15. -/

namespace Sys2Proof.Machine

/-! ### Results and captures (R53, R77) -/

/-- The reply data of both result reads: the record, the number of records and the lost-result count (R53). -/
def resultReply (r : ResultRecord) (count lost : Nat) : List Byte := resultBytes r ++ u8 count ++ u16 lost

/-- READ_RESULT, after the checks of R28 (R53). -/
def readResult (p : Fin 8) (s : State) : State × Reply :=
  match s.ports[p].results with
  | [] => refuse .empty s
  | r :: rest =>
    answer (resultReply r rest.length s.ports[p].lost)
      (modPort p (fun q => { q with results := rest, lost := if rest.isEmpty then 0 else q.lost }) s)

/-- PEEK_RESULT (R53). -/
def peekResult (p : Fin 8) (s : State) : State × Reply :=
  match s.ports[p].results with
  | [] => refuse .empty s
  | r :: rest => answer (resultReply r (rest.length + 1) s.ports[p].lost) s

/-- A capture result with the two marks of its slot (R75, R77), of which the manual gives no layout: the items in the order of R75,
the resistance that is a value or the mark invalid as an optional field (DESIGN CHOICE, log entry 15). -/
def captureBytes (c : CaptureResult) (valid overwrite : Bool) : List Byte :=
  orNone (c.program.map Fin.val) ++ u8 c.stepIndex ++ u32 c.runCycles
    ++ u32 c.a.voltage ++ i32 c.a.current ++ flagByte c.a.held ++ u32 c.a.timer
    ++ u32 c.b.voltage ++ i32 c.b.current ++ u32 c.b.timer
    ++ resistanceBytes c.resistance ++ flagByte valid ++ flagByte overwrite

/-- READ_CAPTURE (R77). -/
def readCapture (p : Fin 8) (s : State) : State × Reply :=
  let i := s.ports[p].intake
  match i.slot with
  | none => refuse .empty s
  | some c =>
    answer (captureBytes c i.captureValid i.overwrite)
      (modIntake p (fun x => { x with captureValid := false, overwrite := false }) s)

/-! ### Port status (R54) -/

/-- A level of a contact or switch: OPEN 0, CLOSED 1 (R93, R164). -/
def levelByte (closed : Bool) : List Byte := flagByte closed

/-- The set of hold causes: MASTER, INTERLOCK, DOOR as bits 0 to 2. -/
def causesByte (c : HoldCauses) : List Byte :=
  u8 ((if c.master then 1 else 0) + (if c.interlock then 2 else 0) + (if c.door then 4 else 0))

/-- The program shown: that of the last run in READY and FAULTED, the bound one otherwise (R54). -/
def shownProgram (r : RunContext) : Option (Fin 32) :=
  match r.state with
  | .ready | .faulted => r.lastProgram
  | .vacant | .identifying | .unidentified | .transfer | .running | .holding | .held | .ending => r.program

/-- The loop counters in use by the program shown, with their last values after its run (R47, R54). -/
def countersInUse (r : RunContext) : List Nat :=
  if (shownProgram r).isSome then r.counters.toList.take r.countersUsed else []

/-- The items of R54 itself. DESIGN CHOICE (log entry 15): outside TRANSFER, where R23 gives the transfer stage no meaning, the byte
of the stage shows the stage last set, as step index, kind and sub-phase stand as last set. -/
def runStatus (q : Port) : List Byte :=
  let r := q.run
  u8 (portStateCode r.state) ++ u8 (stageCode r.stage) ++ causesByte r.causes ++ u8 (ownerCode q.owner)
    ++ orNone ((shownProgram r).map Fin.val) ++ u8 r.stepIndex ++ orNone (r.step.map fun x => kindCode x.kind)
    ++ u8 (subPhaseCode r.subPhase) ++ u32 r.stepTimer ++ u32 r.throttledTime ++ u32 r.runCycles
    ++ counted ((countersInUse r).map u16) ++ u8 q.results.length ++ u16 q.lost ++ u8 (outcomeCode r.outcome)
    ++ optional 2 (r.slew.map fun d => u16 d.elapsed)

/-- A calibration pair. -/
def calibrationBytes (c : Calibration) : List Byte := i32 c.offset ++ u32 c.gain

/-- The items of R62. DESIGN CHOICE (log entry 34): before the port's first sample instant the latest one is shown as an arrival. -/
def intakeStatus (i : Intake) : List Byte :=
  optional 13 (i.latest.map fun v => u32 v.voltage ++ i32 v.current ++ i32 v.temperature ++ flagByte v.reversed)
    ++ flagByte (0 < i.missed) ++ u16 i.missed
    ++ calibrationBytes i.voltageCal ++ calibrationBytes i.currentCal ++ calibrationBytes i.temperatureCal
    ++ u8 (settleGrade i.settle) ++ u8 i.settle.count ++ flagByte i.settle.dirty ++ u16 i.settle.band
    ++ flagByte i.captureValid ++ flagByte i.overwrite

/-- The items of R90. -/
def accountStatus (q : Port) : List Byte :=
  let a := q.acct
  tallyBytes a.step.tally ++ flagByte a.step.tally.saturated ++ i32 a.step.maxTemp
    ++ tallyBytes a.run ++ flagByte a.run.saturated
    ++ tallyBytes a.unfolded.tally ++ flagByte a.unfolded.tally.saturated ++ i32 a.unfolded.maxTemp
    ++ u8 a.unfolded.cycleDelta ++ u8 a.unfolded.faultDelta ++ resistanceBytes a.unfolded.lastResistance
    ++ flagByte q.ident.bound.isSome

/-- A port's position on the history wait list, from 1 at the head (R114). -/
def waitPosition (p : Fin 8) (s : State) : Option Nat :=
  if p ∈ s.history.waiting then some (s.history.waiting.idxOf p + 1) else none

/-- The items of R114 for a port. An attempt, a wait position and a bound entry that is none is 255, as R214 has "None" in a one-byte
number field; the two serials are optional fields (log entry 15). -/
def identStatus (p : Fin 8) (s : State) : List Byte :=
  let i := s.ports[p].ident
  let waits := waitPosition p s
  levelByte i.present ++ orNone (i.attempt.map Attempt.number) ++ u8 (idFailureCode i.lastFailure)
    ++ optional 8 (if waits.isSome then i.serialRead.map u64 else none) ++ orNone waits
    ++ orNone (i.bound.map Fin.val) ++ optional 8 (i.bound.map fun e => u64 ((s.history.entries[e].map Entry.serial).getD 0))

/-- A request basis (R123): the index of its step in the program, kind, sub-phase and the setpoints it holds. -/
def basisBytes (b : Basis) : List Byte :=
  u8 b.index ++ u8 (kindCode b.step.kind) ++ u8 (subPhaseCode b.subPhase) ++ u32 b.step.current ++ u32 b.step.power ++ u32 b.step.cvVoltage
    ++ i32 b.step.baseCurrent ++ i32 b.step.pulseCurrent

/-- The items of R140 for a port. -/
def grantStatus (q : Port) : List Byte :=
  let g := q.alloc
  let b := q.run.bounds
  optional 23 (g.basis.map basisBytes) ++ i32 g.request ++ u8 g.level ++ flagByte g.requestClamped ++ i32 g.grant
    ++ u32 b.grantBound ++ u32 b.stepDemand ++ u32 b.cvDemand ++ u32 q.run.cvIntegrator ++ u32 b.phaseCapacity
    ++ i32 q.run.applied ++ flagByte q.run.throttled

/-- A port's place in the phase wait queue, from 1 at the head, with its shortfall (R163). -/
def queuePlace (p : Fin 8) (s : State) : Option (Nat × Nat) :=
  (s.pool.queue.findIdx? fun x => x.1 = p).map fun k => (k + 1, (s.pool.queue.getD k (0, 0)).2)

/-- The items of R163 for a port. A raw need, a queue position or a shortfall that is none is 255 (R143, R214); a need that is not
formed is 0. DESIGN CHOICE (log entry 15): the gang position "k of n" (R152) of a phase is sent as k in one byte, and n is the count
byte of the gang list. -/
def phaseStatus (p : Fin 8) (s : State) : List Byte :=
  let x := s.ports[p].phases
  u8 x.reserved ++ u8 (heldCount p s)
    ++ counted ((gang p s).zipIdx.map fun y => u8 y.1.val ++ u8 y.2 ++ u32 s.pool.phases[y.1].command)
    ++ orNone (x.need.map Need.raw) ++ u8 ((x.need.map Need.need).getD 0)
    ++ orNone ((queuePlace p s).map Prod.fst) ++ orNone ((queuePlace p s).map Prod.snd)

/-- An envelope. -/
def envelopeBytes (e : Envelope) : List Byte := u32 e.vMax ++ u32 e.vMin ++ u32 e.charge ++ u32 e.discharge ++ i32 e.tMax

/-- A fault record (R174). -/
def faultBytes (f : FaultRecord) : List Byte :=
  u8 (faultCodeCode f.code) ++ u64 f.time ++ u8 (portStateCode f.portState)
    ++ optional 6 (f.run.map fun m => u8 m.program.val ++ u8 m.stepIndex ++ u32 m.runCycles)
    ++ u32 f.voltage ++ i32 f.current ++ i32 f.temperature ++ u8 f.additional

/-- The items of R187 for a port. -/
def protectionStatus (q : Port) : List Byte :=
  envelopeBytes q.prot.requested ++ envelopeBytes q.prot.effective ++ flagByte q.prot.clamped ++ flagByte q.run.clamped
    ++ (q.prot.filters.toList.map u8).flatten ++ levelByte (!q.prot.thermalOpen) ++ flagByte q.prot.thermalLatch
    ++ optional 30 (q.prot.fault.map faultBytes)

/-- The items of R202 for a port. -/
def maskStatus (q : Port) (asserted : Byte) : List Byte := [q.mask] ++ flagByte (interlocked q asserted)

/-- The data of READ_PORT_STATUS (R54). -/
def portStatus (p : Fin 8) (s : State) : List Byte :=
  let q := s.ports[p]
  runStatus q ++ intakeStatus q.intake ++ accountStatus q ++ identStatus p s ++ grantStatus q ++ phaseStatus p s
    ++ protectionStatus q ++ maskStatus q s.chain.asserted

/-- READ_PORT_STATUS (R54). -/
def readPortStatus (p : Fin 8) (s : State) : State × Reply := answer (portStatus p s) s

/-! ### Cabinet status (R208) -/

/-- A budget. -/
def budgetBytes (b : Budget) : List Byte := u32 b.imp ++ u32 b.exp

/-- The outcome of a round with its sharing level (R117). -/
def outcomeBytes : RoundOutcome → List Byte
  | .unthrottled => u8 0 ++ optional 1 none
  | .importThrottled l => u8 1 ++ optional 1 (some (u8 l))
  | .exportThrottled l => u8 2 ++ optional 1 (some (u8 l))

/-- The allocator's items (R140). -/
def allocatorStatus (s : State) : List Byte :=
  let a := s.alloc
  u8 (sourceCode a.source) ++ budgetBytes a.inForce ++ budgetBytes a.standalone ++ budgetBytes a.fallback
    ++ budgetBytes a.lastRound.budget ++ u32 a.lastRound.iTot ++ u32 a.lastRound.eTot ++ outcomeBytes a.lastRound.outcome
    ++ i32 (netGrant s) ++ u32 a.roundCount ++ u32 a.rampTime

/-- The number of occupied entries (R114). -/
def occupiedCount (s : State) : Nat := (s.history.entries.toList.filter Option.isSome).length

/-- The history table's items (R114). -/
def historyStatus (s : State) : List Byte :=
  u8 (occupiedCount s) ++ u8 (pinnedCount s) ++ u8 s.history.evictions.length
    ++ counted (s.history.waiting.map fun p => u8 p.val)

/-- The record of one phase (R163): state with its port, enable, direction, command, watch. DESIGN CHOICE (log entry 15): the enable
of R141 is sent as a flag, 1 when enabled and 0 when disabled, and not in the order in which R141 lists the two. -/
def phaseBytes (ph : Phase) : List Byte :=
  (match ph.state with
    | .free => u8 0 ++ orNone none
    | .assigned p => u8 1 ++ u8 p.val
    | .outOfService => u8 2 ++ orNone none)
    ++ flagByte ph.enabled ++ u8 (directionCode ph.direction) ++ u32 ph.command ++ optional 4 (ph.watch.map u32)

/-- The phase pool's items (R163). -/
def poolStatus (s : State) : List Byte :=
  (s.pool.phases.toList.map phaseBytes).flatten ++ u8 (inServiceCount s) ++ u8 (freeCount s)
    ++ counted (s.pool.queue.map fun x => u8 x.1.val ++ u8 x.2)

/-- The five cabinet limits. -/
def limitsBytes (l : Limits) : List Byte :=
  u32 l.maxVoltage ++ u32 l.maxCharge ++ u32 l.maxDischarge ++ i32 l.maxTemp ++ u32 l.maxPower

/-- The cabinet state with its stage and remaining cooldown (R187). -/
def cabinetBytes : CabinetState → List Byte
  | .normal => u8 0 ++ optional 1 none ++ optional 4 none
  | .cooldown r => u8 1 ++ optional 1 (some (u8 0)) ++ optional 4 (some (u32 r))
  | .waiting _ => u8 1 ++ optional 1 (some (u8 1)) ++ optional 4 none

/-- The protection unit's items (R187). DESIGN CHOICE (log entry 15): the drive, which R164 lists as on or off, is sent 1 when on. -/
def unitStatus (x : Protection) : List Byte :=
  limitsBytes x.limits ++ flagByte x.locked ++ u8 (policyCode x.policy) ++ cabinetBytes x.cabinet
    ++ u8 (contactorCode x.contactor) ++ flagByte x.drive ++ levelByte x.feedbackClosed
    ++ optional 4 (x.closingWatch.map u32) ++ optional 4 (x.openingWatch.map u32) ++ levelByte (!x.doorOpen)
    ++ u8 x.log.length ++ u16 x.overflow

/-- The hall chain interface's items (R202). DESIGN CHOICE (log entry 15): the downstream side of R189 is sent as a flag, 1 when
enabled and 0 when disabled, and not in the order in which R189 lists the two. -/
def chainStatus (c : Chain) : List Byte :=
  orNone c.number ++ u8 (chainStateCode c.state) ++ flagByte c.live ++ flagByte c.last ++ flagByte c.downstream
    ++ optional 4 (c.answerWatch.map u32) ++ u8 c.errors ++ u8 c.validRun ++ optional 4 (c.silence.map u32)
    ++ optional 1 (c.frameLines.map fun b => [b]) ++ [c.asserted] ++ optional 8 (c.entry.map budgetBytes)
    ++ optional 2 (c.superframe.map u16) ++ optional 1 (c.lastTag.map fun b => [b]) ++ flagByte c.responsePending
    ++ u16 c.breaks

/-- The data of READ_CABINET_STATUS (R208). DESIGN CHOICE (log entry 15): the attention line, which R204 lists as asserted or
released, is sent 1 when asserted. -/
def cabinetStatus (s : State) : List Byte :=
  allocatorStatus s ++ historyStatus s ++ poolStatus s ++ unitStatus s.prot ++ chainStatus s.chain
    ++ (s.ports.toList.map fun q => u8 (ownerCode q.owner)).flatten ++ flagByte (attentionLine s)

/-- READ_CABINET_STATUS (R208). -/
def readCabinetStatus (s : State) : State × Reply := answer (cabinetStatus s) s

/-! ### Attention (R210) -/

/-- READ_ATTENTION (R210). -/
def readAttention (m : Master) (s : State) : State × Reply :=
  answer (attentionBytes (attentionSet m s) ++ attentionBytes (attentionMask m s)
    ++ (if m = .station then flagByte (attentionLine s) else [])) s

end Sys2Proof.Machine
end

