-- ==== Sys2Proof/Machine/Store.lean ====
section
/-! DEFINITION. The program store: opening, writing, closing with validation, deleting and reading (R1 to R22). -/

namespace Sys2Proof.Machine

/-! ### Validation (R18) -/

/-- The reasons of R18, in the order of its table. -/
inductive CloseReason where
  | unwritten | fieldRange | badRelation | badQuantity | gotoTarget | captureDelay | loopTarget | loopTargetKind | loopLimit
  deriving DecidableEq, Repr, Inhabited

/-- Code of a reason: UNWRITTEN 0 to LOOP_LIMIT 8 (R214). -/
def closeReasonCode : CloseReason → Nat
  | .unwritten => 0 | .fieldRange => 1 | .badRelation => 2 | .badQuantity => 3 | .gotoTarget => 4 | .captureDelay => 5
  | .loopTarget => 6 | .loopTargetKind => 7 | .loopLimit => 8

/-- What a failed check reports: the reason, the condition number where it concerns a condition, the field's offset for
FIELD_RANGE (R17, R214). -/
structure CloseFailure where
  reason : CloseReason
  condition : Option Nat
  field : Option Nat
  deriving DecidableEq, Repr, Inhabited

/-- A threshold's range by its quantity (R15). -/
def thresholdInRange (c : Condition) : Bool :=
  match c.quantity with
  | .voltage => decide (0 ≤ c.threshold ∧ c.threshold ≤ 1000000)
  | .current => decide (0 ≤ c.threshold ∧ c.threshold ≤ 400000)
  | .temperature => decide (-400 ≤ c.threshold ∧ c.threshold ≤ 1500)
  | .settleGrade => decide (1 ≤ c.threshold ∧ c.threshold ≤ 2)
  | .stepTime | .stepCharge | .stepEnergy | .throttledTime => decide (0 ≤ c.threshold ∧ c.threshold ≤ 4294967295)

/-- The field of a record first out of its range in the order of the table of R7, by its offset; a field the kind does not
carry is stored as 0 and is not looked at. -/
def recordFieldFailure (r : StepRecord) : Option Nat :=
  let fails : List (Bool × Nat) :=
    [ (carriesCurrent r.kind && decide (320000 < r.current), 2)
    , (decide (r.kind = .cpDischarge) && decide (320000 < r.power), 6)
    , (decide (r.kind = .cccvCharge) && decide (1000000 < r.cvVoltage), 10)
    , (isPowerStep r.kind && decide (3 < r.level), 1)
    , (isTimed r.kind && decide (r.duration < 1 ∨ 4294967295 < r.duration), 18)
    , (isPowerStep r.kind && decide (65535 < r.settleTolerance), 16)
    , (decide (r.kind = .cccvCharge) && decide (65535 < r.cvTolerance), 14)
    , (decide (r.kind = .pulse) && decide (320000 < r.baseCurrent.natAbs), 22)
    , (decide (r.kind = .pulse) && decide (320000 < r.pulseCurrent.natAbs), 26)
    , (decide (r.kind = .pulse) && decide (r.baseTime < 2 ∨ 60000 < r.baseTime), 30)
    , (decide (r.kind = .pulse) && decide (r.pulseTime < 1 ∨ 60000 < r.pulseTime), 32)
    , (decide (r.kind = .pulse) && decide (60000 < r.captureDelay), 34)
    , (decide (r.kind = .loop) && decide (63 < r.loopTarget), 36)
    , (decide (r.kind = .loop) && decide (r.repeatCount < 1 ∨ 65535 < r.repeatCount), 37)
    , (decide (r.kind = .loop) && decide (1 < r.cycleMark), 39) ]
  (fails.find? Prod.fst).map Prod.snd

/-- The field of a condition out of its range, by its offset in its slot: the threshold (2), then the GOTO operand (7) (R15,
R18). A quantity is never out of range, since WRITE_STEP stores none of another code (R6). -/
def conditionFieldFailure (c : Condition) : Option Nat :=
  if ¬ thresholdInRange c then some 2
  else match c.action with
    | .goto t => if 63 < t then some 7 else none
    | _ => none

/-- The first condition that a test fails, by its number. -/
def firstCondition (r : StepRecord) (bad : Condition → Bool) : Option Nat := r.conditions.findIdx? bad

/-- FIELD_RANGE: the record's own fields, then the conditions in list order (R18, check 2). -/
def fieldRange (r : StepRecord) : Option CloseFailure :=
  match recordFieldFailure r with
  | some off => some ⟨.fieldRange, none, some off⟩
  | none =>
    (firstCondition r fun c => (conditionFieldFailure c).isSome).map fun n =>
      ⟨.fieldRange, some n, conditionFieldFailure (r.conditions.getD n default)⟩

/-- A GOTO operand is not below the step count. -/
def gotoBeyond (count : Nat) (c : Condition) : Bool :=
  match c.action with
  | .goto t => decide (count ≤ t)
  | _ => false

/-- Whether a place of the step list holds a LOOP. -/
def isLoop (r : Option StepRecord) : Bool := r.any fun x => x.kind = .loop

/-- The LOOP steps below an index. -/
def loopsBefore (steps : List (Option StepRecord)) (i : Nat) : Nat := ((steps.take i).filter isLoop).length

/-- The record at a LOOP's target is a LOOP or an END (R18, check 8). -/
def targetInstant (steps : List (Option StepRecord)) (t : Nat) : Bool :=
  ((steps[t]?).join).any fun x => ¬ isTimed x.kind

/-- The checks of R18 at one index, in their order. -/
def checkStep (steps : List (Option StepRecord)) (i : Nat) : Option CloseFailure :=
  match (steps[i]?).join with
  | none => some ⟨.unwritten, none, none⟩
  | some r =>
    match fieldRange r with
    | some f => some f
    | none =>
      match firstCondition r fun c => c.quantity = .settleGrade && c.relation = .atOrBelow with
      | some n => some ⟨.badRelation, some n, none⟩
      | none =>
        match if r.kind = .rest then firstCondition r fun c => c.quantity = .settleGrade else none with
        | some n => some ⟨.badQuantity, some n, none⟩
        | none =>
          match firstCondition r (gotoBeyond steps.length) with
          | some n => some ⟨.gotoTarget, some n, none⟩
          | none =>
            if r.kind = .pulse ∧ (r.captureDelay = 0 ∨ r.pulseTime < r.captureDelay) then some ⟨.captureDelay, none, none⟩
            else if r.kind ≠ .loop then none
            else if i ≤ r.loopTarget then some ⟨.loopTarget, none, none⟩
            else if targetInstant steps r.loopTarget then some ⟨.loopTargetKind, none, none⟩
            else if 16 ≤ loopsBefore steps i then some ⟨.loopLimit, none, none⟩
            else none

/-- The first failing index of a step list with its failure (R18). -/
def validate (steps : List (Option StepRecord)) : Option (Nat × CloseFailure) :=
  (List.range steps.length).findSome? fun i => (checkStep steps i).map fun f => (i, f)

/-- The counter numbers of R19: the LOOP steps numbered in ascending index order. -/
def assignLoops (steps : List (Option StepRecord)) : List (Option Nat) :=
  (List.range steps.length).map fun i => if isLoop (steps[i]?).join then some (loopsBefore steps i) else none

/-- The number of LOOP steps of a step list (R17). -/
def loopCount (steps : List (Option StepRecord)) : Nat := (steps.filter isLoop).length

/-! ### The commands (R5, R6, R17, R20, R21) -/

/-- OPEN_PROGRAM (R5). -/
def openProgram (m : Master) (number steps : Nat) (s : State) : State × Reply :=
  onProgram number s fun n =>
    if steps < 1 ∨ 64 < steps then refuse .badField s
    else if s.headers[n].state ≠ .empty then refuse .badState s
    else if freeSlots s < steps then refuse .noSpace s
    else
      let t := modHeader n (fun _ => ⟨.building, m, List.replicate steps none, 0, []⟩) s
      answer (u16 (freeSlots t)) t

/-- WRITE_STEP (R6). -/
def writeStep (m : Master) (number index : Nat) (record : List Byte) (s : State) : State × Reply :=
  onProgram number s fun n =>
    let h := s.headers[n]
    if h.state ≠ .building then refuse .badState s
    else if h.author ≠ m then refuse .notOwner s
    else if h.steps.length ≤ index then refuse .badField s
    else
      match parseStep record with
      | none => refuse .badField s
      | some r => done (modHeader n (fun x => { x with steps := x.steps.set index (some r) }) s)

/-- The reply data of a failed close: index, reason, condition number and field name (R17, log entry 14). -/
def closeFailureBytes (i : Nat) (f : CloseFailure) : List Byte :=
  u8 i ++ u8 (closeReasonCode f.reason) ++ optional 1 (f.condition.map u8) ++ optional 1 (f.field.map u8)

/-- CLOSE_PROGRAM (R17, R19). -/
def closeProgram (m : Master) (number : Nat) (s : State) : State × Reply :=
  onProgram number s fun n =>
    let h := s.headers[n]
    if h.state ≠ .building then refuse .badState s
    else if h.author ≠ m then refuse .notOwner s
    else
      match validate h.steps with
      | some (i, f) => refuseWith .badField (closeFailureBytes i f) s
      | none =>
        answer (u8 (loopCount h.steps))
          (modHeader n (fun x => { x with state := .ready, loopNumbers := assignLoops x.steps }) s)

/-- DELETE_PROGRAM (R20). -/
def deleteProgram (m : Master) (number : Nat) (s : State) : State × Reply :=
  onProgram number s fun n =>
    let h := s.headers[n]
    if h.state = .empty then refuse .badState s
    else if m = .station ∧ h.author ≠ .station then refuse .notOwner s
    else if 0 < h.useCount then refuse .inUse s
    else
      let t := modHeader n (fun _ => .empty) s
      answer (u16 (freeSlots t)) t

/-- The counter number byte of a stored record (R19, R214): 255 for a LOOP until the program is READY, 0 in a record that
carries no such field (log entry 15). -/
def counterByte (h : Header) (i : Nat) (r : StepRecord) : Nat :=
  if r.kind ≠ .loop then 0 else if h.state = .ready then ((h.loopNumbers[i]?).join).getD 255 else 255

/-- READ_STEP (R21). -/
def readStep (number index : Nat) (s : State) : State × Reply :=
  onProgram number s fun n =>
    let h := s.headers[n]
    if h.state = .empty then refuse .empty s
    else if h.steps.length ≤ index then refuse .badField s
    else
      answer
        (u8 (headerStateCode h.state) ++ u8 (masterCode h.author) ++ u8 h.steps.length ++ u8 h.useCount
          ++ u8 (writtenCount h) ++ u16 (freeSlots s)
          ++ optional 74 ((recordAt n index s).map fun r => stepBytes r (counterByte h index r))) s

end Sys2Proof.Machine
end

