-- ==== Sys2Proof/Machine/Commands.lean ====
section
/-! DEFINITION. The commands of the two masters: the port settings, the attention commands, the run of a command by its issuer,
its bytes on a link and back, the delivery of its reply, and the 46 rows of the table that are commands (R25 to R28, R53, R61,
R70, R71, R197, R198, R206, R207, R210, R211, R214). -/

namespace Sys2Proof.Machine

/-! ### Ownership (R25 to R27) -/

/-- A port's owner is set. -/
def setOwner (p : Fin 8) (o : Owner) (s : State) : State := modPort p (fun q => { q with owner := o }) s

/-- CLAIM_PORT (R25). -/
def claimPort (m : Master) (port : Nat) (s : State) : State × Reply :=
  onPort port s fun p => if s.ports[p].owner ≠ .none then refuse .notOwner s else done (setOwner p (ownerOf m) s)

/-- RELEASE_PORT (R26). -/
def releasePort (m : Master) (port : Nat) (s : State) : State × Reply :=
  onOwnPort m port s fun p => done (setOwner p .none s)

/-- TAKE_PORT (R27). -/
def takePort (m : Master) (port : Nat) (s : State) : State × Reply :=
  if m = .station then refuse .notOwner s
  else
    onPort port s fun p =>
      done (setOwner p .hall (if s.ports[p].owner = .station then raisePortTaken p s else s))

/-! ### Port settings (R61, R70, R71, R197) -/

/-- SET_INTERLOCK_MASK (R197). -/
def setInterlockMask (m : Master) (port : Nat) (lines : Byte) (s : State) : State × Reply :=
  onOwnPort m port s fun p =>
    let t := modPort p (fun q => { q with mask := lines }) s
    done (handInterlock (interlocked s.ports[p] s.chain.asserted) (interlocked t.ports[p] s.chain.asserted) p t)

/-- An intake with one calibration pair replaced, channels in the order of R56; none for another channel. -/
def withCalibration (channel : Nat) (c : Calibration) (i : Intake) : Option Intake :=
  match channel with
  | 0 => some { i with voltageCal := c }
  | 1 => some { i with currentCal := c }
  | 2 => some { i with temperatureCal := c }
  | _ => none

/-- The ranges of a calibration pair (R56). -/
def calibrationInRange (offset : Int) (gain : Nat) : Bool :=
  decide (-8388608 ≤ offset) && decide (offset ≤ 8388607) && decide (gain ≤ 65535)

/-- SET_CALIBRATION (R61). -/
def setCalibration (m : Master) (port channel : Nat) (offset : Int) (gain : Nat) (s : State) : State × Reply :=
  onOwnPort m port s fun p =>
    match withCalibration channel ⟨offset, gain⟩ s.ports[p].intake with
    | none => refuse .badField s
    | some i =>
      if ¬ calibrationInRange offset gain then refuse .badField s
      else if hasStep s.ports[p].run.state then refuse .badState s
      else done (modIntake p (fun _ => i) s)

/-- SET_SETTLE_EDGES (R70). -/
def setSettleEdges (m : Master) (port setting : Nat) (s : State) : State × Reply :=
  onOwnPort m port s fun p =>
    match edgesOf setting with
    | none => refuse .badField s
    | some e => done (modIntake p (fun i => { i with edges := e }) s)

/-- The ranges of the port defaults (R71). -/
def defaultsInRange (d : PortDefaults) : Bool :=
  decide (d.currentTol ≤ 65535) && decide (d.voltageTol ≤ 65535) && decide (d.powerTol ≤ 65535) &&
    decide (1 ≤ d.cvGain) && decide (d.cvGain ≤ 255)

/-- SET_PORT_DEFAULTS (R71). -/
def setPortDefaults (m : Master) (port : Nat) (d : PortDefaults) (s : State) : State × Reply :=
  onOwnPort m port s fun p =>
    if ¬ defaultsInRange d then refuse .badField s else done (modIntake p (fun i => { i with defaults := d }) s)

/-! ### Attention (R210, R211) -/

/-- An attention argument as it is read: the unused bits of its cabinet byte are not (R216). -/
def readFlags (a : Attention) : Attention := { a with cabinet := a.cabinet &&& 0x3F }

/-- A set or mask names PORT_TAKEN of some port. -/
def namesPortTaken (a : Attention) : Bool := a.ports.toList.any fun b => b &&& portBit .portTaken != 0

/-- The issuer's set after a clear: the named flags clear, EVICTION_PENDING set again while records wait (R211). -/
def clearedSet (m : Master) (named : Attention) (s : State) : Attention :=
  let a := withoutFlags (attentionSet m s) named
  if hasCabinetFlag named .evictionPending && !s.history.evictions.isEmpty then withCabinetFlag a .evictionPending else a

/-- CLEAR_ATTENTION (R211). -/
def clearAttention (m : Master) (flags : Attention) (s : State) : State × Reply :=
  if m = .hall ∧ namesPortTaken flags then refuse .badField s
  else
    let a := clearedSet m (readFlags flags) s
    answer (attentionBytes a) (setAttentionSet m a s)

/-- SET_ATTENTION_MASK (R210). -/
def setAttentionMask (m : Master) (mask : Attention) (s : State) : State × Reply :=
  if m = .hall ∧ namesPortTaken mask then refuse .badField s else done (setMask m (readFlags mask) s)

/-! ### Running a command by its issuer (R206, R207) -/

/-- The command codes of R214. -/
def commandCode : Command → Nat
  | .openProgram .. => 1 | .writeStep .. => 2 | .closeProgram .. => 3 | .deleteProgram .. => 4 | .readStep .. => 5
  | .claimPort .. => 6 | .releasePort .. => 7 | .takePort .. => 8 | .startRun .. => 9 | .holdPort .. => 10
  | .resumePort .. => 11 | .abortRun .. => 12 | .clearFault .. => 13 | .retryIdentify .. => 14 | .setEnvelope .. => 15
  | .setReservedPhases .. => 16 | .setInterlockMask .. => 17 | .setCalibration .. => 18 | .setSettleEdges .. => 19
  | .setPortDefaults .. => 20 | .readPortStatus .. => 21 | .readResult .. => 22 | .peekResult .. => 23
  | .readCapture .. => 24 | .readHistory .. => 25 | .pinEntry .. => 26 | .unpinEntry .. => 27 | .importEntry .. => 28
  | .deleteEntry .. => 29 | .readEviction => 30 | .setLimits .. => 31 | .lockLimits => 32 | .setFallbackBudget .. => 33
  | .setStandaloneBudget .. => 34 | .setRampTime .. => 35 | .setLockoutPolicy .. => 36 | .closeContactor => 37
  | .openContactor => 38 | .clearLockout => 39 | .readCabinetStatus => 40 | .readFaultLog => 41 | .clearFaultLog => 42
  | .setPhaseService .. => 43 | .readAttention => 44 | .clearAttention .. => 45 | .setAttentionMask .. => 46

/-- A command taken from a master: its effect and its reply (R207). -/
def runCommand (m : Master) (c : Command) (s : State) : State × Reply :=
  match c with
  | .openProgram n k => openProgram m n k s
  | .writeStep n i r => writeStep m n i r s
  | .closeProgram n => closeProgram m n s
  | .deleteProgram n => deleteProgram m n s
  | .readStep n i => readStep n i s
  | .claimPort p => claimPort m p s
  | .releasePort p => releasePort m p s
  | .takePort p => takePort m p s
  | .startRun p n i => onOwnPort m p s fun q => startRun q n i s
  | .holdPort p => onOwnPort m p s fun q => holdCommand q s
  | .resumePort p => onOwnPort m p s fun q => resumeCommand q s
  | .abortRun p => onOwnPort m p s fun q => abortCommand q s
  | .clearFault p => clearFault m p s
  | .retryIdentify p => retryIdentify m p s
  | .setEnvelope p e => setEnvelope m p e s
  | .setReservedPhases p n => onOwnPort m p s fun q => reservePhases q n s
  | .setInterlockMask p l => setInterlockMask m p l s
  | .setCalibration p c o g => setCalibration m p c o g s
  | .setSettleEdges p e => setSettleEdges m p e s
  | .setPortDefaults p d => setPortDefaults m p d s
  | .readPortStatus p => onPort p s fun q => readPortStatus q s
  | .readResult p => onOwnPort m p s fun q => readResult q s
  | .peekResult p => onPort p s fun q => peekResult q s
  | .readCapture p => onPort p s fun q => readCapture q s
  | .readHistory x => readHistory x s
  | .pinEntry x => pinEntry x s
  | .unpinEntry x => unpinEntry x s
  | .importEntry r => importEntry r s
  | .deleteEntry x => deleteEntry x s
  | .readEviction => readEviction s
  | .setLimits l => setLimits l s
  | .lockLimits => lockLimits m s
  | .setFallbackBudget b => setFallback m b s
  | .setStandaloneBudget b => setStandalone b s
  | .setRampTime t => setRamp t s
  | .setLockoutPolicy x => setPolicy m x s
  | .closeContactor => closeContactor s
  | .openContactor => openContactor s
  | .clearLockout => clearLockout s
  | .readCabinetStatus => readCabinetStatus s
  | .readFaultLog => readFaultLog s
  | .clearFaultLog => clearFaultLog s
  | .setPhaseService f => servicePhase f s
  | .readAttention => readAttention m s
  | .clearAttention a => clearAttention m a s
  | .setAttentionMask a => setAttentionMask m a s

/-! ### A command's bytes (R214) -/

/-- A selector in its nine bytes. -/
def selectorBytes (x : Selector) : List Byte := u8 x.form ++ u64 x.value

/-- The selector at the start of some bytes. -/
def parseSelector (bs : List Byte) : Selector := ⟨natAt bs 0 1, natAt bs 1 8⟩

/-- An envelope at an offset. -/
def envelopeAt (bs : List Byte) (off : Nat) : Envelope :=
  ⟨natAt bs off 4, natAt bs (off + 4) 4, natAt bs (off + 8) 4, natAt bs (off + 12) 4, intAt bs (off + 16) 4⟩

/-- Limits at the start of some bytes. -/
def limitsAt (bs : List Byte) : Limits :=
  ⟨natAt bs 0 4, natAt bs 4 4, natAt bs 8 4, intAt bs 12 4, natAt bs 16 4⟩

/-- A budget at an offset. -/
def budgetAt (bs : List Byte) (off : Nat) : Budget := ⟨natAt bs off 4, natAt bs (off + 4) 4⟩

/-- The argument bytes of a command, in the order its rule names its arguments (R214). -/
def argumentBytes : Command → List Byte
  | .openProgram n k => u8 n ++ u8 k
  | .writeStep n i r => u8 n ++ u8 i ++ r
  | .closeProgram n | .deleteProgram n => u8 n
  | .readStep n i => u8 n ++ u8 i
  | .claimPort p | .releasePort p | .takePort p => u8 p
  | .startRun p n i => u8 p ++ u8 n ++ u8 i
  | .holdPort p | .resumePort p | .abortRun p | .clearFault p | .retryIdentify p => u8 p
  | .setEnvelope p e => u8 p ++ envelopeBytes e
  | .setReservedPhases p n => u8 p ++ u8 n
  | .setInterlockMask p l => u8 p ++ [l]
  | .setCalibration p c o g => u8 p ++ u8 c ++ i32 o ++ u32 g
  | .setSettleEdges p e => u8 p ++ u8 e
  | .setPortDefaults p d => u8 p ++ u16 d.currentTol ++ u16 d.voltageTol ++ u16 d.powerTol ++ u8 d.cvGain
  | .readPortStatus p | .readResult p | .peekResult p | .readCapture p => u8 p
  | .readHistory x | .pinEntry x | .unpinEntry x | .deleteEntry x => selectorBytes x
  | .importEntry r => r
  | .setLimits l => limitsBytes l
  | .setFallbackBudget b | .setStandaloneBudget b => budgetBytes b
  | .setRampTime t => u32 t
  | .setLockoutPolicy x => u8 x
  | .setPhaseService f => u8 f
  | .clearAttention a | .setAttentionMask a => attentionBytes a
  | .readEviction | .lockLimits | .closeContactor | .openContactor | .clearLockout | .readCabinetStatus | .readFaultLog
  | .clearFaultLog | .readAttention => []

/-- What a command code and its argument bytes spell. -/
inductive Spelled where
  | command (c : Command)
  | wrongLength
  | unknown
  deriving DecidableEq, Repr

/-- A command whose code calls for `n` argument bytes. -/
def withLength (n : Nat) (args : List Byte) (c : Command) : Spelled := if args.length = n then .command c else .wrongLength

/-- The command that a code and its argument bytes spell (R206, R214). -/
def decodeCommand (code : Nat) (args : List Byte) : Spelled :=
  let b (k : Nat) : Nat := natAt args k 1
  match code with
  | 1 => withLength 2 args (.openProgram (b 0) (b 1))
  | 2 => withLength 76 args (.writeStep (b 0) (b 1) (args.drop 2))
  | 3 => withLength 1 args (.closeProgram (b 0))
  | 4 => withLength 1 args (.deleteProgram (b 0))
  | 5 => withLength 2 args (.readStep (b 0) (b 1))
  | 6 => withLength 1 args (.claimPort (b 0))
  | 7 => withLength 1 args (.releasePort (b 0))
  | 8 => withLength 1 args (.takePort (b 0))
  | 9 => withLength 3 args (.startRun (b 0) (b 1) (b 2))
  | 10 => withLength 1 args (.holdPort (b 0))
  | 11 => withLength 1 args (.resumePort (b 0))
  | 12 => withLength 1 args (.abortRun (b 0))
  | 13 => withLength 1 args (.clearFault (b 0))
  | 14 => withLength 1 args (.retryIdentify (b 0))
  | 15 => withLength 21 args (.setEnvelope (b 0) (envelopeAt args 1))
  | 16 => withLength 2 args (.setReservedPhases (b 0) (b 1))
  | 17 => withLength 2 args (.setInterlockMask (b 0) (args.getD 1 0))
  | 18 => withLength 10 args (.setCalibration (b 0) (b 1) (intAt args 2 4) (natAt args 6 4))
  | 19 => withLength 2 args (.setSettleEdges (b 0) (b 1))
  | 20 => withLength 8 args (.setPortDefaults (b 0) ⟨natAt args 1 2, natAt args 3 2, natAt args 5 2, b 7⟩)
  | 21 => withLength 1 args (.readPortStatus (b 0))
  | 22 => withLength 1 args (.readResult (b 0))
  | 23 => withLength 1 args (.peekResult (b 0))
  | 24 => withLength 1 args (.readCapture (b 0))
  | 25 => withLength 9 args (.readHistory (parseSelector args))
  | 26 => withLength 9 args (.pinEntry (parseSelector args))
  | 27 => withLength 9 args (.unpinEntry (parseSelector args))
  | 28 => withLength 78 args (.importEntry args)
  | 29 => withLength 9 args (.deleteEntry (parseSelector args))
  | 30 => withLength 0 args .readEviction
  | 31 => withLength 20 args (.setLimits (limitsAt args))
  | 32 => withLength 0 args .lockLimits
  | 33 => withLength 8 args (.setFallbackBudget (budgetAt args 0))
  | 34 => withLength 8 args (.setStandaloneBudget (budgetAt args 0))
  | 35 => withLength 4 args (.setRampTime (natAt args 0 4))
  | 36 => withLength 1 args (.setLockoutPolicy (b 0))
  | 37 => withLength 0 args .closeContactor
  | 38 => withLength 0 args .openContactor
  | 39 => withLength 0 args .clearLockout
  | 40 => withLength 0 args .readCabinetStatus
  | 41 => withLength 0 args .readFaultLog
  | 42 => withLength 0 args .clearFaultLog
  | 43 => withLength 1 args (.setPhaseService (b 0))
  | 44 => withLength 0 args .readAttention
  | 45 => withLength 9 args (.clearAttention (parseAttention args))
  | 46 => withLength 9 args (.setAttentionMask (parseAttention args))
  | _ => .unknown

/-- What a code and its arguments do when a master sends them on a link that calls for no more checks: the command, or the
refusal UNKNOWN or FRAME_ERROR (R198, R206). -/
def takeCommand (m : Master) (code : Nat) (args : List Byte) (s : State) : State × Reply :=
  match decodeCommand code args with
  | .command c => runCommand m c s
  | .wrongLength => refuse .frameError s
  | .unknown => refuse .unknown s

/-! ### Delivery of a reply (R198, R206, R207) -/

/-- A reply placed in the station response buffer, with the command code it answers (R206). -/
def stationReply (code : Nat) (r : Reply) (s : State) : State :=
  let n := (s.cmd.responseNumber + 1) % 256
  { s with cmd := { s.cmd with responseNumber := n, response := some ⟨n, code, r⟩ } }

/-- A reply held for the next report slot, with the tag it answers (R198). -/
def hallReply (tag : Byte) (r : Reply) (s : State) : State :=
  { s with chain := { s.chain with lastTag := some tag, lastResponse := some r, responsePending := true } }

/-- The effect of a command with its reply placed where its issuer finds it (R207). -/
def deliver (iss : Issuer) (code : Nat) (x : State × Reply) : State :=
  match iss with
  | .station => stationReply code x.2 x.1
  | .hall tag => hallReply tag x.2 x.1

/-- What a command row answers: it completes, with the reply delivered. -/
abbrev replied (iss : Issuer) (code : Nat) (x : State × Reply) : Host.Outcome State Fault Refusal := .next (deliver iss code x)

/-! ### The rows of the table that are commands -/

/-- OPEN_PROGRAM (R5). -/
def execOpenProgram (iss : Issuer) (number steps : Nat) (s : State) : Host.Outcome State Fault Refusal :=
  replied iss 1 (openProgram iss.master number steps s)

/-- WRITE_STEP (R6). -/
def execWriteStep (iss : Issuer) (number index : Nat) (record : List Byte) (s : State) : Host.Outcome State Fault Refusal :=
  replied iss 2 (writeStep iss.master number index record s)

/-- CLOSE_PROGRAM (R17). -/
def execCloseProgram (iss : Issuer) (number : Nat) (s : State) : Host.Outcome State Fault Refusal :=
  replied iss 3 (closeProgram iss.master number s)

/-- DELETE_PROGRAM (R20). -/
def execDeleteProgram (iss : Issuer) (number : Nat) (s : State) : Host.Outcome State Fault Refusal :=
  replied iss 4 (deleteProgram iss.master number s)

/-- READ_STEP (R21). -/
def execReadStep (iss : Issuer) (number index : Nat) (s : State) : Host.Outcome State Fault Refusal :=
  replied iss 5 (readStep number index s)

/-- CLAIM_PORT (R25). -/
def execClaimPort (iss : Issuer) (port : Nat) (s : State) : Host.Outcome State Fault Refusal :=
  replied iss 6 (claimPort iss.master port s)

/-- RELEASE_PORT (R26). -/
def execReleasePort (iss : Issuer) (port : Nat) (s : State) : Host.Outcome State Fault Refusal :=
  replied iss 7 (releasePort iss.master port s)

/-- TAKE_PORT (R27). -/
def execTakePort (iss : Issuer) (port : Nat) (s : State) : Host.Outcome State Fault Refusal :=
  replied iss 8 (takePort iss.master port s)

/-- START_RUN (R28 to R31). -/
def execStartRun (iss : Issuer) (port program start : Nat) (s : State) : Host.Outcome State Fault Refusal :=
  replied iss 9 (onOwnPort iss.master port s fun p => startRun p program start s)

/-- HOLD_PORT (R28, R43). -/
def execHoldPort (iss : Issuer) (port : Nat) (s : State) : Host.Outcome State Fault Refusal :=
  replied iss 10 (onOwnPort iss.master port s fun p => holdCommand p s)

/-- RESUME_PORT (R28, R46). -/
def execResumePort (iss : Issuer) (port : Nat) (s : State) : Host.Outcome State Fault Refusal :=
  replied iss 11 (onOwnPort iss.master port s fun p => resumeCommand p s)

/-- ABORT_RUN (R28, R48). -/
def execAbortRun (iss : Issuer) (port : Nat) (s : State) : Host.Outcome State Fault Refusal :=
  replied iss 12 (onOwnPort iss.master port s fun p => abortCommand p s)

/-- CLEAR_FAULT (R175). -/
def execClearFault (iss : Issuer) (port : Nat) (s : State) : Host.Outcome State Fault Refusal :=
  replied iss 13 (clearFault iss.master port s)

/-- RETRY_IDENTIFY (R98). -/
def execRetryIdentify (iss : Issuer) (port : Nat) (s : State) : Host.Outcome State Fault Refusal :=
  replied iss 14 (retryIdentify iss.master port s)

/-- SET_ENVELOPE (R167). -/
def execSetEnvelope (iss : Issuer) (port : Nat) (envelope : Envelope) (s : State) : Host.Outcome State Fault Refusal :=
  replied iss 15 (setEnvelope iss.master port envelope s)

/-- SET_RESERVED_PHASES (R28, R151). -/
def execSetReservedPhases (iss : Issuer) (port count : Nat) (s : State) : Host.Outcome State Fault Refusal :=
  replied iss 16 (onOwnPort iss.master port s fun p => reservePhases p count s)

/-- SET_INTERLOCK_MASK (R197). -/
def execSetInterlockMask (iss : Issuer) (port : Nat) (lines : Byte) (s : State) : Host.Outcome State Fault Refusal :=
  replied iss 17 (setInterlockMask iss.master port lines s)

/-- SET_CALIBRATION (R61). -/
def execSetCalibration (iss : Issuer) (port channel : Nat) (offset : Int) (gain : Nat) (s : State) :
    Host.Outcome State Fault Refusal :=
  replied iss 18 (setCalibration iss.master port channel offset gain s)

/-- SET_SETTLE_EDGES (R70). -/
def execSetSettleEdges (iss : Issuer) (port setting : Nat) (s : State) : Host.Outcome State Fault Refusal :=
  replied iss 19 (setSettleEdges iss.master port setting s)

/-- SET_PORT_DEFAULTS (R71). -/
def execSetPortDefaults (iss : Issuer) (port : Nat) (defaults : PortDefaults) (s : State) : Host.Outcome State Fault Refusal :=
  replied iss 20 (setPortDefaults iss.master port defaults s)

/-- READ_PORT_STATUS (R54). -/
def execReadPortStatus (iss : Issuer) (port : Nat) (s : State) : Host.Outcome State Fault Refusal :=
  replied iss 21 (onPort port s fun p => readPortStatus p s)

/-- READ_RESULT (R28, R53). -/
def execReadResult (iss : Issuer) (port : Nat) (s : State) : Host.Outcome State Fault Refusal :=
  replied iss 22 (onOwnPort iss.master port s fun p => readResult p s)

/-- PEEK_RESULT (R53). -/
def execPeekResult (iss : Issuer) (port : Nat) (s : State) : Host.Outcome State Fault Refusal :=
  replied iss 23 (onPort port s fun p => peekResult p s)

/-- READ_CAPTURE (R77). -/
def execReadCapture (iss : Issuer) (port : Nat) (s : State) : Host.Outcome State Fault Refusal :=
  replied iss 24 (onPort port s fun p => readCapture p s)

/-- READ_HISTORY (R110). -/
def execReadHistory (iss : Issuer) (selector : Selector) (s : State) : Host.Outcome State Fault Refusal :=
  replied iss 25 (readHistory selector s)

/-- PIN_ENTRY (R108). -/
def execPinEntry (iss : Issuer) (selector : Selector) (s : State) : Host.Outcome State Fault Refusal :=
  replied iss 26 (pinEntry selector s)

/-- UNPIN_ENTRY (R108). -/
def execUnpinEntry (iss : Issuer) (selector : Selector) (s : State) : Host.Outcome State Fault Refusal :=
  replied iss 27 (unpinEntry selector s)

/-- IMPORT_ENTRY (R111). -/
def execImportEntry (iss : Issuer) (record : List Byte) (s : State) : Host.Outcome State Fault Refusal :=
  replied iss 28 (importEntry record s)

/-- DELETE_ENTRY (R112). -/
def execDeleteEntry (iss : Issuer) (selector : Selector) (s : State) : Host.Outcome State Fault Refusal :=
  replied iss 29 (deleteEntry selector s)

/-- READ_EVICTION (R113). -/
def execReadEviction (iss : Issuer) (s : State) : Host.Outcome State Fault Refusal :=
  replied iss 30 (readEviction s)

/-- SET_LIMITS (R165). -/
def execSetLimits (iss : Issuer) (limits : Limits) (s : State) : Host.Outcome State Fault Refusal :=
  replied iss 31 (setLimits limits s)

/-- LOCK_LIMITS (R166). -/
def execLockLimits (iss : Issuer) (s : State) : Host.Outcome State Fault Refusal :=
  replied iss 32 (lockLimits iss.master s)

/-- SET_FALLBACK_BUDGET (R122). -/
def execSetFallbackBudget (iss : Issuer) (budget : Budget) (s : State) : Host.Outcome State Fault Refusal :=
  replied iss 33 (setFallback iss.master budget s)

/-- SET_STANDALONE_BUDGET (R121). -/
def execSetStandaloneBudget (iss : Issuer) (budget : Budget) (s : State) : Host.Outcome State Fault Refusal :=
  replied iss 34 (setStandalone budget s)

/-- SET_RAMP_TIME (R139). -/
def execSetRampTime (iss : Issuer) (time : Nat) (s : State) : Host.Outcome State Fault Refusal :=
  replied iss 35 (setRamp time s)

/-- SET_LOCKOUT_POLICY (R182). -/
def execSetLockoutPolicy (iss : Issuer) (policy : Nat) (s : State) : Host.Outcome State Fault Refusal :=
  replied iss 36 (setPolicy iss.master policy s)

/-- CLOSE_CONTACTOR (R177). -/
def execCloseContactor (iss : Issuer) (s : State) : Host.Outcome State Fault Refusal :=
  replied iss 37 (closeContactor s)

/-- OPEN_CONTACTOR (R178). -/
def execOpenContactor (iss : Issuer) (s : State) : Host.Outcome State Fault Refusal :=
  replied iss 38 (openContactor s)

/-- CLEAR_LOCKOUT (R183). -/
def execClearLockout (iss : Issuer) (s : State) : Host.Outcome State Fault Refusal :=
  replied iss 39 (clearLockout s)

/-- READ_CABINET_STATUS (R208). -/
def execReadCabinetStatus (iss : Issuer) (s : State) : Host.Outcome State Fault Refusal :=
  replied iss 40 (readCabinetStatus s)

/-- READ_FAULT_LOG (R186). -/
def execReadFaultLog (iss : Issuer) (s : State) : Host.Outcome State Fault Refusal :=
  replied iss 41 (readFaultLog s)

/-- CLEAR_FAULT_LOG (R186). -/
def execClearFaultLog (iss : Issuer) (s : State) : Host.Outcome State Fault Refusal :=
  replied iss 42 (clearFaultLog s)

/-- SET_PHASE_SERVICE (R159). -/
def execSetPhaseService (iss : Issuer) (phase : Nat) (s : State) : Host.Outcome State Fault Refusal :=
  replied iss 43 (servicePhase phase s)

/-- READ_ATTENTION (R210). -/
def execReadAttention (iss : Issuer) (s : State) : Host.Outcome State Fault Refusal :=
  replied iss 44 (readAttention iss.master s)

/-- CLEAR_ATTENTION (R211). -/
def execClearAttention (iss : Issuer) (flags : Attention) (s : State) : Host.Outcome State Fault Refusal :=
  replied iss 45 (clearAttention iss.master flags s)

/-- SET_ATTENTION_MASK (R210). -/
def execSetAttentionMask (iss : Issuer) (mask : Attention) (s : State) : Host.Outcome State Fault Refusal :=
  replied iss 46 (setAttentionMask iss.master mask s)

end Sys2Proof.Machine
end

