-- ==== Sys2Proof/Machine/Links.lean ====
section
/-! DEFINITION. The two links: transactions of the station port (R205, R206) and the hall chain, its frames, numbering, states,
interlock lines, command slot and reports (R190 to R201, R215). -/

namespace Sys2Proof.Machine

/-! ### The station port (R205, R206) -/

/-- A frame of the station port with its check byte. -/
def withCheck (bs : List Byte) : List Byte := bs ++ [checkByte bs]

/-- The marks byte of a reply: bit 0 CLAMPED. -/
def marksByte (r : Reply) : List Byte := u8 (if r.clamped then 1 else 0)

/-- A response frame. -/
def responseFrame (r : Response) : List Byte :=
  withCheck (u8 166 ++ u8 r.number ++ u8 r.command ++ u8 (replyCodeCode r.reply.code) ++ marksByte r.reply
    ++ u16 r.reply.data.length ++ r.reply.data)

/-- The empty response frame, with the present response number. -/
def emptyFrame (number : Nat) : List Byte := withCheck (u8 166 ++ u8 number ++ u8 0 ++ u8 0 ++ u8 2 ++ u16 0)

/-- The frame that a transaction starting now shifts out (R205). -/
def latchedFrame (c : CommandUnit) : List Byte :=
  match c.response with
  | some r => responseFrame r
  | none => emptyFrame c.responseNumber

/-- The start of a transaction; a select line that is asserted already does not start another (R205). -/
def startTransaction (s : State) : State :=
  match s.cmd.transaction with
  | some _ => s
  | none => { s with cmd := { s.cmd with transaction := some (latchedFrame s.cmd) } }

/-- A frame refused FRAME_ERROR, with the command code as received (R206). -/
def frameRefused (code : Nat) (s : State) : State := stationReply code ⟨.frameError, false, []⟩ s

/-- The bytes shifted in are taken as a command frame, by the checks of R206 in their order. -/
def takeStationFrame (bytes : List Byte) (s : State) : State :=
  if natAt bytes 0 1 ≠ 90 then s
  else
    let code := natAt bytes 1 1
    let len := natAt bytes 2 1
    if bytes.length < 3 ∨ bytes.length < len + 4 then frameRefused code s
    else if ¬ sumsToZero (bytes.take (len + 4)) then frameRefused code s
    else deliver .station code (takeCommand .station code (slice bytes 3 len) s)

/-- The end of a transaction: one byte has gone out for each byte that came in, and the frame is taken (R205, R206). -/
def endTransaction (bytes : List Byte) (s : State) : State :=
  match s.cmd.transaction with
  | none => s
  | some out =>
    takeStationFrame bytes
      (send (.station ((out ++ List.replicate bytes.length 0).take bytes.length))
        { s with cmd := { s.cmd with transaction := none } })

/-! ### Chain frames (R215) -/

/-- A DISCOVER frame. -/
def discoverBytes (n : Nat) (renumber : Bool) : List Byte := withCrc (u8 1 ++ u8 n ++ flagByte renumber)

/-- A pass answer. -/
def passAnswer : List Byte := withCrc (u8 4 ++ u8 0 ++ u8 0)

/-- A number answer. -/
def numberAnswer (n : Nat) : List Byte := withCrc (u8 4 ++ u8 1 ++ u8 n)

/-- An upstream frame with its break mark and its slots, deepest first. -/
def upstreamBytes (broken : Bool) (slots : List (List Byte)) : List Byte :=
  withCrc (u8 3 ++ flagByte broken ++ u8 slots.length ++ slots.flatten)

/-- A DISCOVER frame that passes its checks (R190, R215). -/
def discoverValid (f : List Byte) : Bool :=
  decide (f.length = 5) && crcGood f && decide (natAt f 0 1 = 1) &&
    (decide (natAt f 2 1 = 0 ∧ 1 ≤ natAt f 1 1 ∧ natAt f 1 1 ≤ 15) || decide (natAt f 2 1 = 1 ∧ natAt f 1 1 ≤ 15))

/-- A CYCLE frame that passes its checks (R190, R215). -/
def cycleValid (f : List Byte) : Bool :=
  decide (130 ≤ f.length) && decide (f.length = 130 + natAt f 127 1) && crcGood f && decide (natAt f 0 1 = 2)

/-- An answer frame that is not discarded (R215). -/
def answerValid (f : List Byte) : Bool :=
  decide (f.length = 5) && crcGood f && decide (natAt f 0 1 = 4) &&
    (decide (natAt f 1 1 = 0) || decide (natAt f 1 1 = 1 ∧ 1 ≤ natAt f 2 1 ∧ natAt f 2 1 ≤ 15))

/-- `n` report slots fill some bytes exactly (R215). -/
def slotsFill : Nat → List Byte → Bool
  | 0, bs => bs.isEmpty
  | n + 1, bs => decide (30 ≤ bs.length) && decide (30 + natAt bs 28 2 ≤ bs.length) && slotsFill n (bs.drop (30 + natAt bs 28 2))

/-- The slots of an upstream frame, between its slot count and its check. -/
def slotBytesOf (f : List Byte) : List Byte := slice f 3 (f.length - 5)

/-- An upstream frame that is not discarded (R215). -/
def upstreamValid (f : List Byte) : Bool :=
  decide (5 ≤ f.length) && crcGood f && decide (natAt f 0 1 = 3) && decide (1 ≤ natAt f 2 1 ∧ natAt f 2 1 ≤ 15) &&
    slotsFill (natAt f 2 1) (slotBytesOf f)

/-! ### Asserted lines (R196) and chain states (R194) -/

/-- The chain interface changed. -/
def modChain (g : Chain → Chain) (s : State) : State := { s with chain := g s.chain }

/-- The asserted set of R196. -/
def assertedLines (c : Chain) : Byte :=
  match c.state with
  | .unlinked => 0
  | .discovered => if c.live then c.frameLines.getD 0 else 0
  | .stale => 0xFF

/-- The asserted lines formed again, and each port's interlock condition handed to its sequencer (R45, R196), in ascending port
number (DESIGN CHOICE, log entry 33). -/
def reformLines (s : State) : State :=
  let before := s.chain.asserted
  let after := assertedLines s.chain
  forPorts (fun p t => handInterlock (interlocked s.ports[p] before) (interlocked s.ports[p] after) p t)
    (modChain (fun c => { c with asserted := after }) s)

/-- Entry into STALE (R194). -/
def enterStale (s : State) : State :=
  reformLines (changeBudget .fallback s.alloc.fallback (modChain (fun c => { c with state := .stale }) s))

/-! ### Error counting (R190) -/

/-- A discarded frame (R190, R194). -/
def discardFrame (s : State) : State :=
  let t := modChain (fun c => { c with errors := min 255 (c.errors + 1), validRun := 0 }) s
  if t.chain.state = .discovered ∧ 8 ≤ t.chain.errors then enterStale t else t

/-- The count of a valid frame (R190). -/
def countValid (c : Chain) : Chain :=
  if c.validRun + 1 = 16 then { c with errors := c.errors - 1, validRun := 0 } else { c with validRun := c.validRun + 1 }

/-! ### Numbering (R191 to R193) -/

/-- The first numbering after power-on reset (R191, R194). DESIGN CHOICE (log entry 40): the link error count that is held against 8 is
the one after the DISCOVER frame's own step of R190. -/
def firstNumbering (s : State) : State :=
  if s.chain.state ≠ .unlinked then s
  else
    let t := modChain (fun c => { c with silence := some 0 }) s
    if t.chain.errors < 8 then reformLines (modChain (fun c => { c with state := .discovered }) t) else enterStale t

/-- A cabinet takes a number: number answer, downstream side, LAST mark (R191, R193). -/
def takeNumber (n : Nat) (s : State) : State :=
  firstNumbering (send (.upstream (numberAnswer n))
    (modChain (fun c => { c with number := some n, downstream := true, last := true }) s))

/-- A valid DISCOVER frame with the renumber flag clear (R191). -/
def takeDiscover (f : List Byte) (s : State) : State :=
  match s.chain.number with
  | none => takeNumber (natAt f 1 1) s
  | some _ =>
    modChain (fun c => { c with answerWatch := some 0 })
      (send (.upstream passAnswer) (send (.downstream f) s))

/-- A valid DISCOVER frame with the renumber flag set (R193). -/
def takeRenumber (f : List Byte) (s : State) : State :=
  let n := natAt f 1 1
  if 1 ≤ n then send (.downstream (discoverBytes 0 true)) (takeNumber n s)
  else
    match s.chain.number with
    | none => s
    | some _ =>
      modChain (fun c => { c with number := none, downstream := false, last := false, answerWatch := none })
        (send (.downstream (discoverBytes 0 true)) s)

/-! ### Reports (R199 to R201) -/

/-- The net measured power (R200). -/
def netPower (s : State) : Int :=
  (s.ports.toList.map fun q => ((latestSample q).voltage : Int) * (latestSample q).current).sum.tdiv 1000000

/-- The response part of a report slot: presence, tag, reply (R199). -/
def responseBytes (c : Chain) : List Byte :=
  match c.responsePending, c.lastTag, c.lastResponse with
  | true, some tag, some r =>
    u8 1 ++ [tag] ++ u8 (replyCodeCode r.code) ++ marksByte r ++ u16 r.data.length ++ r.data
  | _, _, _ => List.replicate 6 0

/-- The report slot (R200). -/
def reportSlot (s : State) : List Byte :=
  u8 (s.chain.number.getD 0) ++ u16 (s.chain.superframe.getD 0) ++ u8 (chainStateCode s.chain.state) ++ u8 s.chain.errors
    ++ u8 (sourceCode s.alloc.source) ++ i32 (netGrant s) ++ i32 (netPower s)
    ++ (s.ports.toList.map fun q => u8 (portStateCode q.run.state)).flatten
    ++ [(hallSummary s).1, (hallSummary s).2] ++ responseBytes s.chain

/-- A slot goes up in a new upstream frame with a break mark (R201). -/
def sendBroken (slot : List Byte) (s : State) : State :=
  send (.upstream (upstreamBytes true [slot]))
    (modChain (fun c => { c with uplink := none, breaks := min 65535 (c.breaks + 1) }) s)

/-- The report slot is formed and goes up at once, or waits for the list from below (R199, R201). -/
def report (s : State) : State :=
  let slot := reportSlot s
  let t := modChain (fun c => { c with responsePending := false }) s
  if s.chain.last then send (.upstream (upstreamBytes false [slot])) (modChain (fun c => { c with uplink := none }) t)
  else modChain (fun c => { c with uplink := some ⟨slot, 0⟩ }) t

/-- An upstream frame from below (R201). DESIGN CHOICE (log entry 41): one that comes when no slot waits, as a second one within the
5 ms of a taking whose list has gone up already, is discarded, and no break is counted. -/
def takeUpstream (f : List Byte) (s : State) : State :=
  match s.chain.uplink with
  | none => s
  | some u =>
    if s.chain.last ∨ ¬ s.chain.downstream ∨ 5 < u.elapsed ∨ ¬ upstreamValid f then s
    else if natAt f 2 1 < 15 then
      send (.upstream (withCrc (slice f 0 2 ++ u8 (natAt f 2 1 + 1) ++ slotBytesOf f ++ u.slot)))
        (modChain (fun c => { c with uplink := none }) s)
    else sendBroken u.slot s

/-- The end of the wait for the upstream frame from below, at 5 ms (R201). -/
def expireUplink (s : State) : State :=
  match s.chain.uplink with
  | some u => if u.elapsed < 5 then s else sendBroken u.slot s
  | none => s

/-! ### CYCLE frames (R195, R198) -/

/-- A cabinet's entry of a CYCLE frame (R120, R215). -/
def entryIn (f : List Byte) (number : Nat) : Budget := clampBudget (budgetAt f (3 + 8 * (number - 1)))

/-- The command slot (R198). -/
def takeSlot (f : List Byte) (number : Nat) (s : State) : State :=
  let tag := f.getD 125 0
  if natAt f 124 1 ≠ number then s
  else if s.chain.lastTag = some tag then modChain (fun c => { c with responsePending := true }) s
  else deliver (.hall tag) (natAt f 126 1) (takeCommand .hall (natAt f 126 1) (slice f 128 (natAt f 127 1)) s)

/-- Items 2 and 3 of R195: what the chain records of a CYCLE frame. -/
def recordCycle (f : List Byte) (number : Nat) (c : Chain) : Chain :=
  { c with
    silence := some 0, live := true, superframe := some (natAt f 1 2), frameLines := some (f.getD 123 0)
    entry := some (entryIn f number) }

/-- Item 4 of R195: a STALE chain without errors returns. -/
def returnChain (c : Chain) : Chain := if c.state = .stale ∧ c.errors = 0 then { c with state := .discovered } else c

/-- A valid CYCLE frame (R195). -/
def takeCycle (f : List Byte) (s : State) : State :=
  match s.chain.number with
  | none => s
  | some number =>
    let s := modChain (fun c => returnChain (recordCycle f number c)) (send (.downstream f) s)
    let s := if s.chain.state = .discovered then changeBudget .hallLive (entryIn f number) s else s
    takeSlot f number (report (reformLines s))

/-! ### Reception -/

/-- A frame that the upstream side receives: counted, then taken by its type, or discarded (R190, R215). -/
def receiveChain (f : List Byte) (s : State) : State :=
  if discoverValid f then
    let t := modChain countValid s
    if natAt f 2 1 = 0 then takeDiscover f t else takeRenumber f t
  else if cycleValid f then takeCycle f (modChain countValid s)
  else discardFrame s

/-- The silence timer at 100 ms takes a DISCOVERED chain to STALE (R194). DESIGN CHOICE (log entry 35): the timer that stops there
holds 100 ms, and is not the item's value Stopped. -/
def expireSilence (s : State) : State :=
  if s.chain.state = .discovered ∧ 100 ≤ s.chain.silence.getD 0 then enterStale s else s

/-- An answer frame on the downstream side (R191, R192, R215). -/
def takeAnswer (f : List Byte) (s : State) : State :=
  if ¬ s.chain.downstream ∨ ¬ answerValid f then s
  else
    let t := modChain (fun c => { c with last := false, answerWatch := none }) s
    if natAt f 1 1 = 1 then send (.upstream f) t else t

/-- The answer watch at 10 ms sets LAST (R192). -/
def expireAnswer (s : State) : State :=
  match s.chain.answerWatch with
  | some n => if n < 10 then s else modChain (fun c => { c with last := true, answerWatch := none }) s
  | none => s

/-! ### The rows of the table that fall on the links -/

/-- TRANSACTION_START (R205). -/
def execTransactionStart (s : State) : Host.Outcome State Fault Refusal := .next (startTransaction s)

/-- TRANSACTION_END (R206). -/
def execTransactionEnd (shiftedIn : List Byte) (s : State) : Host.Outcome State Fault Refusal :=
  .next (endTransaction shiftedIn s)

/-- DISCOVER (R191): the reception of the frame, by its bytes. -/
def execDiscover (frame : List Byte) (s : State) : Host.Outcome State Fault Refusal := .next (receiveChain frame s)

/-- RENUMBER (R193): the reception of the frame, by its bytes. -/
def execRenumber (frame : List Byte) (s : State) : Host.Outcome State Fault Refusal := .next (receiveChain frame s)

/-- CYCLE_FRAME (R195): the reception of the frame, by its bytes. -/
def execCycleFrame (frame : List Byte) (s : State) : Host.Outcome State Fault Refusal := .next (receiveChain frame s)

/-- CHAIN_FRAME_DISCARD (R190): the reception of the frame, by its bytes. -/
def execChainFrameDiscard (frame : List Byte) (s : State) : Host.Outcome State Fault Refusal := .next (receiveChain frame s)

/-- SILENCE_TIMEOUT (R194). -/
def execSilenceTimeout (s : State) : Host.Outcome State Fault Refusal := .next (expireSilence s)

/-- ANSWER_FRAME (R192). -/
def execAnswerFrame (frame : List Byte) (s : State) : Host.Outcome State Fault Refusal := .next (takeAnswer frame s)

/-- ANSWER_WATCH_EXPIRY (R192). -/
def execAnswerWatchExpiry (s : State) : Host.Outcome State Fault Refusal := .next (expireAnswer s)

/-- UPSTREAM_FRAME (R201). -/
def execUpstreamFrame (frame : List Byte) (s : State) : Host.Outcome State Fault Refusal := .next (takeUpstream frame s)

/-- UPSTREAM_WAIT_EXPIRY (R201). -/
def execUpstreamWaitExpiry (s : State) : Host.Outcome State Fault Refusal := .next (expireUplink s)

end Sys2Proof.Machine
end

