-- ==== Sys2Proof/Machine/Operands.lean ====
section
/-! DEFINITION. What a sample is made of and what it is compared with: conversion (R56, R57), the quantities of end conditions
(R40), the settle detector (R63 to R68), captures (R72 to R75), current bounds and demands (R132 to R134) and trip conditions
(R171). All of it is arithmetic on values; Machine/Sample.lean applies it to the state. -/

namespace Sys2Proof.Machine

/-! ### Conversion (R55 to R57) -/

/-- `n / d` rounded half away from zero. -/
def roundDiv (n : Int) (d : Nat) : Int :=
  let q : Nat := (2 * n.natAbs + d) / (2 * d)
  if n < 0 then -(q : Int) else q

/-- A code converted with a calibration pair (R56). -/
def convert (c : Calibration) (code : Int) : Int := roundDiv ((code - c.offset) * c.gain) 32768

/-- The three codes of a good reply: ten bytes that sum to 0 modulo 256 (R55). -/
def replyCodes (reply : List Byte) : Option (Int × Int × Int) :=
  if reply.length = 10 ∧ sumsToZero reply then some (intAt reply 0 3, intAt reply 3 3, intAt reply 6 3) else none

/-- A value brought within a range (R57). -/
def saturate (lo hi v : Int) : Int := max lo (min hi v)

/-- The sample that three codes give: converted, marked reversed below −1,000 mV, saturated (R56, R57). -/
def convertSample (i : Intake) (codes : Int × Int × Int) : Sample :=
  let v := convert i.voltageCal codes.1
  { voltage := (saturate 0 1000000 v).toNat
    current := saturate (-400000) 400000 (convert i.currentCal codes.2.1)
    temperature := saturate (-400) 1500 (convert i.temperatureCal codes.2.2)
    reversed := v < -1000 }

/-! ### Settle detector (R63 to R68) -/

/-- The window checks at counts 32 and 64 (R66). DESIGN CHOICE (log entry 29): the window emptied at 64 keeps target and band as they
stood, which status shows until the next counted sample. -/
def windowCheck (d : Settle) : Settle :=
  if d.count = 32 then { d with grade1 := !d.dirty }
  else if d.count = 64 then { d with grade2 := !d.dirty, count := 0, dirty := false }
  else d

/-- A count brought to 32 or 64 by a sample is looked at by a window check (R66). -/
def checkDue (d : Settle) : Bool := d.count = 32 || d.count = 64

/-- A counted sample with its quantity `q`, its target and the tolerance now in force, before the window checks: target motion
(R68), first sample (R65), in band (R66) or out of band (R67). -/
def countSample (q target : Int) (tol : Nat) (d : Settle) : Settle :=
  let moved := decide (d.count ≠ 0) && decide (d.band < (target - d.target).natAbs)
  let fresh := d.count = 0 || moved
  let d := if moved then { d with grade1 := false, grade2 := false } else d
  let d := if fresh then { d with count := 0, dirty := false, target := target, band := tol } else d
  if (q - target).natAbs ≤ d.band then { d with count := d.count + 1 }
  else if d.dirty then { d with count := d.count + 1, grade2 := false }
  else { d with count := 1, dirty := true, grade2 := false, target := target, band := tol }

/-- A value or the port default where it is 0 (R64, R71). -/
def orDefault (tol dflt : Nat) : Nat := if tol = 0 then dflt else tol

/-- Controlled quantity, target and tolerance of a power step at a sample (R64). `c` is the applied command in force over the
sampled millisecond. -/
def controlled (r : StepRecord) (sub : SubPhase) (d : PortDefaults) (v : Sample) (c : Int) : Option (Int × Int × Nat) :=
  match r.kind with
  | .ccCharge | .ccDischarge | .pulse => some (v.current, c, orDefault r.settleTolerance d.currentTol)
  | .cccvCharge =>
    if sub = .cv then some (v.voltage, r.cvVoltage, orDefault r.cvTolerance d.voltageTol)
    else some (v.current, c, orDefault r.settleTolerance d.currentTol)
  | .cpDischarge =>
    some ((v.voltage * v.current).tdiv 1000000, -((c.natAbs * v.voltage / 1000000 : Nat) : Int),
      orDefault r.settleTolerance d.powerTol)
  | .rest | .loop | .endRun => none

/-- A change of grade that a settle-edge setting selects (R70). -/
def edgeSelected (e : SettleEdges) (before after : Nat) : Bool :=
  match e with
  | .rise => before < after
  | .fall => after < before
  | .both => before != after
  | .off => false

/-! ### Pulse capture (R74) -/

/-- The resistance of two captures, µΩ, or none where the currents differ by less than 100 mA (R74). -/
def resistanceOf (a b : CapturePoint) : Option Int :=
  let di := a.current - b.current
  if di.natAbs < 100 then none
  else
    let n := ((a.voltage : Int) - b.voltage) * 1000000
    some (saturate (-2147483647) 2147483647 (roundDiv (if di < 0 then -n else n) di.natAbs))

/-! ### End conditions (R15, R16, R40) -/

/-- The value a condition compares, as it stands after the present sample (R40). -/
def conditionValue (q : Port) (v : Sample) : CondQuantity → Int
  | .voltage => v.voltage
  | .current => v.current.natAbs
  | .temperature => v.temperature
  | .stepTime => q.run.stepTimer
  | .stepCharge => q.acct.step.tally.chargeIn.whole + q.acct.step.tally.chargeOut.whole
  | .stepEnergy => q.acct.step.tally.energyIn.whole + q.acct.step.tally.energyOut.whole
  | .settleGrade => settleGrade q.intake.settle
  | .throttledTime => q.run.throttledTime

/-- A condition holds (R16). -/
def conditionHolds (q : Port) (v : Sample) (c : Condition) : Bool :=
  match c.relation with
  | .atOrAbove => c.threshold ≤ conditionValue q v c.quantity
  | .atOrBelow => conditionValue q v c.quantity ≤ c.threshold

/-- How a step ends at a sample in RUNNING, from the port after the sample has been counted: the first condition that holds, or
DURATION at the limit or at the end of a PULSE, or not at all (R38). -/
def stepEnd (q : Port) (v : Sample) : Option (EndReason × Action) :=
  match q.run.step with
  | none => none
  | some r =>
    match r.conditions.findIdx? (conditionHolds q v) with
    | some n => some (.condition n, (r.conditions.getD n default).action)
    | none =>
      if r.duration ≤ q.run.stepTimer then some (.duration, .next)
      else if r.kind = .pulse ∧ r.baseTime + r.pulseTime ≤ q.run.stepTimer then some (.duration, .next)
      else none

/-! ### Bounds and demands (R132, R133) -/

/-- The bound that a grant gives a command of its own direction (R132), mA. -/
def ownBound (g : Int) (v : Nat) : Nat :=
  let v' := max v 5000
  if 0 < g then g.toNat * 1000000 / v' else if g < 0 then (g.natAbs + 1) * 40 * 1000000 / (39 * v') else 0

/-- A command's direction is opposite to the sign of a grant (R132). A command of 0 mA has no direction and is opposite to none. -/
def opposed (g : Int) : Option Direction → Bool
  | some .charge => g < 0
  | some .discharge => 0 < g
  | none => false

/-- The grant bound of a command in a direction (R132), mA. -/
def grantBound (g : Int) (v : Nat) (d : Option Direction) : Nat := if opposed g d then 0 else ownBound g v

/-- The step demand outside the CV sub-phase (R133), mA. -/
def stepDemand (r : StepRecord) (sub : SubPhase) (dischargeMax v : Nat) : Nat :=
  match r.kind with
  | .ccCharge | .cccvCharge | .ccDischarge => r.current
  | .cpDischarge => min (r.power * 1000000 / max v 5000) dischargeMax
  | .pulse => if sub = .pulse then r.pulseCurrent.natAbs else r.baseCurrent.natAbs
  | .rest | .loop | .endRun => 0

/-- A magnitude with the sign of a direction. -/
def signed (d : Direction) (m : Nat) : Int :=
  match d with
  | .charge => m
  | .discharge => -(m : Int)

/-- A measured voltage is at or above the CV voltage of a CCCV_CHARGE still in its CC sub-phase (R39). -/
def cvReached (r : RunContext) (v : Nat) : Bool :=
  match r.step with
  | some x => decide (x.kind = .cccvCharge) && decide (r.subPhase = .cc) && decide (x.cvVoltage ≤ v)
  | none => false

/-- The pulse edge: a PULSE in BASE whose step timer, before it counts, equals the base time (R39, R72). -/
def edgeDue (r : RunContext) : Bool :=
  match r.step with
  | some x =>
    decide (r.state = .running) && decide (x.kind = .pulse) && decide (r.subPhase = .base) &&
      decide (r.stepTimer = x.baseTime)
  | none => false

/-- Capture B is due: RUNNING in the PULSE sub-phase with capture A in flight, at or after the B instant (R73). -/
def captureDue (q : Port) : Bool :=
  match q.run.step with
  | some x =>
    decide (q.run.state = .running) && decide (q.run.subPhase = .pulse) && q.intake.captureA.isSome &&
      decide (x.baseTime + x.captureDelay ≤ q.run.stepTimer)
  | none => false

/-! ### Trips (R170, R171) -/

/-- The six trip codes in filter order (R171). -/
def tripCodes : List FaultCode :=
  [.reversedPack, .voltageHigh, .voltageLow, .chargeCurrentHigh, .dischargeCurrentHigh, .temperatureHigh]

/-- A trip condition holds at an arrival (R171). -/
def tripHolds (e : Envelope) (v : Sample) : FaultCode → Bool
  | .reversedPack => v.reversed
  | .voltageHigh => e.vMax < v.voltage
  | .voltageLow => v.voltage < e.vMin
  | .chargeCurrentHigh => decide (0 < v.current) && decide (21 * e.charge < 20 * v.current.natAbs)
  | .dischargeCurrentHigh => decide (v.current < 0) && decide (21 * e.discharge < 20 * v.current.natAbs)
  | .temperatureHigh => e.tMax < v.temperature
  | _ => false

/-- A trip condition is checked in a port state with a pack present (R171). -/
def tripChecked (st : PortState) : FaultCode → Bool
  | .voltageLow => st = .transfer || st = .running || st = .holding
  | _ => true

/-- One filter after an arrival (R170). -/
def filterAfter (q : Port) (v : Sample) (code : FaultCode) (n : Nat) : Nat :=
  if q.ident.present && tripChecked q.run.state code && tripHolds q.prot.effective v code then min 3 (n + 1) else 0

/-- A port's six filters after an arrival (R170). -/
def filtersAfter (q : Port) (v : Sample) : Vector Nat 6 :=
  Vector.ofFn fun k : Fin 6 => filterAfter q v (tripCodes.getD k .lockout) q.prot.filters[k]

/-- The codes of the filters that rise to 3 at an arrival, in filter order (R170). -/
def firing (q : Port) (v : Sample) : List FaultCode :=
  ((List.finRange 6).filter fun k : Fin 6 => q.prot.filters[k] ≠ 3 ∧ (filtersAfter q v)[k] = 3).map
    fun k => tripCodes.getD k .lockout

end Sys2Proof.Machine
end

