-- ==== Sys2Proof/Machine/Sample.lean ====
section
/-! DEFINITION. One sample instant of a port: the intake's own work, then the three consumers (R55 to R60), and the rows of the
table that fall at a sample instant. -/

namespace Sys2Proof.Machine

/-! ### The intake's own work (R60, R65, R72 to R75) -/

/-- The settle detector's update at an arrival in RUNNING in a power step, with its edge (R65 to R70). -/
def settleUpdate (p : Fin 8) (v : Sample) (s : State) : State :=
  let q := s.ports[p]
  match q.run.step with
  | some r =>
    if q.run.state = .running then
      match controlled r q.run.subPhase q.intake.defaults v q.run.applied with
      | some (x, target, tol) =>
        let d := windowCheck (countSample x target tol q.intake.settle)
        let t := modIntake p (fun i => { i with settle := d }) s
        if edgeSelected q.intake.edges (settleGrade q.intake.settle) (settleGrade d) then raisePort .settle p t else t
      | none => s
    else s
  | none => s

/-- Capture A at the pulse edge (R72). -/
def takeCaptureA (p : Fin 8) (v : Sample) (held : Bool) (s : State) : State :=
  if edgeDue s.ports[p].run then
    modIntake p (fun i => { i with captureA := some ⟨v.voltage, v.current, held, s.ports[p].run.stepTimer⟩ }) s
  else s

/-- A capture result reaches the slot, the step, the unfolded set and the attention sets (R75). -/
def deliverCapture (p : Fin 8) (a b : CapturePoint) (s : State) : State :=
  let r := resistanceOf a b
  raisePort .capture p (modPort p (fun q => { q with
    intake := { q.intake with
      captureA := none
      slot := some ⟨q.run.program, q.run.stepIndex, q.run.runCycles, a, b, r⟩
      captureValid := true
      overwrite := q.intake.overwrite || q.intake.captureValid }
    run := { q.run with resistance := r }
    acct := { q.acct with unfolded := { q.acct.unfolded with
      lastResistance := r.orElse fun _ => q.acct.unfolded.lastResistance } } }) s)

/-- Capture B, always from an arrival (R73). -/
def takeCaptureB (p : Fin 8) (v : Sample) (s : State) : State :=
  if captureDue s.ports[p] then
    match s.ports[p].intake.captureA with
    | some a => deliverCapture p a ⟨v.voltage, v.current, false, s.ports[p].run.stepTimer⟩ s
    | none => s
  else s

/-- The intake's work on an arrival: the sample stored, the settle detector, the captures (R57, R58, R60). -/
def intakeArrival (p : Fin 8) (v : Sample) (s : State) : State :=
  let s := modIntake p (fun i => { i with latest := some v, missed := 0, strobe := .answered }) s
  takeCaptureB p v (takeCaptureA p v false (settleUpdate p v s))

/-- The sample handed on at the next missed sample (R59). -/
def nextHeld (i : Intake) : Sample := heldSample i.latest (min 65535 (i.missed + 1))

/-- The intake's work on a missed sample: the count rises and the held sample may be capture A (R59, R72). -/
def intakeMissed (p : Fin 8) (s : State) : State :=
  let v := nextHeld s.ports[p].intake
  takeCaptureA p v true (modIntake p (fun i => { i with missed := min 65535 (i.missed + 1) }) s)

/-! ### The sequencer's work (R34, R37, R38, R132 to R136) -/

/-- The bounds formed at a sample instant, kept for status. -/
def setBounds (p : Fin 8) (b : Bounds) (s : State) : State := modRun p (fun r => { r with bounds := b }) s

/-- One sample instant of a drain: the ceiling falls, and the command is held to it, the grant bound and the capacity (R34,
R135). -/
def drainSample (p : Fin 8) (v : Sample) (s : State) : State :=
  let q := s.ports[p]
  let d := q.run.slew.getD ⟨0, .charge, 0, 0⟩
  let k := d.elapsed + 1
  let ceiling := d.level * (d.time - k) / d.time
  let gb := grantBound q.alloc.grant v.voltage (some d.direction)
  let capacity := phaseCapacity p s
  command p (signed d.direction (min ceiling (min gb capacity)))
    (setBounds p ⟨gb, 0, 0, capacity⟩
      (modRun p (fun r => { r with slew := some { d with elapsed := k }, throttled := false }) s))

/-- The last sample instant of a drain or ramp in flight (R34, R37). -/
def slewDue (r : RunContext) : Bool :=
  match r.slew with
  | some d => d.time ≤ d.elapsed + 1
  | none => true

/-- The applied bound of R134: the clamped setpoint, the grant bound, the capacity and, in RAMPING, the ramp ceiling. -/
def appliedBound (setpoint gb capacity : Nat) (ceiling : Option Nat) : Nat :=
  let b := min setpoint (min gb capacity)
  match ceiling with
  | some c => min b c
  | none => b

/-- The change of a CCCV_CHARGE to CV (R39, R134): the integrator takes the command in force, bounded; the request changes and a
round runs; the settle detector restarts. -/
def enterCv (p : Fin 8) (r : StepRecord) (v : Sample) (ceiling : Option Nat) (s : State) : State :=
  let q := s.ports[p]
  let start := min q.run.applied.natAbs r.current
  let gb := grantBound q.alloc.grant v.voltage (some .charge)
  let s := modRun p (fun x => { x with
    subPhase := .cv
    cvIntegrator := min start (appliedBound r.current gb (phaseCapacity p s) ceiling)
    bounds := { x.bounds with cvDemand := start } }) s
  restartSettle p (setBasis p (some ⟨q.run.stepIndex, r, .cv⟩) s)

/-- The CV demand and integrator at a later sample in the CV sub-phase (R134). -/
def updateCv (p : Fin 8) (r : StepRecord) (v : Sample) (ceiling : Option Nat) (s : State) : State :=
  let q := s.ports[p]
  let gain : Int := q.intake.defaults.cvGain
  let d := (q.run.cvIntegrator : Int) + (((r.cvVoltage : Int) - v.voltage) * gain).tdiv 256
  let demand := (saturate 0 r.current d).toNat
  let gb := grantBound q.alloc.grant v.voltage (some .charge)
  modRun p (fun x => { x with
    cvIntegrator := min demand (appliedBound r.current gb (phaseCapacity p s) ceiling)
    bounds := { x.bounds with cvDemand := demand } }) s

/-- The sub-phase tests at a sample instant in RAMPING or RUNNING (R39): into CV, on in CV, or the pulse edge. -/
def subPhaseTests (p : Fin 8) (r : StepRecord) (v : Sample) (ceiling : Option Nat) (s : State) : State :=
  if cvReached s.ports[p].run v.voltage then enterCv p r v ceiling s
  else if r.kind = .cccvCharge ∧ s.ports[p].run.subPhase = .cv then updateCv p r v ceiling s
  else if edgeDue s.ports[p].run then restartSettle p (modRun p (fun x => { x with subPhase := .pulse }) s)
  else s

/-- The applied command in RAMPING or RUNNING after the sub-phase tests (R133, R135), with the throttled mark of R136. -/
def applyStep (p : Fin 8) (r : StepRecord) (v : Sample) (ceiling : Option Nat) (s : State) : State :=
  let q := s.ports[p]
  let inCv := r.kind = .cccvCharge ∧ q.run.subPhase = .cv
  let d := stepDirection q.run
  let gb := grantBound q.alloc.grant v.voltage d
  let capacity := phaseCapacity p s
  let demand := if inCv then q.run.bounds.cvDemand else stepDemand r q.run.subPhase q.prot.effective.discharge v.voltage
  let wanted := if inCv then q.run.cvIntegrator else demand
  let bound := min gb capacity
  let m := match ceiling with
    | some c => min wanted (min bound c)
    | none => min wanted bound
  let throttled := decide (q.run.state = .running) && decide (bound < demand)
  command p (signed (d.getD .charge) m)
    (modRun p (fun x => { x with
      throttled := throttled
      bounds := ⟨gb, demand, if inCv then q.run.bounds.cvDemand else 0, capacity⟩ }) s)

/-- The target magnitude of a ramp at a sample (R37). -/
def rampTarget (q : Port) (r : StepRecord) (v : Sample) : Nat :=
  stepDemand r q.run.subPhase q.prot.effective.discharge v.voltage

/-- One sample instant of RAMPING (R37): RUNNING is entered at the last. -/
def rampSample (p : Fin 8) (v : Sample) (s : State) : State :=
  let q := s.ports[p]
  let r := q.run.step.getD default
  let d := q.run.slew.getD ⟨0, .charge, 0, 0⟩
  let k := d.elapsed + 1
  let ceiling := rampTarget q r v * k / d.time
  let s := applyStep p r v (some ceiling) (subPhaseTests p r v (some ceiling) s)
  modRun p (fun x =>
    if d.time ≤ k then { x with state := .running, slew := none } else { x with slew := some { d with elapsed := k } }) s

/-- The counting of one sample instant in RUNNING (R38, items 1 to 3). -/
def runningCount (p : Fin 8) (v : Sample) (s : State) : State :=
  let r := s.ports[p].run.step.getD default
  let s := applyStep p r v none (subPhaseTests p r v none s)
  modRun p (fun x => { x with
    stepTimer := x.stepTimer + 1
    throttledTime := if x.throttled then x.throttledTime + 1 else x.throttledTime }) s

/-- One sample instant of RUNNING (R38). -/
def runningSample (p : Fin 8) (v : Sample) (s : State) : State :=
  let s := runningCount p v s
  match stepEnd s.ports[p] v with
  | some (reason, action) => endStep p reason action s
  | none => s

/-- The step demand at a sample instant that commands no current: that of the current step in ACQUIRING and HELD, 0 where no step
is current (R133). No CV demand is formed there (R134), so a step in CV demands 0 (log entry 12). -/
def waitingDemand (q : Port) (v : Sample) : Nat :=
  match q.run.step with
  | some r =>
    if hasStep q.run.state = false ∨ (r.kind = .cccvCharge ∧ q.run.subPhase = .cv) then 0
    else stepDemand r q.run.subPhase q.prot.effective.discharge v.voltage
  | none => 0

/-- A sample instant in a state that commands no current (R133, R135). -/
def idleSample (p : Fin 8) (v : Sample) (s : State) : State :=
  command p 0 (setBounds p ⟨0, waitingDemand s.ports[p] v, 0, phaseCapacity p s⟩
    (modRun p (fun r => { r with throttled := false }) s))

/-- The sequencer's work at a sample instant, by the port's state (R34 to R40, R44, R47). -/
def sequencerSample (p : Fin 8) (v : Sample) (s : State) : State :=
  let r := s.ports[p].run
  match r.state with
  | .transfer =>
    match r.stage with
    | .draining =>
      let t := drainSample p v s
      if slewDue r then completeDrain p t else t
    | .acquiring => idleSample p v s
    | .ramping => rampSample p v s
  | .running => runningSample p v s
  | .holding =>
    let t := drainSample p v s
    if slewDue r then enterHeld p t else t
  | .ending =>
    let t := drainSample p v s
    if slewDue r then completeEnding p t else t
  | .held | .vacant | .identifying | .unidentified | .ready | .faulted => idleSample p v s

/-! ### Accounting and protection -/

/-- The accounting unit's work on a sample (R80). -/
def accountSample (p : Fin 8) (v : Sample) (s : State) : State := modPort p (account v) s

/-- The protection unit's work on an arrival: the filters, then the fault of each that fires, in order (R170). -/
def protectArrival (p : Fin 8) (v : Sample) (s : State) : State :=
  let q := s.ports[p]
  (firing q v).foldl (fun t code => faultPort p code t) (modProt p (fun x => { x with filters := filtersAfter q v }) s)

/-- MEASUREMENT_LOST is raised at a missed sample (R59), from the missed count after it. -/
def lostRaised (st : PortState) (missed : Nat) : Bool :=
  decide (st ≠ .vacant) && (decide (missed = 3) || (decide (4 ≤ missed) && decide (st ≠ .faulted)))

/-- The fault of a missed sample: MEASUREMENT_LOST from the third on (R59). The trip filters stay as they stand (R170). -/
def protectMissed (p : Fin 8) (s : State) : State :=
  if lostRaised s.ports[p].run.state s.ports[p].intake.missed then faultPort p .measurementLost s else s

/-! ### The instant -/

/-- One consumer's work on a sample; `arrival` is none at a missed sample. -/
def consume (p : Fin 8) (arrived : Bool) (v : Sample) (s : State) : Config.Consumer → State
  | .accounting => accountSample p v s
  | .sequencer => sequencerSample p v s
  | .protection => if arrived then protectArrival p v s else protectMissed p s

/-- The consumers in an order; in RUNNING the accounting comes before the sequencer, whose end conditions read the sample's
contributions (R40, R84). -/
def consumers (running : Bool) : Config.ConsumerOrder → List Config.Consumer
  | .accountingSequencerProtection => [.accounting, .sequencer, .protection]
  | .accountingProtectionSequencer => [.accounting, .protection, .sequencer]
  | .protectionAccountingSequencer => [.protection, .accounting, .sequencer]
  | .sequencerAccountingProtection =>
    if running then [.accounting, .sequencer, .protection] else [.sequencer, .accounting, .protection]
  | .sequencerProtectionAccounting =>
    if running then [.accounting, .sequencer, .protection] else [.sequencer, .protection, .accounting]
  | .protectionSequencerAccounting =>
    if running then [.protection, .accounting, .sequencer] else [.protection, .sequencer, .accounting]

/-- The three consumers take one sample in a given order (R42, R60, R84). -/
def consumeIn (o : Config.ConsumerOrder) (p : Fin 8) (arrived : Bool) (v : Sample) (s : State) : State :=
  (consumers (s.ports[p].run.state = .running) o).foldl (consume p arrived v) s

/-- The three consumers take one sample in the order of the next free value (log entry 1). -/
def handOn (p : Fin 8) (arrived : Bool) (v : Sample) (s : State) : State :=
  consumeIn (Config.consumerOrder s.instants) p arrived v { s with instants := s.instants + 1 }

/-- A good reply is the sample arrival of the awaited strobe (R55, R60). -/
def arrivalInstant (p : Fin 8) (codes : Int × Int × Int) (s : State) : State :=
  let v := convertSample s.ports[p].intake codes
  handOn p true v (intakeArrival p v s)

/-- The per-sample work of a missed sample, done at the next strobe (R55, R59). -/
def missedInstant (p : Fin 8) (s : State) : State :=
  handOn p false (nextHeld s.ports[p].intake) (intakeMissed p s)

/-- A converter reply (R55): discarded where no strobe awaits one; a missed sample at the next strobe where its check fails; the
sample arrival otherwise. -/
def receiveReply (p : Fin 8) (reply : List Byte) (s : State) : State :=
  if s.ports[p].intake.strobe ≠ .awaited then s
  else
    match replyCodes reply with
    | none => modIntake p (fun i => { i with strobe := .failed }) s
    | some codes => arrivalInstant p codes s

/-- A strobe whose reply has not arrived, or failed its check, is a missed sample at the next strobe (R55). -/
def strobeMissed (q : Port) : Bool := q.intake.strobe = .awaited || q.intake.strobe = .failed

/-- The strobe of a port (R55, R59): the missed sample of the strobe before, if it is one, and a new strobe. -/
def strobe (p : Fin 8) (s : State) : State :=
  let s := if strobeMissed s.ports[p] then missedInstant p s else s
  send (.strobe p) (modIntake p (fun i => { i with strobe := .awaited }) s)

/-! ### The rows of the table that fall at a sample instant (log entry 3) -/

/-- The sample that a reading hands on, if it makes a sample instant: a good reply for an awaited strobe, or a missed sample. -/
def readingSample (q : Port) : Reading → Option Sample
  | .arrival reply =>
    if q.intake.strobe = .awaited then (replyCodes reply).map (convertSample q.intake) else none
  | .missed => if strobeMissed q then some (nextHeld q.intake) else none

/-- The instant that a reading makes. -/
def takeReading (p : Fin 8) (s : State) : Reading → State
  | .arrival reply => receiveReply p reply s
  | .missed => strobe p s

/-- A sample instant named by what comes about at it: the whole instant where that is so, and nothing where it is not, since the
named event then does not arise. -/
def namedInstant (p : Fin 8) (rd : Reading) (due : Port → Sample → Bool) (s : State) : State :=
  match readingSample s.ports[p] rd with
  | some v => if due s.ports[p] v then takeReading p s rd else s
  | none => s

/-- A window check falls at an arrival (R66). -/
def windowCheckDue (q : Port) (v : Sample) : Bool :=
  match q.run.step with
  | some r =>
    decide (q.run.state = .running) &&
      match controlled r q.run.subPhase q.intake.defaults v q.run.applied with
      | some (x, target, tol) => checkDue (countSample x target tol q.intake.settle)
      | none => false
  | none => false

/-- The step timer reaches its limit at the next instant of RUNNING (R38, items 5 and 6). -/
def timerDue (q : Port) (_ : Sample) : Bool :=
  match q.run.step with
  | some r =>
    decide (q.run.state = .running) &&
      (decide (r.duration ≤ q.run.stepTimer + 1) ||
        (decide (r.kind = .pulse) && decide (r.baseTime + r.pulseTime ≤ q.run.stepTimer + 1)))
  | none => false

/-- The drain or ramp in flight in a given state and stage ends at the next instant. -/
def slewEnds (st : PortState) (stage : Option Stage) (q : Port) (_ : Sample) : Bool :=
  decide (q.run.state = st) && (stage.isNone || decide (stage = some q.run.stage)) && slewDue q.run

end Sys2Proof.Machine
end

