-- ==== Sys2Proof/Machine/Events.lean ====
section
/-! DEFINITION. The remaining rows of the table: the sample instants (R55 to R60 and what falls at them), the part's lines and
watches, and power-on reset. An event whose cause is not there (a line that does not change, a timer that has not reached its
end, a reading at which the named thing does not come about) has no effect (log entries 3 and 5). -/

namespace Sys2Proof.Machine

/-! ### Reset -/

/-- POWER_ON_RESET (R204). -/
def execPowerOnReset (lines : InputLines) (s : State) : Host.Outcome State Fault Refusal := .next (powerOn lines s)

/-! ### Sample instants -/

/-- SAMPLE_ARRIVAL (R55, R60). -/
def execSampleArrival (p : Fin 8) (reply : List Byte) (s : State) : Host.Outcome State Fault Refusal :=
  .next (receiveReply p reply s)

/-- SAMPLE_STROBE (R55, R59). -/
def execSampleStrobe (p : Fin 8) (s : State) : Host.Outcome State Fault Refusal := .next (strobe p s)

/-- LATE_SAMPLE_REPLY: a reply to a strobe that another has followed is discarded, its bytes unread (R55). -/
def execLateSampleReply (_p : Fin 8) (_reply : List Byte) (s : State) : Host.Outcome State Fault Refusal := .next s

/-- MEASUREMENT_LOST (R59): the strobe at which a third or later missed sample raises it. -/
def execMeasurementLost (p : Fin 8) (s : State) : Host.Outcome State Fault Refusal :=
  .next (namedInstant p .missed (fun q _ => lostRaised q.run.state (min 65535 (q.intake.missed + 1))) s)

/-- SETTLE_WINDOW_CHECK (R66): the arrival that brings the window count to 32 or 64. -/
def execSettleWindowCheck (p : Fin 8) (reply : List Byte) (s : State) : Host.Outcome State Fault Refusal :=
  .next (namedInstant p (.arrival reply) windowCheckDue s)

/-- PULSE_EDGE (R72). -/
def execPulseEdge (p : Fin 8) (reading : Reading) (s : State) : Host.Outcome State Fault Refusal :=
  .next (namedInstant p reading (fun q _ => edgeDue q.run) s)

/-- CAPTURE_B (R73 to R75). -/
def execCaptureB (p : Fin 8) (reply : List Byte) (s : State) : Host.Outcome State Fault Refusal :=
  .next (namedInstant p (.arrival reply) (fun q _ => captureDue q) s)

/-- DURATION_END (R38). -/
def execDurationEnd (p : Fin 8) (reading : Reading) (s : State) : Host.Outcome State Fault Refusal :=
  .next (namedInstant p reading timerDue s)

/-- DRAIN_COMPLETE (R35). -/
def execDrainComplete (p : Fin 8) (reading : Reading) (s : State) : Host.Outcome State Fault Refusal :=
  .next (namedInstant p reading (slewEnds .transfer (some .draining)) s)

/-- RAMP_COMPLETE (R37). -/
def execRampComplete (p : Fin 8) (reading : Reading) (s : State) : Host.Outcome State Fault Refusal :=
  .next (namedInstant p reading (slewEnds .transfer (some .ramping)) s)

/-- HOLD_DRAIN_COMPLETE (R44). -/
def execHoldDrainComplete (p : Fin 8) (reading : Reading) (s : State) : Host.Outcome State Fault Refusal :=
  .next (namedInstant p reading (slewEnds .holding none) s)

/-- ENDING_COMPLETE (R47). -/
def execEndingComplete (p : Fin 8) (reading : Reading) (s : State) : Host.Outcome State Fault Refusal :=
  .next (namedInstant p reading (slewEnds .ending none) s)

/-- TRIP (R170): the arrival at which a filter fires. -/
def execTrip (p : Fin 8) (reply : List Byte) (s : State) : Host.Outcome State Fault Refusal :=
  .next (namedInstant p (.arrival reply) (fun q v => firing q v ≠ []) s)

/-! ### Lines, watches and ticks -/

/-- THERMAL_SWITCH (R172). -/
def execThermalSwitch (p : Fin 8) (s : State) : Host.Outcome State Fault Refusal := .next (openThermal p s)

/-- THERMAL_SWITCH_CLOSE (R172). -/
def execThermalSwitchClose (p : Fin 8) (s : State) : Host.Outcome State Fault Refusal := .next (closeThermal p s)

/-- ALLOCATION_TICK (R126). -/
def execAllocationTick (s : State) : Host.Outcome State Fault Refusal := .next (tickRequests s)

/-- PRESENCE_CLOSE (R94). -/
def execPresenceClose (p : Fin 8) (s : State) : Host.Outcome State Fault Refusal := .next (closePresence p s)

/-- PRESENCE_OPEN (R95). -/
def execPresenceOpen (p : Fin 8) (s : State) : Host.Outcome State Fault Refusal := .next (openPresence p s)

/-- ID_REPLY (R96). -/
def execIdReply (p : Fin 8) (source : IdSource) (reply : List Byte) (s : State) : Host.Outcome State Fault Refusal :=
  .next (receiveId p source reply s)

/-- ID_ATTEMPT_EXPIRY (R96). -/
def execIdAttemptExpiry (p : Fin 8) (s : State) : Host.Outcome State Fault Refusal := .next (expireAttempt p s)

/-- DOOR_OPEN (R176). -/
def execDoorOpen (s : State) : Host.Outcome State Fault Refusal := .next (openDoor s)

/-- DOOR_CLOSE (R176). -/
def execDoorClose (s : State) : Host.Outcome State Fault Refusal := .next (closeDoor s)

/-- PHASE_FAULT (R158): the rise of the line, or the fall that lets SET_PHASE_SERVICE pass (log entry 8). -/
def execPhaseFault (f : Fin 16) (high : Bool) (s : State) : Host.Outcome State Fault Refusal :=
  .next (if high then riseFault f s else fallFault f s)

/-- ACTIVE_LINE_FALL (R160). -/
def execActiveLineFall (f : Fin 16) (s : State) : Host.Outcome State Fault Refusal := .next (fallActive f s)

/-- ACK_WATCH_EXPIRY (R160). -/
def execAckWatchExpiry (f : Fin 16) (s : State) : Host.Outcome State Fault Refusal := .next (expireWatch f s)

/-- ACTIVE_LINE_RISE (R160). -/
def execActiveLineRise (f : Fin 16) (s : State) : Host.Outcome State Fault Refusal := .next (riseActive f s)

/-- FEEDBACK_CLOSE (R177, R179). -/
def execFeedbackClose (s : State) : Host.Outcome State Fault Refusal := .next (closeFeedback s)

/-- FEEDBACK_OPEN (R178, R179, R182). -/
def execFeedbackOpen (s : State) : Host.Outcome State Fault Refusal := .next (openFeedback s)

/-- CLOSING_WATCH_EXPIRY (R177). -/
def execClosingWatchExpiry (s : State) : Host.Outcome State Fault Refusal := .next (expireClosing s)

/-- OPENING_WATCH_EXPIRY (R178). -/
def execOpeningWatchExpiry (s : State) : Host.Outcome State Fault Refusal := .next (expireOpening s)

/-- COOLDOWN_EXPIRY (R182). -/
def execCooldownExpiry (s : State) : Host.Outcome State Fault Refusal := .next (endCooldown s)

end Sys2Proof.Machine
end

