-- ==== Sys2Proof/Machine/Dispatch.lean ====
section
/-! DEFINITION. The dispatch: one arm per row of spec/opcode_table.json, one direct call of its meaning. -/

namespace Sys2Proof.Machine

/-- A command's or an event's effect on everything but the queue. -/
def exec (i : Instr) (s : State) : Host.Outcome State Fault Refusal :=
  match i with
  | .openProgram iss number steps => Sys2Proof.Machine.execOpenProgram iss number steps s
  | .writeStep iss number index record => Sys2Proof.Machine.execWriteStep iss number index record s
  | .closeProgram iss number => Sys2Proof.Machine.execCloseProgram iss number s
  | .deleteProgram iss number => Sys2Proof.Machine.execDeleteProgram iss number s
  | .readStep iss number index => Sys2Proof.Machine.execReadStep iss number index s
  | .claimPort iss port => Sys2Proof.Machine.execClaimPort iss port s
  | .releasePort iss port => Sys2Proof.Machine.execReleasePort iss port s
  | .takePort iss port => Sys2Proof.Machine.execTakePort iss port s
  | .startRun iss port program start => Sys2Proof.Machine.execStartRun iss port program start s
  | .holdPort iss port => Sys2Proof.Machine.execHoldPort iss port s
  | .resumePort iss port => Sys2Proof.Machine.execResumePort iss port s
  | .abortRun iss port => Sys2Proof.Machine.execAbortRun iss port s
  | .clearFault iss port => Sys2Proof.Machine.execClearFault iss port s
  | .retryIdentify iss port => Sys2Proof.Machine.execRetryIdentify iss port s
  | .setEnvelope iss port envelope => Sys2Proof.Machine.execSetEnvelope iss port envelope s
  | .setReservedPhases iss port count => Sys2Proof.Machine.execSetReservedPhases iss port count s
  | .setInterlockMask iss port lines => Sys2Proof.Machine.execSetInterlockMask iss port lines s
  | .setCalibration iss port channel offset gain => Sys2Proof.Machine.execSetCalibration iss port channel offset gain s
  | .setSettleEdges iss port setting => Sys2Proof.Machine.execSetSettleEdges iss port setting s
  | .setPortDefaults iss port defaults => Sys2Proof.Machine.execSetPortDefaults iss port defaults s
  | .readPortStatus iss port => Sys2Proof.Machine.execReadPortStatus iss port s
  | .readResult iss port => Sys2Proof.Machine.execReadResult iss port s
  | .peekResult iss port => Sys2Proof.Machine.execPeekResult iss port s
  | .readCapture iss port => Sys2Proof.Machine.execReadCapture iss port s
  | .readHistory iss selector => Sys2Proof.Machine.execReadHistory iss selector s
  | .pinEntry iss selector => Sys2Proof.Machine.execPinEntry iss selector s
  | .unpinEntry iss selector => Sys2Proof.Machine.execUnpinEntry iss selector s
  | .importEntry iss record => Sys2Proof.Machine.execImportEntry iss record s
  | .deleteEntry iss selector => Sys2Proof.Machine.execDeleteEntry iss selector s
  | .readEviction iss => Sys2Proof.Machine.execReadEviction iss s
  | .setLimits iss limits => Sys2Proof.Machine.execSetLimits iss limits s
  | .lockLimits iss => Sys2Proof.Machine.execLockLimits iss s
  | .setFallbackBudget iss budget => Sys2Proof.Machine.execSetFallbackBudget iss budget s
  | .setStandaloneBudget iss budget => Sys2Proof.Machine.execSetStandaloneBudget iss budget s
  | .setRampTime iss time => Sys2Proof.Machine.execSetRampTime iss time s
  | .setLockoutPolicy iss policy => Sys2Proof.Machine.execSetLockoutPolicy iss policy s
  | .closeContactor iss => Sys2Proof.Machine.execCloseContactor iss s
  | .openContactor iss => Sys2Proof.Machine.execOpenContactor iss s
  | .clearLockout iss => Sys2Proof.Machine.execClearLockout iss s
  | .readCabinetStatus iss => Sys2Proof.Machine.execReadCabinetStatus iss s
  | .readFaultLog iss => Sys2Proof.Machine.execReadFaultLog iss s
  | .clearFaultLog iss => Sys2Proof.Machine.execClearFaultLog iss s
  | .setPhaseService iss phase => Sys2Proof.Machine.execSetPhaseService iss phase s
  | .readAttention iss => Sys2Proof.Machine.execReadAttention iss s
  | .clearAttention iss flags => Sys2Proof.Machine.execClearAttention iss flags s
  | .setAttentionMask iss mask => Sys2Proof.Machine.execSetAttentionMask iss mask s
  | .transactionStart => Sys2Proof.Machine.execTransactionStart s
  | .transactionEnd shiftedIn => Sys2Proof.Machine.execTransactionEnd shiftedIn s
  | .powerOnReset lines => Sys2Proof.Machine.execPowerOnReset lines s
  | .sampleArrival p reply => Sys2Proof.Machine.execSampleArrival p reply s
  | .sampleStrobe p => Sys2Proof.Machine.execSampleStrobe p s
  | .lateSampleReply p reply => Sys2Proof.Machine.execLateSampleReply p reply s
  | .measurementLost p => Sys2Proof.Machine.execMeasurementLost p s
  | .settleWindowCheck p reply => Sys2Proof.Machine.execSettleWindowCheck p reply s
  | .pulseEdge p reading => Sys2Proof.Machine.execPulseEdge p reading s
  | .captureB p reply => Sys2Proof.Machine.execCaptureB p reply s
  | .durationEnd p reading => Sys2Proof.Machine.execDurationEnd p reading s
  | .drainComplete p reading => Sys2Proof.Machine.execDrainComplete p reading s
  | .rampComplete p reading => Sys2Proof.Machine.execRampComplete p reading s
  | .holdDrainComplete p reading => Sys2Proof.Machine.execHoldDrainComplete p reading s
  | .endingComplete p reading => Sys2Proof.Machine.execEndingComplete p reading s
  | .trip p reply => Sys2Proof.Machine.execTrip p reply s
  | .thermalSwitch p => Sys2Proof.Machine.execThermalSwitch p s
  | .allocationTick => Sys2Proof.Machine.execAllocationTick s
  | .presenceClose p => Sys2Proof.Machine.execPresenceClose p s
  | .presenceOpen p => Sys2Proof.Machine.execPresenceOpen p s
  | .idReply p source reply => Sys2Proof.Machine.execIdReply p source reply s
  | .idAttemptExpiry p => Sys2Proof.Machine.execIdAttemptExpiry p s
  | .doorOpen => Sys2Proof.Machine.execDoorOpen s
  | .doorClose => Sys2Proof.Machine.execDoorClose s
  | .phaseFault f high => Sys2Proof.Machine.execPhaseFault f high s
  | .activeLineFall f => Sys2Proof.Machine.execActiveLineFall f s
  | .ackWatchExpiry f => Sys2Proof.Machine.execAckWatchExpiry f s
  | .activeLineRise f => Sys2Proof.Machine.execActiveLineRise f s
  | .feedbackClose => Sys2Proof.Machine.execFeedbackClose s
  | .feedbackOpen => Sys2Proof.Machine.execFeedbackOpen s
  | .closingWatchExpiry => Sys2Proof.Machine.execClosingWatchExpiry s
  | .openingWatchExpiry => Sys2Proof.Machine.execOpeningWatchExpiry s
  | .cooldownExpiry => Sys2Proof.Machine.execCooldownExpiry s
  | .discover frame => Sys2Proof.Machine.execDiscover frame s
  | .renumber frame => Sys2Proof.Machine.execRenumber frame s
  | .cycleFrame frame => Sys2Proof.Machine.execCycleFrame frame s
  | .chainFrameDiscard frame => Sys2Proof.Machine.execChainFrameDiscard frame s
  | .silenceTimeout => Sys2Proof.Machine.execSilenceTimeout s
  | .answerFrame frame => Sys2Proof.Machine.execAnswerFrame frame s
  | .answerWatchExpiry => Sys2Proof.Machine.execAnswerWatchExpiry s
  | .upstreamFrame frame => Sys2Proof.Machine.execUpstreamFrame frame s
  | .upstreamWaitExpiry => Sys2Proof.Machine.execUpstreamWaitExpiry s
  | .thermalSwitchClose p => Sys2Proof.Machine.execThermalSwitchClose p s

end Sys2Proof.Machine
end

