-- ==== Sys2Proof/Machine/Ticks.lean ====
section
/-! DEFINITION. One millisecond of the part's own time: the cabinet time (R164), the cooldown (R182) and the elapsed times of
everything in flight (R93, R141, R177, R178, R189, R201). What a time causes at its end is a row of the table. -/

namespace Sys2Proof.Machine

/-- An elapsed time one ms on, held at its end. -/
def elapse (limit : Nat) (t : Option Nat) : Option Nat := t.map fun n => min limit (n + 1)

/-- The cabinet's own times one ms on (R164). -/
def tickProtection (x : Protection) : Protection :=
  { x with
    time := (x.time + 1) % 18446744073709551616
    closingWatch := elapse 200 x.closingWatch
    openingWatch := elapse 200 x.openingWatch
    closingExpired := false
    cabinet := match x.cabinet with
      | .cooldown r => .cooldown (r - 1)
      | .normal => .normal
      | .waiting b => .waiting b }

/-- The chain's times one ms on (R189, R201). A wait for the list from below is told late beyond 5 ms. -/
def tickChain (c : Chain) : Chain :=
  { c with
    answerWatch := elapse 10 c.answerWatch
    silence := elapse 100 c.silence
    uplink := c.uplink.map fun u => { u with elapsed := min 6 (u.elapsed + 1) } }

/-- A port's ID attempt one ms on (R93). -/
def tickIdent (i : Ident) : Ident :=
  { i with attempt := i.attempt.map fun a => { a with elapsed := min 50 (a.elapsed + 1) } }

/-- One millisecond with nothing to take (log entry 4). -/
def tick (s : State) : State :=
  { s with
    ports := s.ports.map fun q => { q with ident := tickIdent q.ident }
    pool := { s.pool with phases := s.pool.phases.map fun ph => { ph with watch := elapse 2 ph.watch } }
    prot := tickProtection s.prot
    chain := tickChain s.chain }

end Sys2Proof.Machine
end

