-- ==== Sys2Proof/Safety.lean ====
section
/-! DEFINITION. What a safe state and a safe step are, in the terms the statements use: the bounds of the queues, the grants
within the budget, the envelopes as formed from the limits, the use counts, and what one port's events leave alone. -/

namespace Sys2Proof.Machine

/-- A step that neither faults nor is refused. -/
def Safe (s : State) : Prop := ∃ t, step s = .next t

/-! ### Flags -/

/-- A flag of a port stands in both attention sets. -/
def flagged (p : Fin 8) (f : PortFlag) (s : State) : Prop :=
  hasPortFlag s.cmd.stationSet p f = true ∧ hasPortFlag s.cmd.hallSet p f = true

/-- A cabinet flag stands in both attention sets. -/
def cabinetFlagged (f : CabinetFlag) (s : State) : Prop :=
  hasCabinetFlag s.cmd.stationSet f = true ∧ hasCabinetFlag s.cmd.hallSet f = true

/-! ### Invariants -/

/-- The queues hold what their rules allow: 32 results a port (R52), 16 eviction records (R103), 8 log entries (R185). -/
def QueuesBounded (s : State) : Prop :=
  (∀ p : Fin 8, s.ports[p].results.length ≤ 32) ∧ s.history.evictions.length ≤ 16 ∧ s.prot.log.length ≤ 8

/-- Every effective envelope, with its mark, is the one that the requested envelope and the cabinet limits give (R167). -/
def EnvelopesFormed (s : State) : Prop :=
  ∀ p : Fin 8, s.ports[p].prot.effective = effectiveOf s.prot.limits s.ports[p].prot.requested ∧
    s.ports[p].prot.clamped = decide (s.ports[p].prot.effective ≠ s.ports[p].prot.requested)

/-- Levels are 0 to 3 (R117); the net grant lies within the budget in force, and every grant is 0 or has the sign of its
request and no greater magnitude (R131). -/
def GrantsWithin (s : State) : Prop :=
  (∀ p : Fin 8, s.ports[p].alloc.level ≤ 3) ∧
  -(s.alloc.inForce.exp : Int) ≤ netGrant s ∧ netGrant s ≤ s.alloc.inForce.imp ∧
  ∀ p : Fin 8,
    (0 ≤ s.ports[p].alloc.grant ∧ s.ports[p].alloc.grant ≤ s.ports[p].alloc.request) ∨
      (s.ports[p].alloc.request ≤ s.ports[p].alloc.grant ∧ s.ports[p].alloc.grant ≤ 0)

/-- The ports whose run context is bound to a program (R4). -/
def boundCount (n : Fin 32) (s : State) : Nat :=
  ((List.finRange 8).filter fun p : Fin 8 => s.ports[p].run.program = some n).length

/-- The use counts are exact, only READY programs are bound, a port has a program just in the bound states (R4, R24), and what
identifies is in IDENTIFYING, in an attempt or once on the wait list (R97, R104). -/
def UseCountsExact (s : State) : Prop :=
  (∀ n : Fin 32, s.headers[n].useCount = boundCount n s) ∧
  (∀ n : Fin 32, s.headers[n].state ≠ .ready → s.headers[n].useCount = 0) ∧
  (∀ p : Fin 8, isBound s.ports[p].run.state = s.ports[p].run.program.isSome) ∧
  (∀ p : Fin 8, s.ports[p].ident.attempt.isSome → s.ports[p].run.state = .identifying ∧ p ∉ s.history.waiting) ∧
  (∀ p ∈ s.history.waiting, s.ports[p].run.state = .identifying) ∧ s.history.waiting.Nodup

/-- The pool of step slots is not overdrawn, an EMPTY header reserves none, and a READY program has passed validation (R1,
R18). -/
def StoreFormed (s : State) : Prop :=
  (s.headers.toList.map fun h => h.steps.length).sum ≤ 512 ∧
  ∀ n : Fin 32,
    (s.headers[n].state = .empty → s.headers[n].steps = []) ∧
    (s.headers[n].state = .ready → validate s.headers[n].steps = none)

/-! ### One port's events -/

/-- The port of a row that names one: the commands of a port and the events of its lines and samples. -/
def portOf : Instr → Option Nat
  | .claimPort _ p | .releasePort _ p | .takePort _ p | .startRun _ p _ _ | .holdPort _ p | .resumePort _ p | .abortRun _ p
  | .clearFault _ p | .retryIdentify _ p | .setEnvelope _ p _ | .setReservedPhases _ p _ | .setInterlockMask _ p _
  | .setCalibration _ p _ _ _ | .setSettleEdges _ p _ | .setPortDefaults _ p _ | .readPortStatus _ p | .readResult _ p
  | .peekResult _ p | .readCapture _ p => some p
  | .sampleArrival p _ | .lateSampleReply p _ | .settleWindowCheck p _ | .captureB p _ | .trip p _ => some p.val
  | .sampleStrobe p | .measurementLost p | .thermalSwitch p | .presenceClose p | .presenceOpen p | .idAttemptExpiry p
  | .thermalSwitchClose p => some p.val
  | .pulseEdge p _ | .durationEnd p _ | .drainComplete p _ | .rampComplete p _ | .holdDrainComplete p _
  | .endingComplete p _ => some p.val
  | .idReply p _ _ => some p.val
  | .openProgram .. | .writeStep .. | .closeProgram .. | .deleteProgram .. | .readStep .. | .readHistory .. | .pinEntry ..
  | .unpinEntry .. | .importEntry .. | .deleteEntry .. | .readEviction .. | .setLimits .. | .lockLimits ..
  | .setFallbackBudget .. | .setStandaloneBudget .. | .setRampTime .. | .setLockoutPolicy .. | .closeContactor ..
  | .openContactor .. | .clearLockout .. | .readCabinetStatus .. | .readFaultLog .. | .clearFaultLog .. | .setPhaseService ..
  | .readAttention .. | .clearAttention .. | .setAttentionMask .. | .transactionStart | .transactionEnd .. | .powerOnReset ..
  | .allocationTick | .doorOpen | .doorClose | .phaseFault .. | .activeLineFall .. | .ackWatchExpiry .. | .activeLineRise ..
  | .feedbackClose | .feedbackOpen | .closingWatchExpiry | .openingWatchExpiry | .cooldownExpiry | .discover ..
  | .renumber .. | .cycleFrame .. | .chainFrameDiscard .. | .silenceTimeout | .answerFrame .. | .answerWatchExpiry
  | .upstreamFrame .. | .upstreamWaitExpiry => none

/-- What no event of another port changes in a port: its state, program and step, its owner, results, intake, accounts,
identification, protection and mask. Its grant and the phases it waits for may change, since budget and pool are shared. -/
def sameOwnItems (a b : Port) : Prop :=
  b.run.state = a.run.state ∧ b.run.program = a.run.program ∧ b.run.stepIndex = a.run.stepIndex ∧
  b.run.stepTimer = a.run.stepTimer ∧ b.run.causes = a.run.causes ∧ b.run.applied = a.run.applied ∧
  b.owner = a.owner ∧ b.results = a.results ∧ b.lost = a.lost ∧ b.intake = a.intake ∧ b.acct = a.acct ∧ b.ident = a.ident ∧
  b.prot = a.prot ∧ b.mask = a.mask ∧ b.phases.reserved = a.phases.reserved

/-- The port-changing commands of R28 but RETRY_IDENTIFY, with the port each names. -/
def ownedPort : Command → Option Nat
  | .startRun p _ _ | .holdPort p | .resumePort p | .abortRun p | .clearFault p | .setEnvelope p _ | .setReservedPhases p _
  | .setInterlockMask p _ | .setCalibration p _ _ _ | .setSettleEdges p _ | .setPortDefaults p _ | .readResult p => some p
  | .openProgram .. | .writeStep .. | .closeProgram .. | .deleteProgram .. | .readStep .. | .claimPort .. | .releasePort ..
  | .takePort .. | .retryIdentify .. | .readPortStatus .. | .peekResult .. | .readCapture .. | .readHistory .. | .pinEntry ..
  | .unpinEntry .. | .importEntry .. | .deleteEntry .. | .readEviction | .setLimits .. | .lockLimits | .setFallbackBudget ..
  | .setStandaloneBudget .. | .setRampTime .. | .setLockoutPolicy .. | .closeContactor | .openContactor | .clearLockout
  | .readCabinetStatus | .readFaultLog | .clearFaultLog | .setPhaseService .. | .readAttention | .clearAttention ..
  | .setAttentionMask .. => none

/-- A reading at which no fault of its own reaches the port: no filter fires and MEASUREMENT_LOST is not raised. -/
def faultless (q : Port) (rd : Reading) (v : Sample) : Bool :=
  match rd with
  | .arrival _ => firing q v = []
  | .missed => !lostRaised q.run.state (min 65535 (q.intake.missed + 1))

/-- Is this the row that sets every block to its reset values. -/
def isPowerOn : Instr → Bool
  | .powerOnReset _ => true
  | _ => false

/-! ### The phase wait queue and step ends -/

/-- What a service leaves of a queue where a number of phases is FREE: the heads go while their shortfalls fit (R148). -/
def unserved : Nat → List (Fin 8 × Nat) → List (Fin 8 × Nat)
  | _, [] => []
  | free, (p, n) :: rest => if n ≤ free then unserved (free - n) rest else (p, n) :: rest

/-- A port's need is met: it ramps, with no need kept (R146). -/
def rampsOn (q : Port) : Prop := q.run.stage = .ramping ∧ q.phases.need = none

/-- What the entry of a port with a raw need into ACQUIRING leaves of the pool and the queue, in the three situations of R146: the
need met and the rest released; FREE phases taken; joined at the tail, and then acquiring still or served in its turn. -/
def acquired (p : Fin 8) (raw : Nat) (s t : State) : Prop :=
  let n := min raw (cap p s)
  let h := heldCount p s
  let r := s.ports[p].phases.reserved
  (n ≤ h → rampsOn t.ports[p] ∧ gang p t = (gang p s).take (max n r) ∧
    t.pool.queue = if max n r < h then unserved (freeCount s + (h - max n r)) s.pool.queue else s.pool.queue) ∧
  (h < n → s.pool.queue = [] → n - h ≤ freeCount s → rampsOn t.ports[p] ∧ heldCount p t = n ∧ t.pool.queue = [] ∧
    ∀ f, f ∈ gang p s ∨ f ∈ (freePhases s).take (n - h) → f ∈ gang p t) ∧
  (h < n → s.pool.queue ≠ [] ∨ freeCount s < n - h → flagged p .phaseWait t ∧
    t.pool.queue = unserved (freeCount s + (h - r)) (s.pool.queue ++ [(p, n - min h r)]) ∧
    (isQueued p t = true → t.ports[p].run.stage = .acquiring ∧ t.ports[p].phases.need = some ⟨raw, n⟩ ∧
      gang p t = (gang p s).take r) ∧
    (isQueued p t = false → rampsOn t.ports[p] ∧ heldCount p t = n))

/-- The row of a reading: the sample arrival of a reply, or the strobe at which a missed sample is counted. -/
def readingRow (p : Fin 8) : Reading → Instr
  | .arrival reply => .sampleArrival p reply
  | .missed => .sampleStrobe p

/-- The port that the end conditions of a step in RUNNING look at: with the sample taken in, accounted and counted (R38, R40). -/
def judged (p : Fin 8) (rd : Reading) (v : Sample) (s : State) : Port :=
  (runningCount p v (accountSample p v (match rd with
    | .arrival _ => intakeArrival p v s
    | .missed => intakeMissed p s))).ports[p]

/-- The timed step at an index of a program has been entered from an applied command (R33, R35): it is the current step with its
setpoints clamped and nothing counted yet, and it drains, waits for phases or, as a REST at no current, runs. -/
def entered (p : Fin 8) (n : Fin 32) (i : Nat) (r : StepRecord) (applied : Int) (s t : State) : Prop :=
  t.ports[p].run.program = some n ∧ t.ports[p].run.stepIndex = i ∧ t.ports[p].run.stepTimer = 0 ∧
  t.ports[p].run.throttledTime = 0 ∧
  t.ports[p].run.step = some (clampStep s.ports[p].prot.effective s.prot.limits.maxPower r) ∧
  t.ports[p].acct.step = .cleared ∧
  t.ports[p].run.state = (if isPowerStep r.kind ∨ applied ≠ 0 then .transfer else .running)

/-- The run of a port has ended as COMPLETED from an applied command (R47): draining in ENDING, or READY at once. -/
def completes (p : Fin 8) (applied : Int) (t : State) : Prop :=
  (applied ≠ 0 → t.ports[p].run.state = .ending ∧ t.ports[p].run.endingAs = .completed) ∧
  (applied = 0 → t.ports[p].run.state = .ready ∧ t.ports[p].run.outcome = .completed ∧ t.ports[p].run.program = none ∧
    flagged p .runEnd t)

/-- Where entering an index leads a run (R31, R32): from the index, the loop counters and the run cycle count, through the LOOPs
taken at once, to the index of a timed step or to the end of the run (none), with the counters and the count as they stand then. -/
inductive Leads (h : Header) : Nat → Vector Nat 16 → Nat → Option Nat → Vector Nat 16 → Nat → Prop where
  | timed {i : Nat} {w : Vector Nat 16} {m : Nat} {r : StepRecord} :
    h.steps[i]? = some (some r) → isTimed r.kind = true → Leads h i w m (some i) w m
  | endRun {i : Nat} {w : Vector Nat 16} {m : Nat} {r : StepRecord} :
    h.steps[i]? = some (some r) → r.kind = .endRun → Leads h i w m none w m
  | pastEnd {w : Vector Nat 16} {m : Nat} : Leads h h.steps.length w m none w m
  | loop {i : Nat} {w x : Vector Nat 16} {m l : Nat} {r : StepRecord} {k : Fin 16} {o : Option Nat} :
    h.steps[i]? = some (some r) → r.kind = .loop → h.loopNumbers[i]? = some (some k.val) →
    Leads h (if w[k] + 1 < r.repeatCount then r.loopTarget else i + 1)
      (w.set k (if w[k] + 1 < r.repeatCount then w[k] + 1 else 0))
      (if r.cycleMark = 1 then min top32 (m + 1) else m) o x l →
    Leads h i w m o x l

/-! ### What holds, run ends and faults do to a port's phases -/

/-- The phases that a port held have their enables down, at 0 mA, where it holds them still; a disable began an acknowledgement
watch unless one was pending or the active line read low, and a pending watch runs on (R155, R160). -/
def enablesFall (p : Fin 8) (s t : State) : Prop :=
  ∀ f ∈ gang p s,
    t.pool.phases[f].watch = (if s.pool.phases[f].enabled = true ∧ s.pool.phases[f].watch = none ∧
      s.pool.phases[f].activeHigh = true then some 0 else s.pool.phases[f].watch) ∧
    (f ∈ gang p t → t.pool.phases[f].enabled = false ∧ t.pool.phases[f].command = 0)

/-- Every phase that a port holds has its enable up or an acknowledgement watch pending; the reserved phases stay with the port,
their watches as they were, and the enable of each without a watch has risen (R155). -/
def enablesRise (p : Fin 8) (s t : State) : Prop :=
  (∀ f ∈ gang p t, t.pool.phases[f].enabled = true ∨ t.pool.phases[f].watch ≠ none) ∧
  ∀ f ∈ (gang p s).take s.ports[p].phases.reserved, f ∈ gang p t ∧ t.pool.phases[f].watch = s.pool.phases[f].watch ∧
    t.pool.phases[f].enabled = (s.pool.phases[f].enabled || s.pool.phases[f].watch.isNone)

/-- A port has released the phases beyond its reserved count, the highest-numbered, and is not in the wait queue, which is served
where the port stood at its head or released some (R147, R148, R150). -/
def releasesUnreserved (p : Fin 8) (s t : State) : Prop :=
  let r := s.ports[p].phases.reserved
  let rest := s.pool.queue.filter fun x => x.1 ≠ p
  gang p t = (gang p s).take r ∧
  t.pool.queue = (if r < heldCount p s ∨ s.pool.queue.head?.map Prod.fst = some p
    then unserved (freeCount s + (heldCount p s - r)) rest else rest) ∧
  (rest = [] → ∀ f ∈ (gang p s).drop r, t.pool.phases[f].state = .free)

/-- A bound port has taken the fault path (R49): the enables down, a record of the step with its reason where one is current, no
causes, the phases beyond the reserved count released, request 0 W, unbound, and FAULTED with that outcome. That the applied command is
0 mA from the fault on is the model's reading (log entry 31). -/
def runFaulted (p : Fin 8) (reason : EndReason) (s t : State) : Prop :=
  enablesFall p s t ∧ releasesUnreserved p s t ∧
  (hasStep s.ports[p].run.state = true → flagged p .stepEnd t ∧ ∃ x, t.ports[p].results.getLast? = some x ∧
    x.reason = reason ∧ x.program = s.ports[p].run.program ∧ x.stepIndex = s.ports[p].run.stepIndex) ∧
  (hasStep s.ports[p].run.state = false → t.ports[p].results = s.ports[p].results) ∧
  t.ports[p].run.state = .faulted ∧ t.ports[p].run.outcome = .faulted ∧ t.ports[p].run.causes = .none ∧
  t.ports[p].run.program = none ∧ t.ports[p].run.applied = 0 ∧ t.ports[p].alloc.basis = none ∧ t.ports[p].alloc.request = 0 ∧
  flagged p .fault t

/-- A port with a pack in an idle state has become FAULTED (R50): the enables down, the gang, the queue, the results and the last
outcome as they were; what identified is abandoned. That a serial read is abandoned with it is the model's reading (log entry 16). -/
def idleFaulted (p : Fin 8) (s t : State) : Prop :=
  enablesFall p s t ∧ gang p t = gang p s ∧ t.pool.queue = s.pool.queue ∧ t.ports[p].results = s.ports[p].results ∧
  t.ports[p].run.state = .faulted ∧ t.ports[p].run.outcome = s.ports[p].run.outcome ∧
  (s.ports[p].run.state = .identifying → t.ports[p].ident.attempt = none ∧ t.ports[p].ident.serialRead = none ∧
    p ∉ t.history.waiting) ∧
  flagged p .fault t

/-- A port that has a pack and was not FAULTED has become so, by the path of its state (R49, R50). -/
def hasFaulted (p : Fin 8) (reason : EndReason) (s t : State) : Prop :=
  (isBound s.ports[p].run.state = true → runFaulted p reason s t) ∧
  (isIdle s.ports[p].run.state = true → idleFaulted p s t)

/-- No drain of a port ends at its next sample instant, so its gang and run stand until a fault of that instant reaches it. -/
def keepsRun (r : RunContext) : Prop :=
  (r.state = .transfer → r.stage = .draining → slewDue r = false) ∧
  (r.state = .holding ∨ r.state = .ending → slewDue r = false)

/-! ### Folds of taken LOOPs -/

/-- The unfolded set that a marked LOOP folds where nothing else has come to it: its cycle delta alone (R32). -/
def oneCycle : UnfoldedSet := { UnfoldedSet.cleared with cycleDelta := 1 }

/-- An entry after the folds of a number of marked LOOPs taken in turn, and the fold of a run that ends at once (R32, R47, R86). -/
def afterCycles (k : Nat) (ends : Bool) (x : Entry) : Entry :=
  let y := (foldEntry oneCycle)^[k] x
  if ends then foldEntry .cleared y else y

/-! ### Interlock lines -/

/-- A port's interlock condition becomes true between two states, and it is in a state that takes causes (R45, R196). -/
def newlyHeld (p : Fin 8) (s v : State) : Bool :=
  decide (s.ports[p].mask &&& s.chain.asserted = 0 ∧ s.ports[p].mask &&& v.chain.asserted ≠ 0) && hasStep s.ports[p].run.state

/-- A port enters HELD at once by a condition that becomes true: it runs or transfers with no current (R43, R45). -/
def heldAtOnce (p : Fin 8) (s v : State) : Bool :=
  newlyHeld p s v &&
    decide ((s.ports[p].run.state = .running ∨ s.ports[p].run.state = .transfer) ∧ s.ports[p].run.applied = 0)

/-- What a change of the asserted lines hands to a port (R45, R196): a condition that becomes true adds INTERLOCK and MASTER, and a
port in RUNNING or TRANSFER drains in HOLDING or is HELD; one that becomes false removes INTERLOCK; every other item of the port is as
it was, but for its grant and, in the wait queue, the service that a release brings. -/
def linesHanded (p : Fin 8) (s v : State) : Prop :=
  let a := s.ports[p]
  let b := v.ports[p]
  let ends := a.mask &&& s.chain.asserted ≠ 0 ∧ a.mask &&& v.chain.asserted = 0
  (b.owner = a.owner ∧ b.mask = a.mask ∧ b.results = a.results ∧ b.lost = a.lost ∧ b.ident = a.ident ∧ b.prot = a.prot ∧
    b.phases.reserved = a.phases.reserved ∧ b.acct.step = a.acct.step ∧ b.acct.run = a.acct.run ∧
    b.run.program = a.run.program ∧ b.run.step = a.run.step ∧ b.run.stepIndex = a.run.stepIndex ∧
    b.run.stepTimer = a.run.stepTimer ∧ b.run.applied = a.run.applied) ∧
  (newlyHeld p s v = true → b.run.causes = { a.run.causes with interlock := true, master := true } ∧
    (a.run.state = .holding ∨ a.run.state = .held → b.run.state = a.run.state) ∧
    (a.run.state = .running ∨ a.run.state = .transfer → a.run.applied ≠ 0 → b.run.state = .holding ∧
      (isQueued p s = false → b.run.slew =
        some ⟨a.run.applied.natAbs, if a.run.applied < 0 then .discharge else .charge, 0, s.alloc.rampTime⟩))) ∧
  (heldAtOnce p s v = true → b.run.state = .held ∧ b.run.cvIntegrator = 0 ∧ b.alloc.basis = none ∧ b.alloc.request = 0 ∧
    b.acct = { a.acct with unfolded := if a.ident.bound.isSome then .cleared else a.acct.unfolded } ∧
    flagged p .hold v ∧ (s.pool.queue = [] → gang p v = (gang p s).take a.phases.reserved ∧ enablesFall p s v)) ∧
  (heldAtOnce p s v = false → b.acct = a.acct ∧ b.alloc.basis = a.alloc.basis ∧ b.alloc.request = a.alloc.request) ∧
  (newlyHeld p s v = false → b.intake = a.intake ∧ b.run.state = a.run.state ∧
    b.run.causes = (if ends then { a.run.causes with interlock := false } else a.run.causes) ∧
    (isQueued p s = false → b.run = { a.run with causes := b.run.causes }))

/-! ### Samples and rounds -/

/-- The gang of a port carries a command: each phase its share and the direction of the command, or 0 mA where it turns under
current (R153, R156). -/
def splits (p : Fin 8) (c : Int) (s t : State) : Prop :=
  gang p t = gang p s ∧ ∀ (k : Nat) (f : Fin 16), (gang p s)[k]? = some f →
    let toward : Direction := if 0 < c then .charge else .discharge
    let turned := c ≠ 0 ∧ s.pool.phases[f].direction ≠ toward
    t.pool.phases[f].direction = (if c = 0 then s.pool.phases[f].direction else toward) ∧
    t.pool.phases[f].command = if turned ∧ s.pool.phases[f].command ≠ 0 then 0 else share c.natAbs (heldCount p s) k

/-- An unfolded set with one sample added (R80, R81). -/
def received (v : Sample) (u : UnfoldedSet) : UnfoldedSet :=
  { u with tally := integrate v u.tally, maxTemp := max u.maxTemp v.temperature }

/-- The magnitudes `g` granted to asked magnitudes with their levels out of a headroom `a`, with sharing level `l` (R129): levels
above it in full, levels below it nothing, and at it a floor in proportion to the remainder with one watt more for the first asking
ports until the leftover is used up. -/
def sharedOut (mags : List (Nat × Nat)) (a l : Nat) (g : List Nat) : Prop :=
  let sum := ((mags.filter fun x => x.2 = l).map Prod.fst).sum
  let above := ((mags.filter fun x => l < x.2).map Prod.fst).sum
  let rem := a - above
  let left := rem - ((mags.filter fun x => x.2 = l).map fun x => x.1 * rem / sum).sum
  l ≤ 3 ∧ above ≤ a ∧ rem < sum ∧ g.length = mags.length ∧ g.sum = a ∧
  ∀ (k m lv : Nat), mags[k]? = some (m, lv) → g[k]? = some
    (if l < lv then m else if lv < l ∨ m = 0 then 0
     else m * rem / sum + if ((mags.take k).filter fun x => x.2 = l ∧ x.1 ≠ 0).length < left then 1 else 0)

/-! ### Where the items of the two status reads stand -/

/-- Some items stand in a reply's data at their offsets. -/
def standsAt (data : List Byte) (items : List (Nat × List Byte)) : Prop :=
  ∀ x ∈ items, slice data x.1 x.2.length = x.2

/-- The length of the data of READ_PORT_STATUS: two bytes for each loop counter in use and six for each phase of the gang go with
405 bytes that every port has. -/
def portStatusLength (p : Fin 8) (s : State) : Nat := 405 + 2 * (countersInUse s.ports[p].run).length + 6 * heldCount p s

/-- The items of the run in READ_PORT_STATUS (R54). -/
def runItems (q : Port) : List (Nat × List Byte) :=
  let r := q.run
  let n := (countersInUse r).length
  [(0, u8 (portStateCode r.state)), (1, u8 (stageCode r.stage)),
    (2, u8 ((if r.causes.master then 1 else 0) + (if r.causes.interlock then 2 else 0) + (if r.causes.door then 4 else 0))),
    (3, u8 (ownerCode q.owner)), (4, u8 (((shownProgram r).map Fin.val).getD 255)), (5, u8 r.stepIndex),
    (6, u8 ((r.step.map fun x => kindCode x.kind).getD 255)), (7, u8 (subPhaseCode r.subPhase)),
    (8, u32 r.stepTimer), (12, u32 r.throttledTime), (16, u32 r.runCycles),
    (20, u8 n), (21, ((countersInUse r).map u16).flatten),
    (21 + 2 * n, u8 q.results.length), (22 + 2 * n, u16 q.lost), (24 + 2 * n, u8 (outcomeCode r.outcome)),
    (25 + 2 * n, flagByte r.slew.isSome), (26 + 2 * n, u16 ((r.slew.map Slew.elapsed).getD 0))]

/-- The items of the intake in READ_PORT_STATUS (R62), counted from their first byte; without an arrival its values are 0. -/
def intakeItems (i : Intake) : List (Nat × List Byte) :=
  let v := i.latest.getD ⟨0, 0, 0, false⟩
  [(0, flagByte i.latest.isSome), (1, u32 v.voltage), (5, i32 v.current), (9, i32 v.temperature), (13, flagByte v.reversed),
    (14, flagByte (0 < i.missed)), (15, u16 i.missed),
    (17, i32 i.voltageCal.offset), (21, u32 i.voltageCal.gain), (25, i32 i.currentCal.offset), (29, u32 i.currentCal.gain),
    (33, i32 i.temperatureCal.offset), (37, u32 i.temperatureCal.gain),
    (41, u8 (settleGrade i.settle)), (42, u8 i.settle.count), (43, flagByte i.settle.dirty), (44, u16 i.settle.band),
    (46, flagByte i.captureValid), (47, flagByte i.overwrite)]

/-- The five quantities of a set, whole count and residue of each. -/
def tallyItems (k : Nat) (x : Tally) : List (Nat × List Byte) :=
  [(k, u32 x.chargeIn.whole), (k + 4, u32 x.chargeIn.residue), (k + 8, u32 x.chargeOut.whole), (k + 12, u32 x.chargeOut.residue),
    (k + 16, u32 x.energyIn.whole), (k + 20, u64 x.energyIn.residue), (k + 28, u32 x.energyOut.whole),
    (k + 32, u64 x.energyOut.residue), (k + 40, u32 x.time.whole), (k + 44, u16 x.time.residue), (k + 46, flagByte x.saturated)]

/-- The items of the accounts in READ_PORT_STATUS (R90), counted from their first byte. -/
def accountItems (a : Accounts) (bound : Bool) : List (Nat × List Byte) :=
  tallyItems 0 a.step.tally ++ [(47, i32 a.step.maxTemp)] ++ tallyItems 51 a.run ++ tallyItems 98 a.unfolded.tally ++
    [(145, i32 a.unfolded.maxTemp), (149, u8 a.unfolded.cycleDelta), (150, u8 a.unfolded.faultDelta),
      (151, flagByte a.unfolded.lastResistance.isSome), (152, i32 (a.unfolded.lastResistance.getD 0)), (156, flagByte bound)]

/-- The items of the identification in READ_PORT_STATUS (R114), counted from their first byte. -/
def identItems (p : Fin 8) (s : State) : List (Nat × List Byte) :=
  let i := s.ports[p].ident
  [(0, flagByte i.present), (1, u8 ((i.attempt.map Attempt.number).getD 255)), (2, u8 (idFailureCode i.lastFailure)),
    (12, u8 (if p ∈ s.history.waiting then s.history.waiting.idxOf p + 1 else 255)),
    (13, u8 ((i.bound.map Fin.val).getD 255)), (14, flagByte i.bound.isSome),
    (15, u64 ((i.bound.bind fun e => s.history.entries[e].map Entry.serial).getD 0))]

/-- The items of the grant table and the command in READ_PORT_STATUS (R140), counted from their first byte. -/
def grantItems (q : Port) : List (Nat × List Byte) :=
  let g := q.alloc
  let b := q.run.bounds
  [(0, flagByte g.basis.isSome), (24, i32 g.request), (28, u8 g.level), (29, flagByte g.requestClamped), (30, i32 g.grant),
    (34, u32 b.grantBound), (38, u32 b.stepDemand), (42, u32 b.cvDemand), (46, u32 q.run.cvIntegrator),
    (50, u32 b.phaseCapacity), (54, i32 q.run.applied), (58, flagByte q.run.throttled)]

/-- The items of the phases in READ_PORT_STATUS (R163), counted from their first byte. -/
def phaseItems (p : Fin 8) (s : State) : List (Nat × List Byte) :=
  let x := s.ports[p].phases
  let h := heldCount p s
  let place := s.pool.queue.findIdx? fun y => y.1 = p
  [(0, u8 x.reserved), (1, u8 h), (2, u8 h),
    (3, ((gang p s).zipIdx.map fun y => u8 y.1.val ++ u8 y.2 ++ u32 s.pool.phases[y.1].command).flatten),
    (3 + 6 * h, u8 ((x.need.map Need.raw).getD 255)), (4 + 6 * h, u8 ((x.need.map Need.need).getD 0)),
    (5 + 6 * h, u8 ((place.map fun k => k + 1).getD 255)),
    (6 + 6 * h, u8 ((place.map fun k => (s.pool.queue.getD k (0, 0)).2).getD 255))]

/-- The five values of an envelope. -/
def envelopeItems (k : Nat) (e : Envelope) : List (Nat × List Byte) :=
  [(k, u32 e.vMax), (k + 4, u32 e.vMin), (k + 8, u32 e.charge), (k + 12, u32 e.discharge), (k + 16, i32 e.tMax)]

/-- The items of protection and mask in READ_PORT_STATUS (R187, R202), counted from their first byte; the fault record, in R174's
order, is 0 throughout where there is none. -/
def protectionItems (q : Port) (asserted : Byte) : List (Nat × List Byte) :=
  let x := q.prot
  envelopeItems 0 x.requested ++ envelopeItems 20 x.effective ++
    [(40, flagByte x.clamped), (41, flagByte q.run.clamped), (42, (x.filters.toList.map u8).flatten),
      (48, flagByte (!x.thermalOpen)), (49, flagByte x.thermalLatch), (50, flagByte x.fault.isSome),
      (81, [q.mask]), (82, flagByte (q.mask &&& asserted != 0))] ++
    match x.fault with
    | none => [(51, List.replicate 30 0)]
    | some f => [(51, u8 (faultCodeCode f.code)), (52, u64 f.time), (60, u8 (portStateCode f.portState)),
        (61, flagByte f.run.isSome), (68, u32 f.voltage), (72, i32 f.current), (76, i32 f.temperature), (80, u8 f.additional)]

/-- Items counted from a later byte. -/
def shifted (k : Nat) (items : List (Nat × List Byte)) : List (Nat × List Byte) := items.map fun x => (k + x.1, x.2)

/-- The items of READ_PORT_STATUS with their offsets, chapter after chapter (R54, R62, R90, R114, R140, R163, R187, R202). -/
def portItems (p : Fin 8) (s : State) : List (Nat × List Byte) :=
  let q := s.ports[p]
  let k := 28 + 2 * (countersInUse q.run).length
  runItems q ++ shifted k (intakeItems q.intake) ++ shifted (k + 48) (accountItems q.acct q.ident.bound.isSome) ++
    shifted (k + 205) (identItems p s) ++ shifted (k + 228) (grantItems q) ++ shifted (k + 287) (phaseItems p s) ++
    shifted (k + 294 + 6 * heldCount p s) (protectionItems q s.chain.asserted)

/-- The bytes that the waiting ports and the queued ones take in the data of READ_CABINET_STATUS. -/
def cabinetLists (s : State) : Nat := s.history.waiting.length + 2 * s.pool.queue.length

/-- The items of the allocator and the history table in READ_CABINET_STATUS (R140, R114). -/
def allocatorItems (s : State) : List (Nat × List Byte) :=
  let a := s.alloc
  [(0, u8 (sourceCode a.source)), (1, u32 a.inForce.imp), (5, u32 a.inForce.exp), (9, u32 a.standalone.imp),
    (13, u32 a.standalone.exp), (17, u32 a.fallback.imp), (21, u32 a.fallback.exp), (25, u32 a.lastRound.budget.imp),
    (29, u32 a.lastRound.budget.exp), (33, u32 a.lastRound.iTot), (37, u32 a.lastRound.eTot),
    (41, match a.lastRound.outcome with
      | .unthrottled => [0, 0, 0]
      | .importThrottled l => [1, 1] ++ u8 l
      | .exportThrottled l => [2, 1] ++ u8 l),
    (44, i32 (s.ports.toList.map fun q => q.alloc.grant).sum), (48, u32 a.roundCount), (52, u32 a.rampTime),
    (56, u8 (s.history.entries.toList.filter Option.isSome).length), (57, u8 (pinnedCount s)),
    (58, u8 s.history.evictions.length), (59, u8 s.history.waiting.length), (60, (s.history.waiting.map fun p => u8 p.val).flatten)]

/-- The record of a phase in READ_CABINET_STATUS, from its first byte (R163); the enable is 1 when enabled (THE MODEL'S CHOICE, log
entry 15). -/
def phaseRecordItems (k : Nat) (ph : Phase) : List (Nat × List Byte) :=
  [(k, match ph.state with
      | .free => [0, 255]
      | .assigned p => [1] ++ u8 p.val
      | .outOfService => [2, 255]),
    (k + 2, flagByte ph.enabled), (k + 3, u8 (directionCode ph.direction)), (k + 4, u32 ph.command),
    (k + 8, flagByte ph.watch.isSome), (k + 9, u32 (ph.watch.getD 0))]

/-- The items of the phase pool in READ_CABINET_STATUS, counted from their first byte (R163). -/
def poolItems (s : State) : List (Nat × List Byte) :=
  ((List.finRange 16).map fun f : Fin 16 => phaseRecordItems (13 * f.val) s.pool.phases[f]).flatten ++
    [(208, u8 (inServiceCount s)), (209, u8 (freeCount s)), (210, u8 s.pool.queue.length),
      (211, (s.pool.queue.map fun x => u8 x.1.val ++ u8 x.2).flatten)]

/-- The items of the protection unit in READ_CABINET_STATUS, counted from their first byte (R187); the drive is 1 when on (THE MODEL'S
CHOICE, log entry 15). -/
def unitItems (x : Protection) : List (Nat × List Byte) :=
  [(0, u32 x.limits.maxVoltage), (4, u32 x.limits.maxCharge), (8, u32 x.limits.maxDischarge), (12, i32 x.limits.maxTemp),
    (16, u32 x.limits.maxPower), (20, flagByte x.locked), (21, u8 (policyCode x.policy)),
    (22, match x.cabinet with
      | .normal => [0, 0, 0, 0] ++ u32 0
      | .cooldown r => [1, 1, 0, 1] ++ u32 r
      | .waiting _ => [1, 1, 1, 0] ++ u32 0),
    (30, u8 (contactorCode x.contactor)), (31, flagByte x.drive), (32, flagByte x.feedbackClosed),
    (33, flagByte x.closingWatch.isSome), (34, u32 (x.closingWatch.getD 0)), (38, flagByte x.openingWatch.isSome),
    (39, u32 (x.openingWatch.getD 0)), (43, flagByte (!x.doorOpen)), (44, u8 x.log.length), (45, u16 x.overflow)]

/-- The items of the hall chain interface in READ_CABINET_STATUS, counted from their first byte (R202); the downstream side is 1 when
enabled (THE MODEL'S CHOICE, log entry 15). -/
def chainStatusItems (c : Chain) : List (Nat × List Byte) :=
  let b := c.entry.getD ⟨0, 0⟩
  [(0, u8 (c.number.getD 255)), (1, u8 (chainStateCode c.state)), (2, flagByte c.live), (3, flagByte c.last),
    (4, flagByte c.downstream), (5, flagByte c.answerWatch.isSome), (6, u32 (c.answerWatch.getD 0)), (10, u8 c.errors),
    (11, u8 c.validRun), (12, flagByte c.silence.isSome), (13, u32 (c.silence.getD 0)), (17, flagByte c.frameLines.isSome),
    (18, [c.frameLines.getD 0]), (19, [c.asserted]), (20, flagByte c.entry.isSome), (21, u32 b.imp), (25, u32 b.exp),
    (29, flagByte c.superframe.isSome), (30, u16 (c.superframe.getD 0)), (32, flagByte c.lastTag.isSome), (33, [c.lastTag.getD 0]),
    (34, flagByte c.responsePending), (35, u16 c.breaks)]

/-- The items of READ_CABINET_STATUS with their offsets, chapter after chapter, then the owners and the attention line (R208). -/
def cabinetItems (s : State) : List (Nat × List Byte) :=
  let k := cabinetLists s
  allocatorItems s ++ shifted (60 + s.history.waiting.length) (poolItems s) ++ shifted (271 + k) (unitItems s.prot) ++
    shifted (318 + k) (chainStatusItems s.chain) ++
    [(355 + k, (s.ports.toList.map fun q => u8 (ownerCode q.owner)).flatten), (363 + k, flagByte (attentionLine s))]

/-! ### Imported records -/

/-- A count of an imported record: its whole count and its residue, with residue 0 where the count is at its top (R111). -/
def importedCount (whole residue : Nat) : Quantity := ⟨whole, if whole = top32 then 0 else residue⟩

/-! ### What a row may change -/

/-- The rows that take a whole frame, which may carry any command, and the reset of every block. -/
def takesFrame : Instr → Bool
  | .transactionEnd _ | .discover _ | .renumber _ | .cycleFrame _ | .chainFrameDiscard _ | .powerOnReset _ => true
  | _ => false

/-- The rows that change what a program is. -/
def writesPrograms : Instr → Bool
  | .openProgram .. | .writeStep .. | .closeProgram .. | .deleteProgram .. => true
  | _ => false

/-- What a program is, apart from its use count (R1). -/
def programContent (h : Header) : HeaderState × Master × List (Option StepRecord) × List (Option Nat) :=
  (h.state, h.author, h.steps, h.loopNumbers)

/-- The rows that change a cabinet-wide item of the protection unit (R164). -/
def writesProtection : Instr → Bool
  | .setLimits .. | .lockLimits _ | .setLockoutPolicy .. | .closeContactor _ | .openContactor _ | .clearLockout _
  | .clearFaultLog _ | .doorOpen | .doorClose | .ackWatchExpiry _ | .activeLineRise _ | .feedbackClose | .feedbackOpen
  | .closingWatchExpiry | .openingWatchExpiry | .cooldownExpiry => true
  | _ => false

/-- The rows that change the budget in force, its source or a stored budget (R118 to R122). -/
def writesBudgets : Instr → Bool
  | .setFallbackBudget .. | .setStandaloneBudget .. | .silenceTimeout => true
  | _ => false

/-- The budget in force, its source and the stored budgets (R117). -/
def budgets (s : State) : BudgetSource × Budget × Budget × Budget :=
  (s.alloc.source, s.alloc.inForce, s.alloc.standalone, s.alloc.fallback)

/-- The row that changes the ramp time (R139). -/
def writesRampTime : Instr → Bool
  | .setRampTime .. => true
  | _ => false

/-- The rows that change a port's owner or one of its settings (R25 to R28). -/
def writesSettings : Instr → Bool
  | .claimPort .. | .releasePort .. | .takePort .. | .setEnvelope .. | .setReservedPhases .. | .setInterlockMask ..
  | .setCalibration .. | .setSettleEdges .. | .setPortDefaults .. => true
  | _ => false

/-- A port's owner and settings (R23, R56, R70, R71, R143, R164, R197). -/
def settings (q : Port) :
    Owner × Envelope × Nat × Byte × Calibration × Calibration × Calibration × SettleEdges × PortDefaults :=
  (q.owner, q.prot.requested, q.phases.reserved, q.mask, q.intake.voltageCal, q.intake.currentCal, q.intake.temperatureCal,
    q.intake.edges, q.intake.defaults)

/-- The row that changes an attention mask (R210). -/
def writesMasks : Instr → Bool
  | .setAttentionMask .. => true
  | _ => false

/-- The rows of the hall chain's own frames and times (R190 to R201). -/
def writesChain : Instr → Bool
  | .silenceTimeout | .answerFrame _ | .answerWatchExpiry | .upstreamFrame _ | .upstreamWaitExpiry => true
  | _ => false

/-- The chain interface without the three items that hold a reply to HALL (R189, R198). -/
def chainItems (c : Chain) : Chain := { c with lastTag := none, lastResponse := none, responsePending := false }

/-! ### Frames -/

/-- A command frame of the station port (R214). -/
def commandFrame (c : Command) : List Byte :=
  withCheck (u8 90 ++ u8 (commandCode c) ++ u8 (argumentBytes c).length ++ argumentBytes c)

end Sys2Proof.Machine
end

