-- ==== Sys2Proof/Certificates/Slice0/Obligations.lean ====
section
/-! DEFINITION. The statements for the provers. A command row's next state is written `deliver iss code (done u)` and the like:
the state `u` with the reply delivered to the issuer (R207); `done`, `answer`, `refuse` keep or take the state named in them. -/

open Sys2Proof Sys2Proof.Machine

/-! ### The step, the queue, reset -/

/-- A step takes the command at the front of the queue and runs it on the state with the rest of the queue. -/
def Obligations.StepTakesFront : Prop :=
  ∀ (s : State) (c : Instr) (rest : List Instr), s.pending = c :: rest → step s = exec c { s with pending := rest }

/-- THE MODEL'S CHOICE (log entry 4): with nothing waiting a step is one millisecond: the cabinet time rises by one (and returns
to 0 after its top), a cooldown falls by one and stays at 0, every watch, timer and attempt rises by one and is held at its end
(the wait for the list from below one past it), and no register of a run, an account, the history or the allocator changes. -/
def Obligations.EmptyQueueTicks : Prop :=
  ∀ s : State, s.pending = [] → ∃ t, step s = .next t ∧
    t.prot.time = (s.prot.time + 1) % 2 ^ 64 ∧
    (∀ r, s.prot.cabinet = .cooldown r → t.prot.cabinet = .cooldown (r - 1)) ∧
    ((∀ r, s.prot.cabinet ≠ .cooldown r) → t.prot.cabinet = s.prot.cabinet) ∧
    t.prot.closingWatch = s.prot.closingWatch.map (fun n => min 200 (n + 1)) ∧
    t.prot.openingWatch = s.prot.openingWatch.map (fun n => min 200 (n + 1)) ∧
    (∀ f : Fin 16, t.pool.phases[f].watch = s.pool.phases[f].watch.map (fun n => min 2 (n + 1))) ∧
    (∀ p : Fin 8, t.ports[p].ident.attempt = s.ports[p].ident.attempt.map (fun a => ⟨a.number, min 50 (a.elapsed + 1)⟩)) ∧
    t.chain.silence = s.chain.silence.map (fun n => min 100 (n + 1)) ∧
    t.chain.answerWatch = s.chain.answerWatch.map (fun n => min 10 (n + 1)) ∧
    t.chain.uplink = s.chain.uplink.map (fun u => ⟨u.slot, min 6 (u.elapsed + 1)⟩) ∧
    (∀ p : Fin 8, t.ports[p].run = s.ports[p].run ∧ t.ports[p].acct = s.ports[p].acct ∧ t.ports[p].alloc = s.ports[p].alloc ∧
      t.ports[p].results = s.ports[p].results) ∧
    t.headers = s.headers ∧ t.history = s.history ∧ t.alloc = s.alloc ∧ t.cmd = s.cmd ∧ t.sent = s.sent

/-- The state right after reset meets every invariant that the statements below say each step keeps. -/
def Obligations.InvariantsAtReset : Prop :=
  StoreFormed State.reset ∧ UseCountsExact State.reset ∧ GrantsWithin State.reset ∧ EnvelopesFormed State.reset ∧
    QueuesBounded State.reset

/-- What each row leaves alone, in every state: apart from the rows that take a whole frame and power-on reset, only the rows
that name an item of a block change it: the content of a program, the protection unit's items, the budgets, the ramp time, a
port's settings, the masks, the response buffer, the open transaction, the chain. No row touches the queue of waiting commands.
-/
def Obligations.BlocksKept : Prop :=
  ∀ (i : Instr) (s t : State), exec i s = .next t → t.pending = s.pending ∧
    (takesFrame i = false →
      (writesPrograms i = false → ∀ n : Fin 32, programContent t.headers[n] = programContent s.headers[n]) ∧
      (writesProtection i = false → t.prot = s.prot) ∧
      (writesBudgets i = false → budgets t = budgets s) ∧
      (writesRampTime i = false → t.alloc.rampTime = s.alloc.rampTime) ∧
      (writesSettings i = false → ∀ p : Fin 8, settings t.ports[p] = settings s.ports[p]) ∧
      (writesMasks i = false → t.cmd.stationMask = s.cmd.stationMask ∧ t.cmd.hallMask = s.cmd.hallMask) ∧
      ((i.command.map fun x => x.1.master) ≠ some .station →
        t.cmd.response = s.cmd.response ∧ t.cmd.responseNumber = s.cmd.responseNumber) ∧
      (i ≠ .transactionStart → t.cmd.transaction = s.cmd.transaction) ∧
      (writesChain i = false → chainItems t.chain = chainItems s.chain) ∧
      (writesChain i = false → (i.command.map fun x => x.1.master) ≠ some .hall → t.chain = s.chain))

/-- What power-on reset leaves with every input line quiet, and that State.reset is that state. The items of which the manual gives no
reset value are THE MODEL'S CHOICES that State.reset makes (log entries 2, 21, 22, 36, 38), and so are that the queue of waiting
commands and the counter of free values are kept and the record of what was sent starts empty (log entry 9), and the target and band 0
of an empty settle window (log entry 29). So is that no report slot waits (log entry 23). -/
def Obligations.ResetValues : Prop :=
  (∀ s : State, exec (.powerOnReset quietLines) s =
    .next { State.reset with instants := s.instants, pending := s.pending }) ∧
  (∀ n : Fin 32, State.reset.headers[n].state = .empty) ∧ freeSlots State.reset = 512 ∧
  (∀ p : Fin 8, State.reset.ports[p].run = .initial ∧ State.reset.ports[p].owner = .none ∧
    State.reset.ports[p].results = [] ∧ State.reset.ports[p].lost = 0 ∧
    State.reset.ports[p].intake.voltageCal = ⟨0, 32768⟩ ∧ State.reset.ports[p].intake.defaults = ⟨200, 20, 100, 16⟩ ∧
    State.reset.ports[p].intake.edges = .off ∧ State.reset.ports[p].acct = .cleared ∧
    State.reset.ports[p].prot.effective = ⟨1000000, 0, 320000, 320000, 1500⟩ ∧ State.reset.ports[p].mask = 0) ∧
  (∀ e : Fin 64, State.reset.history.entries[e] = none) ∧
  State.reset.alloc.source = .standalone ∧ State.reset.alloc.inForce = ⟨0, 0⟩ ∧ State.reset.alloc.rampTime = 50 ∧
  (∀ f : Fin 16, State.reset.pool.phases[f].state = .free ∧ State.reset.pool.phases[f].enabled = false) ∧
  State.reset.prot.cabinet = .normal ∧ State.reset.prot.contactor = .opened ∧ State.reset.prot.locked = false ∧
  State.reset.chain.number = none ∧ State.reset.chain.state = .unlinked ∧
  State.reset.cmd.stationSet = ⟨Vector.replicate 8 0, 0x10⟩ ∧ attentionLine State.reset = true

/-- Power-on reset with the lines at any levels: fault lines that read high leave their phases OUT_OF_SERVICE without a flag, a
feedback that reads CLOSED is a lockout, and presence detection starts an identification on every port with a pack, which a
thermal switch reading OPEN faults at once. -/
def Obligations.PowerOnLines : Prop :=
  ∀ (lines : InputLines) (s : State), ∃ t, exec (.powerOnReset lines) s = .next t ∧
    (∀ f : Fin 16, t.pool.phases[f].state = (if lines.phaseFault.getLsbD f then .outOfService else .free) ∧
      t.pool.phases[f].enabled = false) ∧
    t.prot.cabinet = (if lines.feedbackClosed then .cooldown 5000 else .normal) ∧
    t.prot.doorOpen = lines.doorOpen ∧
    hasCabinetFlag t.cmd.stationSet .phaseOutOfService = false ∧
    cabinetFlagged .powerOn t ∧ (cabinetFlagged .lockout t ↔ lines.feedbackClosed = true) ∧
    (∀ p : Fin 8, t.ports[p].run.state =
      if lines.presenceClosed.getLsbD p then (if lines.thermalOpen.getLsbD p then .faulted else .identifying) else .vacant) ∧
    ∀ p : Fin 8, t.ports[p].ident.attempt =
      if lines.presenceClosed.getLsbD p && !lines.thermalOpen.getLsbD p then some ⟨1, 0⟩ else none

/-! ### Commands on their links -/

/-- THE MODEL'S CHOICE for a row (log entry 7): a command row runs the same command that the station port and the chain run, and
delivers its reply to its issuer. A row of the hall is run whatever its tag; the test of R198 for a repeated tag is made by
CYCLE_FRAME (statement CycleTaken). -/
def Obligations.RowsRunTheirCommand : Prop :=
  ∀ (i : Instr) (iss : Issuer) (c : Command) (s : State), i.command = some (iss, c) →
    exec i s = .next (deliver iss (commandCode c) (runCommand iss.master c s))

/-- A refused command changes no state other than the items that hold its reply. -/
def Obligations.RefusedChangesNothing : Prop :=
  (∀ (m : Master) (c : Command) (s : State), (runCommand m c s).2.code ≠ .ok → (runCommand m c s).1 = s) ∧
  (∀ (i : Instr) (c : Command) (s : State), i.command = some (.station, c) → (runCommand .station c s).2.code ≠ .ok →
    exec i s = .next { s with cmd := { s.cmd with
      responseNumber := (s.cmd.responseNumber + 1) % 256
      response := some ⟨(s.cmd.responseNumber + 1) % 256, commandCode c, (runCommand .station c s).2⟩ } }) ∧
  ∀ (i : Instr) (tag : Byte) (c : Command) (s : State), i.command = some (.hall tag, c) →
    (runCommand .hall c s).2.code ≠ .ok →
    exec i s = .next { s with chain := { s.chain with
      lastTag := some tag, lastResponse := some (runCommand .hall c s).2, responsePending := true } }

/-- Every command whose arguments fit their bytes is read back from its code and its argument bytes, with every operand. -/
def Obligations.CommandBytesRoundTrip : Prop :=
  ∀ c : Command, c.wf → decodeCommand (commandCode c) (argumentBytes c) = .command c

/-- A port-changing command is refused BAD_FIELD outside ports 0 to 7, and NOT_OWNER from a master that does not own the port;
RETRY_IDENTIFY alone may come from either master on an unowned port. -/
def Obligations.OwnershipChecked : Prop :=
  (∀ (m : Master) (c : Command) (port : Nat) (s : State), ownedPort c = some port → 8 ≤ port →
    runCommand m c s = refuse .badField s) ∧
  (∀ (m : Master) (c : Command) (p : Fin 8) (s : State), ownedPort c = some p.val → s.ports[p].owner ≠ ownerOf m →
    runCommand m c s = refuse .notOwner s) ∧
  (∀ (m : Master) (port : Nat) (s : State), 8 ≤ port → runCommand m (.retryIdentify port) s = refuse .badField s) ∧
  ∀ (m : Master) (p : Fin 8) (s : State), s.ports[p].owner ≠ ownerOf m → s.ports[p].owner ≠ .none →
    runCommand m (.retryIdentify p.val) s = refuse .notOwner s

/-- A transaction latches the response frame at its start, sends it out byte for byte, and runs the command frame that it
carried in, whatever follows the frame's check byte. A frame that is short or fails its check is answered FRAME_ERROR with the
code as received (0 where the frame ended before it), a code that names no command UNKNOWN, and a length that the code does not
call for FRAME_ERROR. -/
def Obligations.StationTransaction : Prop :=
  (∀ s : State, s.cmd.transaction = none →
    exec .transactionStart s = .next { s with cmd := { s.cmd with transaction := some (latchedFrame s.cmd) } }) ∧
  (∀ (s : State) (out bytes : List Byte), s.cmd.transaction = some out → (∀ b, bytes.head? = some b → b ≠ 90) →
    exec (.transactionEnd bytes) s = .next { s with
      cmd := { s.cmd with transaction := none }
      sent := s.sent ++ [.station ((out ++ List.replicate bytes.length 0).take bytes.length)] }) ∧
  (∀ (s : State) (out tail : List Byte) (c : Command), s.cmd.transaction = some out → c.wf →
    exec (.transactionEnd (commandFrame c ++ tail)) s =
      .next (deliver .station (commandCode c) (runCommand .station c { s with
        cmd := { s.cmd with transaction := none }
        sent := s.sent ++ [.station ((out ++ List.replicate (commandFrame c ++ tail).length 0).take
          (commandFrame c ++ tail).length)] }))) ∧
  (∀ (s : State) (out bytes : List Byte), s.cmd.transaction = some out → bytes.head? = some 90 →
    bytes.length < 3 ∨ bytes.length < natAt bytes 2 1 + 4 ∨ sumsToZero (bytes.take (natAt bytes 2 1 + 4)) = false →
    exec (.transactionEnd bytes) s = .next (deliver .station (natAt bytes 1 1) (refuse .frameError { s with
      cmd := { s.cmd with transaction := none }
      sent := s.sent ++ [.station ((out ++ List.replicate bytes.length 0).take bytes.length)] }))) ∧
  ∀ (s : State) (out args tail bytes : List Byte) (code : Nat), s.cmd.transaction = some out → code < 256 →
    args.length < 256 → bytes = withCheck (u8 90 ++ u8 code ++ u8 args.length ++ args) ++ tail →
    (code = 0 ∨ 47 ≤ code →
      exec (.transactionEnd bytes) s = .next (deliver .station code (refuse .unknown { s with
        cmd := { s.cmd with transaction := none }
        sent := s.sent ++ [.station ((out ++ List.replicate bytes.length 0).take bytes.length)] }))) ∧
    (decodeCommand code args = .wrongLength →
      exec (.transactionEnd bytes) s = .next (deliver .station code (refuse .frameError { s with
        cmd := { s.cmd with transaction := none }
        sent := s.sent ++ [.station ((out ++ List.replicate bytes.length 0).take bytes.length)] })))

/-! ### Programs -/

/-- OPEN_PROGRAM on an EMPTY header with the slots free: BUILDING, by its issuer, every slot unwritten; the free count falls by
the step count and the reply carries it. WRITE_STEP of a well-formed record by the author of a BUILDING program: the record
stands at its index, every other slot and header as before, and the written count rises by one for a slot that was unwritten. -/
def Obligations.ProgramBuilt : Prop :=
  (∀ (iss : Issuer) (n : Fin 32) (k : Nat) (s : State), StoreFormed s → s.headers[n].state = .empty → 1 ≤ k → k ≤ 64 →
    k ≤ freeSlots s →
    ∃ u, exec (.openProgram iss n.val k) s = .next (deliver iss 1 (answer (u16 (freeSlots s - k)) u)) ∧
      u = modHeader n (fun _ => ⟨.building, iss.master, List.replicate k none, 0, []⟩) s ∧
      freeSlots u + k = freeSlots s ∧ writtenCount u.headers[n] = 0) ∧
  (∀ (iss : Issuer) (n : Fin 32) (i : Nat) (record : List Byte) (r : StepRecord) (s : State),
    s.headers[n].state = .building → s.headers[n].author = iss.master → i < s.headers[n].steps.length →
    parseStep record = some r →
    ∃ u, exec (.writeStep iss n.val i record) s = .next (deliver iss 2 (done u)) ∧
      u = modHeader n (fun h => { h with steps := h.steps.set i (some r) }) s ∧
      recordAt n i u = some r ∧ (∀ j, j ≠ i → recordAt n j u = recordAt n j s) ∧
      writtenCount u.headers[n] = writtenCount s.headers[n] + (if recordAt n i s = none then 1 else 0))

/-- CLOSE_PROGRAM by the author of a BUILDING program: READY with the LOOP counter numbers and the number of LOOP steps where
every step passes, and nothing but the reply BAD_FIELD with the first failing step where one fails. A step list that passes
validation: every index written, every GOTO within it, every LOOP back to a timed step below it, and at most 16 LOOP steps. The close
gives each LOOP the number of the LOOPs below it, so their counter numbers run 0 upward in index order and lie below 16, and gives
every other step none. The order and form of the items in the reply to a failed close are THE MODEL'S CHOICE (log entry 14). -/
def Obligations.CloseProgramJudges : Prop :=
  (∀ (iss : Issuer) (n : Fin 32) (s : State), s.headers[n].state = .building → s.headers[n].author = iss.master →
    (validate s.headers[n].steps = none →
      exec (.closeProgram iss n.val) s = .next (deliver iss 3 (answer (u8 (loopCount s.headers[n].steps))
        (modHeader n (fun h => { h with state := .ready, loopNumbers := assignLoops h.steps }) s)))) ∧
    (∀ i f, validate s.headers[n].steps = some (i, f) →
      exec (.closeProgram iss n.val) s = .next (deliver iss 3 (refuseWith .badField (closeFailureBytes i f) s)) ∧
        i < s.headers[n].steps.length ∧ checkStep s.headers[n].steps i = some f ∧
        ∀ j < i, checkStep s.headers[n].steps j = none)) ∧
  (∀ steps : List (Option StepRecord), validate steps = none →
    (∀ i < steps.length, ∃ r, steps[i]? = some (some r) ∧
      (∀ c ∈ r.conditions, ∀ t, c.action = .goto t → t < steps.length) ∧
      (r.kind = .loop → 1 ≤ r.repeatCount ∧ r.loopTarget < i ∧
        ∃ x, steps[r.loopTarget]? = some (some x) ∧ isTimed x.kind = true) ∧
      (r.kind = .pulse → 1 ≤ r.captureDelay ∧ r.captureDelay ≤ r.pulseTime)) ∧
    loopCount steps ≤ 16 ∧ (assignLoops steps).length = steps.length ∧
    loopsBefore steps 0 = 0 ∧ loopsBefore steps steps.length = loopCount steps ∧
    ∀ i r, steps[i]? = some (some r) →
      (r.kind = .loop → (assignLoops steps)[i]? = some (some (loopsBefore steps i)) ∧ loopsBefore steps i < 16 ∧
        loopsBefore steps (i + 1) = loopsBefore steps i + 1) ∧
      (r.kind ≠ .loop → (assignLoops steps)[i]? = some none ∧ loopsBefore steps (i + 1) = loopsBefore steps i))

/-- Between two timed steps a port takes a bounded chain of instant steps, whatever its loop counters hold: with a program that
has passed validation, more fuel than 64 changes nothing, so the fuel of 64 that the model follows the chain with (log entry 6)
never runs out. -/
def Obligations.InstantChainBounded : Prop :=
  ∀ (s : State) (p : Fin 8) (n : Fin 32) (i extra : Nat), s.ports[p].run.program = some n →
    validate s.headers[n].steps = none → enterIndex p (64 + extra) i s = enterIndex p 64 i s

/-- DELETE_PROGRAM (R20), its checks in their order: a number outside 0 to 31 is refused BAD_FIELD, an EMPTY header BAD_STATE, a
STATION issuer that is not the author NOT_OWNER, a use count above 0 IN_USE. Otherwise, for the author and for HALL, the header is
EMPTY, its slots are free again, and the reply carries the free count. -/
def Obligations.DeleteProgramFrees : Prop :=
  (∀ (iss : Issuer) (number : Nat) (s : State), 32 ≤ number →
    exec (.deleteProgram iss number) s = .next (deliver iss 4 (refuse .badField s))) ∧
  (∀ (iss : Issuer) (n : Fin 32) (s : State), s.headers[n].state = .empty →
    exec (.deleteProgram iss n.val) s = .next (deliver iss 4 (refuse .badState s))) ∧
  (∀ (n : Fin 32) (s : State), s.headers[n].state ≠ .empty → s.headers[n].author ≠ .station →
    exec (.deleteProgram .station n.val) s = .next (deliver .station 4 (refuse .notOwner s))) ∧
  ∀ (iss : Issuer) (n : Fin 32) (s : State), StoreFormed s → s.headers[n].state ≠ .empty →
    (iss.master = .hall ∨ s.headers[n].author = .station) →
    (s.headers[n].useCount = 0 → ∃ u,
      exec (.deleteProgram iss n.val) s =
        .next (deliver iss 4 (answer (u16 (freeSlots s + s.headers[n].steps.length)) u)) ∧
      u = modHeader n (fun _ => .empty) s ∧ freeSlots u = freeSlots s + s.headers[n].steps.length) ∧
    (0 < s.headers[n].useCount → exec (.deleteProgram iss n.val) s = .next (deliver iss 4 (refuse .inUse s)))

/-- The store keeps its form at every step: the pool is never overdrawn, EMPTY headers reserve nothing, and READY programs stay
as validation passed them. -/
def Obligations.StoreFormedKept : Prop := ∀ s t : State, StoreFormed s → step s = .next t → StoreFormed t

/-! ### Ports: owners, settings, reads -/

/-- CLAIM_PORT, RELEASE_PORT and TAKE_PORT: who owns the port after them, who is refused, and the station's PORT_TAKEN. -/
def Obligations.OwnersChange : Prop :=
  (∀ (iss : Issuer) (port : Nat) (s : State), 8 ≤ port →
    exec (.claimPort iss port) s = .next (deliver iss 6 (refuse .badField s))) ∧
  (∀ (iss : Issuer) (p : Fin 8) (s : State), exec (.claimPort iss p.val) s = .next (deliver iss 6
    (if s.ports[p].owner = .none then done (modPort p (fun q => { q with owner := ownerOf iss.master }) s)
     else refuse .notOwner s))) ∧
  (∀ (iss : Issuer) (p : Fin 8) (s : State), exec (.releasePort iss p.val) s = .next (deliver iss 7
    (if s.ports[p].owner = ownerOf iss.master then done (modPort p (fun q => { q with owner := .none }) s)
     else refuse .notOwner s))) ∧
  (∀ (iss : Issuer) (port : Nat) (s : State), 8 ≤ port →
    exec (.releasePort iss port) s = .next (deliver iss 7 (refuse .badField s))) ∧
  (∀ (port : Nat) (s : State), exec (.takePort .station port) s = .next (deliver .station 8 (refuse .notOwner s))) ∧
  (∀ (tag : Byte) (port : Nat) (s : State), 8 ≤ port →
    exec (.takePort (.hall tag) port) s = .next (deliver (.hall tag) 8 (refuse .badField s))) ∧
  (∀ (tag : Byte) (p : Fin 8) (s : State), exec (.takePort (.hall tag) p.val) s = .next (deliver (.hall tag) 8 (done
    (modPort p (fun q => { q with owner := .hall })
      (if s.ports[p].owner = .station then raisePortTaken p s else s))))) ∧
  ∀ (p : Fin 8) (s : State), hasPortFlag (raisePortTaken p s).cmd.stationSet p .portTaken = true ∧
    (raisePortTaken p s).cmd.hallSet = s.cmd.hallSet

/-- SET_CALIBRATION, SET_SETTLE_EDGES and SET_PORT_DEFAULTS by the owner: the setting replaced and nothing else, or the refusal
that its value or the port's state gives. -/
def Obligations.PortSettingsReplaced : Prop :=
  ∀ (iss : Issuer) (p : Fin 8) (s : State), s.ports[p].owner = ownerOf iss.master →
    (∀ (channel : Nat) (offset : Int) (gain : Nat), exec (.setCalibration iss p.val channel offset gain) s = .next (deliver iss 18
      (if 2 < channel ∨ offset < -8388608 ∨ 8388607 < offset ∨ 65535 < gain then refuse .badField s
       else if hasStep s.ports[p].run.state then refuse .badState s
       else done (modIntake p (fun i =>
         if channel = 0 then { i with voltageCal := ⟨offset, gain⟩ }
         else if channel = 1 then { i with currentCal := ⟨offset, gain⟩ }
         else { i with temperatureCal := ⟨offset, gain⟩ }) s)))) ∧
    (∀ setting : Nat, exec (.setSettleEdges iss p.val setting) s = .next (deliver iss 19
      (match edgesOf setting with
       | some e => done (modIntake p (fun i => { i with edges := e }) s)
       | none => refuse .badField s)) ∧ (edgesOf setting = none ↔ 3 < setting)) ∧
    (∀ d : PortDefaults, exec (.setPortDefaults iss p.val d) s = .next (deliver iss 20
      (if 65535 < d.currentTol ∨ 65535 < d.voltageTol ∨ 65535 < d.powerTol ∨ d.cvGain < 1 ∨ 255 < d.cvGain
       then refuse .badField s else done (modIntake p (fun i => { i with defaults := d }) s))))

/-- SET_ENVELOPE by the owner: the requested envelope as given, the effective one clamped to the cabinet limits, the CLAMPED
mark where they differ; out of range, or V_min above V_max, BAD_FIELD. -/
def Obligations.EnvelopeSet : Prop :=
  ∀ (iss : Issuer) (p : Fin 8) (e : Envelope) (s : State), s.ports[p].owner = ownerOf iss.master →
    (envelopeInRange e = true → ∃ u c, exec (.setEnvelope iss p.val e) s = .next (deliver iss 15 (doneClamped c u)) ∧
      u = modProt p (fun x => { x with
        requested := e
        effective := ⟨min e.vMax s.prot.limits.maxVoltage, min e.vMin s.prot.limits.maxVoltage,
          min e.charge s.prot.limits.maxCharge, min e.discharge s.prot.limits.maxDischarge, min e.tMax s.prot.limits.maxTemp⟩
        clamped := c }) s ∧
      (c = true ↔ u.ports[p].prot.effective ≠ e) ∧
      u.ports[p].prot.effective.vMin ≤ u.ports[p].prot.effective.vMax) ∧
    (envelopeInRange e = false → exec (.setEnvelope iss p.val e) s = .next (deliver iss 15 (refuse .badField s)))

/-- The reads that change no state: each answers OK with its data in every state that does not refuse it, and leaves all of the
state but the items that hold its reply. READ_RESULT takes the oldest record, and the lost count with the last one; READ_CAPTURE
clears the two marks of the slot and keeps its content. A selector by serial reads the entry that holds the serial. The data of the
two status reads have their items at the offsets of `portItems` and `cabinetItems`, with the codes of R214. What R214 leaves open of
the bytes is THE MODEL'S CHOICE (log entry 15): the 57 zero bytes of an unmounted entry, the counter byte of a step that is no LOOP,
the codes of the levels, of the hold causes and of the attention line's byte, which items are 255 and which absent optional fields
where they are none, 1 for enabled, on and asserted (R141, R164, R189, R204), the order of the basis, the gang position as k alone,
the layout of a capture and of a log entry, and what the stage, the step index, the kind, the sub-phase and the counters show
outside their states. So are the arrival mark of a port before its first sample instant (log entry 34), the silence timer that shows
100 ms in STALE (log entry 35), the bounds and demands of an instant that forms none (log entry 12) and the band of an empty settle
window (log entry 29). -/
def Obligations.ReadsAnswer : Prop :=
  (∀ (iss : Issuer) (s : State),
    (∀ (n : Fin 32) (i : Nat), s.headers[n].state ≠ .empty → i < s.headers[n].steps.length →
      exec (.readStep iss n.val i) s = .next (deliver iss 5 (answer
        (u8 (headerStateCode s.headers[n].state) ++ u8 (masterCode s.headers[n].author) ++ u8 s.headers[n].steps.length
          ++ u8 s.headers[n].useCount ++ u8 (writtenCount s.headers[n]) ++ u16 (freeSlots s)
          ++ optional 74 ((recordAt n i s).map fun r => stepBytes r (counterByte s.headers[n] i r))) s))) ∧
    (∀ p : Fin 8, exec (.readPortStatus iss p.val) s = .next (deliver iss 21 (answer (portStatus p s) s)) ∧
      (portStatus p s).length = portStatusLength p s ∧ standsAt (portStatus p s) (portItems p s)) ∧
    (∀ (p : Fin 8) (r : ResultRecord), s.ports[p].results.head? = some r →
      exec (.peekResult iss p.val) s =
        .next (deliver iss 23 (answer (resultReply r s.ports[p].results.length s.ports[p].lost) s))) ∧
    (∀ (e : Fin 64) (x : Entry), s.history.entries[e] = some x →
      exec (.readHistory iss ⟨0, e.val⟩) s = .next (deliver iss 25 (answer
        (historyBytes x e.val 0 ++ u8 (s.history.recency.idxOf e + 1)
          ++ optional 57 (x.mounted.map fun p => unfoldedBytes p s.ports[p].acct.unfolded)) s))) ∧
    (∀ (serial : Nat) (e : Fin 64), serial ≠ 0 → entryOf serial s = some e →
      exec (.readHistory iss ⟨1, serial⟩) s = exec (.readHistory iss ⟨0, e.val⟩) s) ∧
    (exec (.readCabinetStatus iss) s = .next (deliver iss 40 (answer (cabinetStatus s) s)) ∧
      (cabinetStatus s).length = 364 + cabinetLists s ∧ standsAt (cabinetStatus s) (cabinetItems s)) ∧
    (s.prot.log ≠ [] ∨ s.prot.overflow ≠ 0 →
      exec (.readFaultLog iss) s =
        .next (deliver iss 41 (answer (counted (s.prot.log.map logBytes) ++ u16 s.prot.overflow) s))) ∧
    exec (.readAttention iss) s = .next (deliver iss 44 (answer
      (attentionBytes (attentionSet iss.master s) ++ attentionBytes (attentionMask iss.master s)
        ++ (if iss.master = .station then flagByte (attentionLine s) else [])) s))) ∧
  ((∀ (iss : Issuer) (p : Fin 8) (r : ResultRecord) (rest : List ResultRecord) (s : State),
    s.ports[p].owner = ownerOf iss.master → s.ports[p].results = r :: rest →
    exec (.readResult iss p.val) s = .next (deliver iss 22 (answer (resultReply r rest.length s.ports[p].lost)
      (modPort p (fun q => { q with results := rest, lost := if rest = [] then 0 else q.lost }) s)))) ∧
  (∀ (iss : Issuer) (p : Fin 8) (s : State), s.ports[p].owner = ownerOf iss.master → s.ports[p].results = [] →
    exec (.readResult iss p.val) s = .next (deliver iss 22 (refuse .empty s))) ∧
  (∀ (iss : Issuer) (p : Fin 8) (c : CaptureResult) (s : State), s.ports[p].intake.slot = some c →
    exec (.readCapture iss p.val) s = .next (deliver iss 24 (answer
      (captureBytes c s.ports[p].intake.captureValid s.ports[p].intake.overwrite)
      (modIntake p (fun i => { i with captureValid := false, overwrite := false }) s)))) ∧
  ∀ (iss : Issuer) (p : Fin 8) (s : State), s.ports[p].intake.slot = none →
    exec (.readCapture iss p.val) s = .next (deliver iss 24 (refuse .empty s))) ∧
  ([PortState.vacant, .identifying, .unidentified, .ready, .transfer, .running, .holding, .held, .ending, .faulted].map
      portStateCode = List.range 10 ∧
    [Stage.draining, .acquiring, .ramping].map stageCode = List.range 3 ∧
    [Owner.none, .station, .hall].map ownerCode = List.range 3 ∧
    [Kind.ccCharge, .cccvCharge, .ccDischarge, .cpDischarge, .rest, .pulse, .loop, .endRun].map kindCode = List.range 8 ∧
    [SubPhase.none, .cc, .cv, .base, .pulse].map subPhaseCode = List.range 5 ∧
    [RunOutcome.none, .completed, .aborted, .faulted].map outcomeCode = List.range 4 ∧
    [IdFailure.none, .noReply, .badCheck, .zeroSerial, .serialInUse].map idFailureCode = List.range 5 ∧
    [FaultCode.reversedPack, .voltageHigh, .voltageLow, .chargeCurrentHigh, .dischargeCurrentHigh, .temperatureHigh,
      .thermalSwitch, .measurementLost, .packRemoved, .programFault, .lockout].map faultCodeCode = List.range 11 ∧
    [BudgetSource.standalone, .hallLive, .fallback].map sourceCode = List.range 3 ∧
    [Direction.charge, .discharge].map directionCode = List.range 2 ∧
    [LockoutPolicy.hold, .restart].map policyCode = List.range 2 ∧
    [ContactorState.opened, .closing, .closed].map contactorCode = List.range 3 ∧
    [ChainState.unlinked, .discovered, .stale].map chainStateCode = List.range 3)

/-! ### Runs -/

/-- START_RUN past its checks, on a timed step: the port is bound to the program at that step, in TRANSFER (a REST at no current
runs at once), with its timers, cycle count and run set at 0, and the program's use count is one higher. A run started at an END
ends within the command: READY and COMPLETED, RUN_END set, the use count as before. In general, with a validated program, the run
goes where its start index leads by R31 and R32 (`Leads`), a LOOP there being taken at once: to a timed step, or to its end. Each
marked LOOP on the way folds its cycle into the pack's entry, the first of them with what the unfolded set holds. The entry into
TRANSFER raises the enable of every held phase on which no acknowledgement watch pends. -/
def Obligations.StartRunBinds : Prop :=
  (∀ (iss : Issuer) (p : Fin 8) (n : Fin 32) (i : Nat) (r : StepRecord) (s : State),
    s.ports[p].owner = ownerOf iss.master → s.ports[p].run.state = .ready → s.prot.cabinet = .normal →
    s.prot.doorOpen = false → s.ports[p].mask &&& s.chain.asserted = 0 → s.headers[n].state = .ready →
    i < s.headers[n].steps.length → s.prot.contactor = .closed → recordAt n i s = some r → isTimed r.kind = true →
    ∃ u, exec (.startRun iss p.val n.val i) s = .next (deliver iss 9 (done u)) ∧
      u.ports[p].run.program = some n ∧ u.ports[p].run.stepIndex = i ∧ u.ports[p].run.stepTimer = 0 ∧
      u.ports[p].run.throttledTime = 0 ∧ u.ports[p].run.runCycles = 0 ∧ u.ports[p].run.outcome = .none ∧
      u.ports[p].run.step = some (clampStep s.ports[p].prot.effective s.prot.limits.maxPower r) ∧
      u.ports[p].acct.run = .cleared ∧ u.ports[p].acct.step = .cleared ∧
      u.ports[p].run.state = (if isPowerStep r.kind ∨ s.ports[p].run.applied ≠ 0 then .transfer else .running) ∧
      u.headers[n].useCount = s.headers[n].useCount + 1 ∧ u.headers[n].steps = s.headers[n].steps ∧
      (∀ k : Fin 32, k ≠ n → u.headers[k] = s.headers[k]) ∧ enablesRise p s u ∧
      (s.ports[p].run.applied = 0 → isQueued p s = false →
        (isPowerStep r.kind = true → acquired p (rawNeed (clampStep s.ports[p].prot.effective s.prot.limits.maxPower r)
          s.ports[p].prot.effective.vMin) s u) ∧
        (isPowerStep r.kind = false → releasesUnreserved p s u))) ∧
  (∀ (iss : Issuer) (p : Fin 8) (n : Fin 32) (i : Nat) (r : StepRecord) (s : State),
    s.ports[p].owner = ownerOf iss.master → s.ports[p].run.state = .ready → s.prot.cabinet = .normal →
    s.prot.doorOpen = false → s.ports[p].mask &&& s.chain.asserted = 0 → s.headers[n].state = .ready →
    i < s.headers[n].steps.length → s.prot.contactor = .closed → recordAt n i s = some r → r.kind = .endRun →
    s.ports[p].run.applied = 0 →
    ∃ u, exec (.startRun iss p.val n.val i) s = .next (deliver iss 9 (done u)) ∧
      u.ports[p].run.state = .ready ∧ u.ports[p].run.program = none ∧ u.ports[p].run.outcome = .completed ∧
      u.ports[p].results = s.ports[p].results ∧ flagged p .runEnd u ∧ u.headers = s.headers) ∧
  ∀ (iss : Issuer) (p : Fin 8) (n : Fin 32) (i : Nat) (o : Option Nat) (c : Vector Nat 16) (m : Nat) (s : State),
    s.ports[p].owner = ownerOf iss.master → s.ports[p].run.state = .ready → s.prot.cabinet = .normal →
    s.prot.doorOpen = false → s.ports[p].mask &&& s.chain.asserted = 0 → s.headers[n].state = .ready →
    i < s.headers[n].steps.length → s.prot.contactor = .closed → validate s.headers[n].steps = none →
    Leads s.headers[n] i (Vector.replicate 16 0) 0 o c m →
    ∃ u, exec (.startRun iss p.val n.val i) s = .next (deliver iss 9 (done u)) ∧
      u.ports[p].run.counters = c ∧ u.ports[p].run.runCycles = m ∧ u.ports[p].results = s.ports[p].results ∧
      (∀ (j : Nat) (b : StepRecord), o = some j → recordAt n j s = some b →
        entered p n j b s.ports[p].run.applied s u ∧ u.ports[p].run.outcome = .none ∧ enablesRise p s u ∧
        u.headers[n].useCount = s.headers[n].useCount + 1) ∧
      (o = none → completes p s.ports[p].run.applied u ∧ (s.ports[p].run.applied = 0 → u.headers = s.headers)) ∧
      (m = 0 → o ≠ none → u.history = s.history ∧ u.ports[p].acct.unfolded = s.ports[p].acct.unfolded) ∧
      ∀ (e : Fin 64) (x : Entry), s.ports[p].ident.bound = some e → s.history.entries[e] = some x → 1 ≤ m → m < top32 →
        u.ports[p].acct.unfolded = .cleared ∧ ∃ y, u.history.entries[e] = some y ∧ y.cycles = min top32 (x.cycles + m) ∧
          y = afterCycles (m - 1) (decide (o = none ∧ s.ports[p].run.applied = 0))
            (foldEntry { s.ports[p].acct.unfolded with cycleDelta := 1 } x)

/-- HOLD_PORT by the owner: from RUNNING or TRANSFER into HOLDING with a drain from the applied command, or at once into HELD
where that is 0 mA; in HOLDING and HELD the causes alone change; elsewhere BAD_STATE. RESUME_PORT by the owner of a HELD port
with no interlock and no door in its causes, over a CLOSED link: the causes are empty, the step timer is kept, and a power step
goes back to ACQUIRING or on to RAMPING, by the three situations of R146, while a REST runs. In HOLDING the phases stay as they are;
entry into HELD takes the enables down, each watched as R160 gives, releases the phases beyond the reserved count and serves the queue;
a resume raises the enable of every held phase on which no watch pends. -/
def Obligations.HoldAndResume : Prop :=
  (∀ (iss : Issuer) (p : Fin 8) (s : State), s.ports[p].owner = ownerOf iss.master →
    (s.ports[p].run.state = .running ∨ s.ports[p].run.state = .transfer →
      ∃ u, exec (.holdPort iss p.val) s = .next (deliver iss 10 (done u)) ∧ u.ports[p].run.causes.master = true ∧
        u.ports[p].run.stepTimer = s.ports[p].run.stepTimer ∧ u.ports[p].intake.captureA = none ∧
        (s.ports[p].run.applied ≠ 0 → u.ports[p].run.state = .holding ∧ u.ports[p].run.applied = s.ports[p].run.applied ∧
          u.ports[p].run.slew = some ⟨s.ports[p].run.applied.natAbs,
            if s.ports[p].run.applied < 0 then .discharge else .charge, 0, s.alloc.rampTime⟩ ∧ u.pool = s.pool) ∧
        (s.ports[p].run.applied = 0 → u.ports[p].run.state = .held ∧ u.ports[p].run.cvIntegrator = 0 ∧
          u.ports[p].alloc.basis = none ∧ u.ports[p].alloc.request = 0 ∧ flagged p .hold u ∧
          releasesUnreserved p s u ∧ enablesFall p s u)) ∧
    (s.ports[p].run.state = .holding ∨ s.ports[p].run.state = .held →
      exec (.holdPort iss p.val) s = .next (deliver iss 10 (done (modRun p (fun r => { r with
        causes := { r.causes with master := true } }) s)))) ∧
    (hasStep s.ports[p].run.state = false → exec (.holdPort iss p.val) s = .next (deliver iss 10 (refuse .badState s)))) ∧
  (∀ (iss : Issuer) (p : Fin 8) (r : StepRecord) (s : State), s.ports[p].owner = ownerOf iss.master →
    s.ports[p].run.state = .held → s.ports[p].run.causes.interlock = false → s.ports[p].run.causes.door = false →
    s.ports[p].run.step = some r →
    (s.prot.contactor = .closed →
      ∃ u, exec (.resumePort iss p.val) s = .next (deliver iss 11 (done u)) ∧ u.ports[p].run.causes = .none ∧
        u.ports[p].run.stepTimer = s.ports[p].run.stepTimer ∧ u.ports[p].run.step = some r ∧ enablesRise p s u ∧
        (isPowerStep r.kind = true → u.ports[p].run.state = .transfer ∧ u.ports[p].run.stage ≠ .draining ∧
          u.ports[p].run.applied = 0 ∧ u.ports[p].alloc.basis = some ⟨s.ports[p].run.stepIndex, r, s.ports[p].run.subPhase⟩ ∧
          (isQueued p s = false → acquired p (rawNeed r s.ports[p].prot.effective.vMin) s u)) ∧
        (isPowerStep r.kind = false → u.ports[p].run.state = .running ∧ u.ports[p].alloc.basis = none ∧
          gang p u = gang p s ∧ u.pool.queue = s.pool.queue)) ∧
    (s.prot.contactor ≠ .closed → exec (.resumePort iss p.val) s = .next (deliver iss 11 (refuse .noDcLink s))))

/-- ABORT_RUN by the owner in a state with a current step: the step's record is queued with reason ABORTED and the port drains
in ENDING, or is READY with outcome ABORTED where it commanded no current, its enables down and the phases beyond its reserved count
released to the queue. That the record's end current after four or more missed
samples in a row is the held 0 mA is THE MODEL'S CHOICE (log entry 30). -/
def Obligations.AbortRunEnds : Prop :=
  ∀ (iss : Issuer) (p : Fin 8) (s : State), s.ports[p].owner = ownerOf iss.master → hasStep s.ports[p].run.state = true →
    ∃ u, exec (.abortRun iss p.val) s = .next (deliver iss 12 (done u)) ∧ flagged p .stepEnd u ∧
      u.ports[p].results.getLast? = some (resultRecord s.ports[p] .aborted) ∧ u.ports[p].run.causes = .none ∧
      (s.ports[p].run.applied ≠ 0 → u.ports[p].run.state = .ending ∧ u.ports[p].run.endingAs = .aborted ∧
        u.ports[p].run.program = s.ports[p].run.program ∧ gang p u = gang p s) ∧
      (s.ports[p].run.applied = 0 → u.ports[p].run.state = .ready ∧ u.ports[p].run.outcome = .aborted ∧
        u.ports[p].run.program = none ∧ flagged p .runEnd u ∧ releasesUnreserved p s u ∧ enablesFall p s u)

/-- CLEAR_FAULT by the owner of a FAULTED port, in NORMAL and without a standing thermal fault: record, latch and filters are
cleared and the port leaves FAULTED by its presence and binding; otherwise BAD_STATE. -/
def Obligations.ClearFaultClears : Prop :=
  ∀ (iss : Issuer) (p : Fin 8) (s : State), s.ports[p].owner = ownerOf iss.master →
    exec (.clearFault iss p.val) s = .next (deliver iss 13
      (if s.ports[p].run.state ≠ .faulted ∨ s.prot.cabinet ≠ .normal ∨
          (s.ports[p].prot.thermalLatch = true ∧ s.ports[p].ident.present = true ∧ s.ports[p].prot.thermalOpen = true)
       then refuse .badState s
       else done (modPort p (fun q => { q with
         prot := { q.prot with fault := none, thermalLatch := false, filters := Vector.replicate 6 0 }
         run := { q.run with state :=
           if q.ident.present = false then .vacant else if q.ident.bound = none then .unidentified else .ready } }) s)))

/-- SET_RESERVED_PHASES by the owner, its checks in their order: a count above 8 is refused BAD_FIELD, a port in TRANSFER BAD_STATE, a
raise for which too few phases are FREE NO_SPACE. Otherwise, on a port that does not wait for phases, a raise takes FREE phases at
once, and a lowering keeps every phase of a port in HOLDING, ENDING or RUNNING a power step, and releases those above the count of
any other, one that runs a REST among them. -/
def Obligations.ReservedPhasesSet : Prop :=
  ∀ (iss : Issuer) (p : Fin 8) (r : Nat) (s : State), s.ports[p].owner = ownerOf iss.master →
    (8 < r → exec (.setReservedPhases iss p.val r) s = .next (deliver iss 16 (refuse .badField s))) ∧
    (r ≤ 8 → s.ports[p].run.state = .transfer →
      exec (.setReservedPhases iss p.val r) s = .next (deliver iss 16 (refuse .badState s))) ∧
    (r ≤ 8 → s.ports[p].run.state ≠ .transfer → heldCount p s < r → freeCount s < r - heldCount p s →
      exec (.setReservedPhases iss p.val r) s = .next (deliver iss 16 (refuse .noSpace s))) ∧
    (r ≤ 8 → s.ports[p].run.state ≠ .transfer → isQueued p s = false →
      r ≤ heldCount p s ∨ r - heldCount p s ≤ freeCount s →
      ∃ u, exec (.setReservedPhases iss p.val r) s = .next (deliver iss 16 (done u)) ∧ u.ports[p].phases.reserved = r ∧
        u.ports[p].run = s.ports[p].run ∧
        (heldCount p s ≤ r → heldCount p u = r) ∧
        (r < heldCount p s → s.ports[p].run.state = .holding ∨ s.ports[p].run.state = .ending ∨
            (s.ports[p].run.state = .running ∧ s.ports[p].run.step.map StepRecord.kind ≠ some .rest) →
          gang p u = gang p s) ∧
        (r < heldCount p s → s.ports[p].run.state = .held ∨ isIdle s.ports[p].run.state = true ∨
            s.ports[p].run.state = .faulted ∨
            (s.ports[p].run.state = .running ∧ s.ports[p].run.step.map StepRecord.kind = some .rest) →
          gang p u = (gang p s).take r))

/-- SET_INTERLOCK_MASK (R197), after the checks of R28: any mask is taken with OK in every port state. A condition that becomes
true on a port in TRANSFER, RUNNING, HOLDING or HELD adds INTERLOCK and MASTER as R45 gives, a condition that becomes false removes
INTERLOCK, and elsewhere the mask alone changes. A true condition then bars START_RUN. -/
def Obligations.InterlockMaskSet : Prop :=
  (∀ (iss : Issuer) (port : Nat) (lines : Byte) (s : State), 8 ≤ port →
    exec (.setInterlockMask iss port lines) s = .next (deliver iss 17 (refuse .badField s))) ∧
  (∀ (iss : Issuer) (p : Fin 8) (lines : Byte) (s : State), s.ports[p].owner ≠ ownerOf iss.master →
    exec (.setInterlockMask iss p.val lines) s = .next (deliver iss 17 (refuse .notOwner s))) ∧
  ∀ (iss : Issuer) (p : Fin 8) (lines : Byte) (s : State), s.ports[p].owner = ownerOf iss.master →
    ∃ u, exec (.setInterlockMask iss p.val lines) s = .next (deliver iss 17 (done u)) ∧ u.ports[p].mask = lines ∧
      (lines &&& s.chain.asserted ≠ 0 → s.ports[p].mask &&& s.chain.asserted = 0 →
        hasStep s.ports[p].run.state = true → u.ports[p].run.causes.interlock = true ∧ u.ports[p].run.causes.master = true ∧
          (s.ports[p].run.state = .holding ∨ s.ports[p].run.state = .held →
            u = modPort p (fun q => { q with mask := lines, run := { q.run with
              causes := { q.run.causes with interlock := true, master := true } } }) s) ∧
          (s.ports[p].run.state = .running ∨ s.ports[p].run.state = .transfer →
            u.ports[p].run.state = (if s.ports[p].run.applied = 0 then .held else .holding))) ∧
      (lines &&& s.chain.asserted = 0 → s.ports[p].mask &&& s.chain.asserted ≠ 0 →
        u = modPort p (fun q => { q with mask := lines, run := { q.run with
          causes := { q.run.causes with interlock := false } } }) s) ∧
      ((lines &&& s.chain.asserted = 0 ↔ s.ports[p].mask &&& s.chain.asserted = 0) ∨
        (lines &&& s.chain.asserted ≠ 0 ∧ hasStep s.ports[p].run.state = false) →
        u = modPort p (fun q => { q with mask := lines }) s) ∧
      (lines &&& s.chain.asserted ≠ 0 → ∀ (n : Fin 32) (i : Nat),
        exec (.startRun iss p.val n.val i) u = .next (deliver iss 9 (refuse .badState u)))

/-- The use counts are exact at every step: a program's use count is the number of ports bound to it. -/
def Obligations.UseCountsKept : Prop := ∀ s t : State, UseCountsExact s → step s = .next t → UseCountsExact t

/-! ### Sample instants -/

/-- A good reply to the awaited strobe is the port's sample arrival: converted and saturated, it becomes the latest arrival and ends
a run of misses. A reply that fails its check only marks its strobe. A late reply is discarded, and so is one that no strobe awaits:
one whose strobe is answered already, has failed its check or has not gone out yet (THE MODEL'S CHOICE, log entry 5). -/
def Obligations.SampleArrives : Prop :=
  ∀ (p : Fin 8) (reply : List Byte) (s : State),
    (∀ codes, s.ports[p].intake.strobe = .awaited → replyCodes reply = some codes →
      ∃ t, exec (.sampleArrival p reply) s = .next t ∧
        t.ports[p].intake.latest = some (convertSample s.ports[p].intake codes) ∧ t.ports[p].intake.missed = 0 ∧
        t.ports[p].intake.strobe = .answered ∧ t.sent = s.sent ∧
        0 ≤ (convertSample s.ports[p].intake codes).voltage ∧ (convertSample s.ports[p].intake codes).voltage ≤ 1000000 ∧
        -400000 ≤ (convertSample s.ports[p].intake codes).current ∧
        (convertSample s.ports[p].intake codes).current ≤ 400000 ∧
        -400 ≤ (convertSample s.ports[p].intake codes).temperature ∧
        (convertSample s.ports[p].intake codes).temperature ≤ 1500) ∧
    (s.ports[p].intake.strobe = .awaited → replyCodes reply = none →
      exec (.sampleArrival p reply) s = .next (modIntake p (fun i => { i with strobe := .failed }) s)) ∧
    (s.ports[p].intake.strobe ≠ .awaited → exec (.sampleArrival p reply) s = .next s) ∧
    exec (.lateSampleReply p reply) s = .next s

/-- A strobe goes out every time; where the strobe before it was not answered, it is a missed sample, which raises the missed count
and leaves the latest arrival. The third and later missed samples of a run raise MEASUREMENT_LOST: a port with a pack that is not
FAULTED becomes FAULTED, with a fault record of that code unless the sequencer's own work at the instant faulted it first. Where no
step and no drain ends at the instant, a run ends by the path of R49, with a result record of reason FAULT and outcome FAULTED, and
an idle port faults by R50 with its outcome as it was. That the applied command is 0 mA from a fault on is THE MODEL'S READING (log
entry 31). That a fault in IDENTIFYING drops the serial read is THE MODEL'S READING too (log entry 16). -/
def Obligations.StrobeGoesOut : Prop :=
  (∀ (p : Fin 8) (s : State),
    (strobeMissed s.ports[p] = false → exec (.sampleStrobe p) s =
      .next (send (.strobe p) (modIntake p (fun i => { i with strobe := .awaited }) s))) ∧
    (strobeMissed s.ports[p] = true → ∃ t, exec (.sampleStrobe p) s = .next t ∧
      t.ports[p].intake.strobe = .awaited ∧ t.ports[p].intake.missed = min 65535 (s.ports[p].intake.missed + 1) ∧
      t.ports[p].intake.latest = s.ports[p].intake.latest ∧ t.sent = s.sent ++ [.strobe p])) ∧
  (∀ (p : Fin 8) (s : State), strobeMissed s.ports[p] = true → 2 ≤ s.ports[p].intake.missed →
    s.ports[p].run.state ≠ .vacant → s.ports[p].run.state ≠ .faulted → s.ports[p].prot.fault = none →
    ∃ t, exec (.measurementLost p) s = .next t ∧ t.ports[p].run.state = .faulted ∧ t.ports[p].prot.fault.isSome ∧
      flagged p .fault t ∧ t.sent = s.sent ++ [.strobe p] ∧
      (s.ports[p].run.state ≠ .running ∨ (timerDue s.ports[p] (nextHeld s.ports[p].intake) = false ∧
          ∃ x, s.ports[p].run.step = some x ∧ x.conditions = []) →
        (∃ r, t.ports[p].prot.fault = some r ∧ r.code = .measurementLost ∧ r.additional = 0) ∧
        (keepsRun s.ports[p].run → hasFaulted p .fault s t)))

/-- The settle detector, at a sample that ends no step and brings no fault. An arrival in RUNNING in a power step counts with the
controlled quantity, target and band of R64, in an empty, a running, a disturbed or a moved window (R65, R67, R68). A count of 32
or 64 is checked: the grade is set or cleared by whether the window is clean, and SETTLE is set where the port's setting selects
the change of grade, and not otherwise. A change of sub-phase at the instant empties the detector; a missed sample, a REST and the
samples of other states leave it. That the window emptied at 64 keeps its target and band, and that an emptied detector shows 0
for them, is THE MODEL'S CHOICE (log entry 29). -/
def Obligations.WindowCheckGrades : Prop :=
  (∀ (p : Fin 8) (reply : List Byte) (codes : Int × Int × Int) (v : Sample) (r : StepRecord) (x target : Int) (tol : Nat)
    (d e : Settle) (s : State), s.ports[p].intake.strobe = .awaited → replyCodes reply = some codes →
    v = convertSample s.ports[p].intake codes → s.ports[p].run.state = .running → s.ports[p].run.step = some r →
    controlled r s.ports[p].run.subPhase s.ports[p].intake.defaults v s.ports[p].run.applied = some (x, target, tol) →
    r.conditions = [] → timerDue s.ports[p] v = false → faultless s.ports[p] (.arrival reply) v = true →
    d = countSample x target tol s.ports[p].intake.settle →
    (d.count = 32 ∧ e = { d with grade1 := !d.dirty }) ∨
      (d.count = 64 ∧ e = { d with grade2 := !d.dirty, count := 0, dirty := false }) ∨
      (d.count ≠ 32 ∧ d.count ≠ 64 ∧ e = d) →
    ∃ t, exec (.sampleArrival p reply) s = .next t ∧
      (d.count = 32 ∨ d.count = 64 → exec (.settleWindowCheck p reply) s = .next t) ∧
      t.ports[p].intake.settle =
        (if cvReached s.ports[p].run v.voltage = true ∨ edgeDue s.ports[p].run = true then .empty else e) ∧
      (edgeSelected s.ports[p].intake.edges (settleGrade s.ports[p].intake.settle) (settleGrade e) = true →
        flagged p .settle t) ∧
      (edgeSelected s.ports[p].intake.edges (settleGrade s.ports[p].intake.settle) (settleGrade e) = false →
        hasPortFlag t.cmd.stationSet p .settle = hasPortFlag s.cmd.stationSet p .settle ∧
        hasPortFlag t.cmd.hallSet p .settle = hasPortFlag s.cmd.hallSet p .settle)) ∧
  (∀ (p : Fin 8) (rd : Reading) (v : Sample) (s : State), readingSample s.ports[p] rd = some v →
    faultless s.ports[p] rd v = true → cvReached s.ports[p].run v.voltage = false → edgeDue s.ports[p].run = false →
    isIdle s.ports[p].run.state = true ∨ s.ports[p].run.state = .held ∨ s.ports[p].run.state = .faulted ∨
      s.ports[p].run.state = .transfer ∨
      ((s.ports[p].run.state = .holding ∨ s.ports[p].run.state = .ending) ∧ slewDue s.ports[p].run = false) ∨
      (s.ports[p].run.state = .running ∧ timerDue s.ports[p] v = false ∧
        ∃ r, s.ports[p].run.step = some r ∧ r.conditions = [] ∧ (rd = .missed ∨ r.kind = .rest)) →
    ∃ t, exec (readingRow p rd) s = .next t ∧ t.ports[p].intake.settle = s.ports[p].intake.settle) ∧
  (∀ (r : StepRecord) (sub : SubPhase) (d : PortDefaults) (v : Sample) (c : Int),
    (r.kind = .ccCharge ∨ r.kind = .ccDischarge ∨ r.kind = .pulse ∨ (r.kind = .cccvCharge ∧ sub ≠ .cv) →
      controlled r sub d v c = some (v.current, c, if r.settleTolerance = 0 then d.currentTol else r.settleTolerance)) ∧
    (r.kind = .cccvCharge → sub = .cv →
      controlled r sub d v c = some ((v.voltage : Int), (r.cvVoltage : Int),
        if r.cvTolerance = 0 then d.voltageTol else r.cvTolerance)) ∧
    (r.kind = .cpDischarge → controlled r sub d v c = some ((v.voltage * v.current).tdiv 1000000,
      -((c.natAbs * v.voltage / 1000000 : Nat) : Int), if r.settleTolerance = 0 then d.powerTol else r.settleTolerance)) ∧
    (r.kind = .rest → controlled r sub d v c = none)) ∧
  ∀ (x target : Int) (tol : Nat) (w : Settle),
    (w.count = 0 → countSample x target tol w =
      (if (x - target).natAbs ≤ tol then { w with count := 1, dirty := false, target := target, band := tol }
       else { w with count := 1, dirty := true, target := target, band := tol, grade2 := false })) ∧
    (w.count ≠ 0 → w.band < (target - w.target).natAbs →
      countSample x target tol w = ⟨1, decide (tol < (x - target).natAbs), target, tol, false, false⟩) ∧
    (w.count ≠ 0 → (target - w.target).natAbs ≤ w.band →
      ((x - target).natAbs ≤ w.band → countSample x target tol w = { w with count := w.count + 1 }) ∧
      (w.band < (x - target).natAbs → w.dirty = false → countSample x target tol w =
        { w with count := 1, dirty := true, target := target, band := tol, grade2 := false }) ∧
      (w.band < (x - target).natAbs → w.dirty = true →
        countSample x target tol w = { w with count := w.count + 1, grade2 := false }))

/-- At the pulse edge capture A is taken from the sample of the instant and the PULSE changes to its pulse current. At the B
instant the capture result reaches the slot with its marks, the resistance of the two captures with it, and CAPTURE is set; no
capture is in flight after it. Where the step does not end at that instant, the resistance stands for the step's record, and a valid
one is the last resistance of the unfolded set. That the emptied settle detector shows 0 for target and band is THE MODEL'S CHOICE (log
entry 29). -/
def Obligations.CapturesTaken : Prop :=
  (∀ (p : Fin 8) (rd : Reading) (v : Sample) (r : StepRecord) (s : State), readingSample s.ports[p] rd = some v →
    s.ports[p].run.state = .running → s.ports[p].run.step = some r → r.kind = .pulse → s.ports[p].run.subPhase = .base →
    s.ports[p].run.stepTimer = r.baseTime → r.conditions = [] → 1 < r.pulseTime → r.baseTime + 1 < r.duration →
    faultless s.ports[p] rd v = true →
    ∃ t, exec (.pulseEdge p rd) s = .next t ∧ t.ports[p].run.state = .running ∧ t.ports[p].run.subPhase = .pulse ∧
      t.ports[p].run.stepTimer = r.baseTime + 1 ∧ t.ports[p].intake.settle = .empty ∧
      t.ports[p].intake.captureA = some ⟨v.voltage, v.current, decide (rd = .missed), r.baseTime⟩) ∧
  (∀ (p : Fin 8) (reply : List Byte) (codes : Int × Int × Int) (r : StepRecord) (a : CapturePoint) (s : State),
    s.ports[p].intake.strobe = .awaited → replyCodes reply = some codes → s.ports[p].run.state = .running →
    s.ports[p].run.step = some r → s.ports[p].run.subPhase = .pulse → s.ports[p].intake.captureA = some a →
    r.baseTime + r.captureDelay ≤ s.ports[p].run.stepTimer →
    let b : CapturePoint := ⟨(convertSample s.ports[p].intake codes).voltage, (convertSample s.ports[p].intake codes).current,
      false, s.ports[p].run.stepTimer⟩
    ∃ t, exec (.captureB p reply) s = .next t ∧ t.ports[p].intake.captureA = none ∧ flagged p .capture t ∧
      t.ports[p].intake.captureValid = true ∧
      t.ports[p].intake.overwrite = (s.ports[p].intake.overwrite || s.ports[p].intake.captureValid) ∧
      t.ports[p].intake.slot = some ⟨s.ports[p].run.program, s.ports[p].run.stepIndex, s.ports[p].run.runCycles, a, b,
        resistanceOf a b⟩ ∧
      (r.conditions = [] → timerDue s.ports[p] (convertSample s.ports[p].intake codes) = false →
        faultless s.ports[p] (.arrival reply) (convertSample s.ports[p].intake codes) = true →
        t.ports[p].run.resistance = resistanceOf a b ∧
        t.ports[p].acct.unfolded.lastResistance =
          (if resistanceOf a b = none then s.ports[p].acct.unfolded.lastResistance else resistanceOf a b)))

/-- Step ends. The instant at which the step timer reaches the duration limit, or the end of a PULSE, ends a step without conditions
with reason DURATION: its record joins the result queue and STEP_END is set. In general the end conditions look at the port with the
sample counted; the first that holds in list order gives its number and its action, and where none holds the limit or the end of a
PULSE gives DURATION and NEXT. The record is queued, and the action follows: NEXT and GOTO enter an index, which holds a timed step,
an END, or a LOOP that counts and goes back or lets the run through, and past the last index the run ends; END_RUN ends the run;
FAULT_RUN faults the port. In general, with a validated program, the run goes where the index leads by R31 and R32 (`Leads`),
through any chain of LOOPs. The step end folds the unfolded set into the pack's entry, and each marked LOOP then taken folds its
cycle into it. That the applied command is 0 mA from a fault on is THE MODEL'S READING (log entry 31). -/
def Obligations.DurationEndsStep : Prop :=
  (∀ (p : Fin 8) (rd : Reading) (v : Sample) (r : StepRecord) (s : State), readingSample s.ports[p] rd = some v →
    s.ports[p].run.state = .running → s.ports[p].run.step = some r → r.conditions = [] →
    r.duration ≤ s.ports[p].run.stepTimer + 1 ∨
      (r.kind = .pulse ∧ r.baseTime + r.pulseTime ≤ s.ports[p].run.stepTimer + 1) →
    faultless s.ports[p] rd v = true →
    ∃ t x, exec (.durationEnd p rd) s = .next t ∧ t.ports[p].results.getLast? = some x ∧ x.reason = .duration ∧
      x.stepTime = s.ports[p].run.stepTimer + 1 ∧ x.stepIndex = s.ports[p].run.stepIndex ∧ x.kind = r.kind ∧
      flagged p .stepEnd t) ∧
  (∀ (q : Port) (v : Sample) (r : StepRecord), q.run.step = some r →
    (∀ (k : Nat) (c : Condition), r.conditions[k]? = some c → conditionHolds q v c = true →
      (∀ j < k, ∀ d, r.conditions[j]? = some d → conditionHolds q v d = false) →
      stepEnd q v = some (.condition k, c.action)) ∧
    ((∀ c ∈ r.conditions, conditionHolds q v c = false) → stepEnd q v =
      if r.duration ≤ q.run.stepTimer ∨ (r.kind = .pulse ∧ r.baseTime + r.pulseTime ≤ q.run.stepTimer)
      then some (.duration, .next) else none)) ∧
  ∀ (p : Fin 8) (rd : Reading) (v : Sample) (r : StepRecord) (n : Fin 32) (s : State),
    readingSample s.ports[p] rd = some v → s.ports[p].run.state = .running → s.ports[p].run.step = some r →
    s.ports[p].run.program = some n → s.ports[p].prot.fault = none → faultless s.ports[p] rd v = true →
    let q := judged p rd v s
    (q.run.stepTimer = s.ports[p].run.stepTimer + 1 ∧ q.acct.step.tally = integrate v s.ports[p].acct.step.tally ∧
      q.run.throttledTime = s.ports[p].run.throttledTime + (if q.run.throttled then 1 else 0)) ∧
    ∀ (reason : EndReason) (action : Action), stepEnd q v = some (reason, action) →
      ∃ t x, exec (readingRow p rd) s = .next t ∧ t.ports[p].results.getLast? = some x ∧ x.reason = reason ∧
        x.stepTime = s.ports[p].run.stepTimer + 1 ∧ x.stepIndex = s.ports[p].run.stepIndex ∧ x.kind = r.kind ∧
        x.runCycles = s.ports[p].run.runCycles ∧ flagged p .stepEnd t ∧
        (action = .endRun → completes p q.run.applied t) ∧
        (action = .faultRun → t.ports[p].run.state = .faulted ∧ t.ports[p].run.program = none ∧ t.ports[p].run.applied = 0 ∧
          ∃ f, t.ports[p].prot.fault = some f ∧ f.code = .programFault) ∧
        ∀ i : Nat, (action = .next ∧ i = s.ports[p].run.stepIndex + 1) ∨ action = .goto i →
          (i = s.headers[n].steps.length → completes p q.run.applied t) ∧
          (validate s.headers[n].steps = none → ∀ (o : Option Nat) (c : Vector Nat 16) (m : Nat),
            Leads s.headers[n] i s.ports[p].run.counters s.ports[p].run.runCycles o c m →
            t.ports[p].run.counters = c ∧ t.ports[p].run.runCycles = m ∧ (o = none → completes p q.run.applied t) ∧
            (∀ (e : Fin 64) (x : Entry), s.ports[p].ident.bound = some e → s.history.entries[e] = some x → m < top32 →
              t.ports[p].acct.unfolded = .cleared ∧ ∃ y, t.history.entries[e] = some y ∧
                y.cycles = min top32 (x.cycles + q.acct.unfolded.cycleDelta + (m - s.ports[p].run.runCycles)) ∧
                y = afterCycles (m - s.ports[p].run.runCycles) (decide (o = none ∧ q.run.applied = 0))
                  (foldEntry q.acct.unfolded x)) ∧
            ∀ (j : Nat) (b : StepRecord), o = some j → recordAt n j s = some b → entered p n j b q.run.applied s t) ∧
          ∀ a : StepRecord, recordAt n i s = some a →
          (isTimed a.kind = true → entered p n i a q.run.applied s t ∧
            t.ports[p].run.counters = s.ports[p].run.counters ∧ t.ports[p].run.runCycles = s.ports[p].run.runCycles ∧
            ∀ e : Fin 64, s.ports[p].ident.bound = some e → t.ports[p].acct.unfolded = .cleared ∧
              t.history.entries[e] = s.history.entries[e].map (foldEntry q.acct.unfolded)) ∧
          (a.kind = .endRun → completes p q.run.applied t) ∧
          (a.kind = .loop → ∀ (k : Fin 16) (b : StepRecord), loopNumberAt n i s = some k.val →
            let c := s.ports[p].run.counters[k] + 1
            let j := if c < a.repeatCount then a.loopTarget else i + 1
            recordAt n j s = some b → isTimed b.kind = true →
              entered p n j b q.run.applied s t ∧
              t.ports[p].run.counters[k] = (if c < a.repeatCount then c else 0) ∧
              (∀ m : Fin 16, m ≠ k → t.ports[p].run.counters[m] = s.ports[p].run.counters[m]) ∧
              t.ports[p].run.runCycles =
                (if a.cycleMark = 1 then min 4294967295 (s.ports[p].run.runCycles + 1) else s.ports[p].run.runCycles) ∧
              ∀ (e : Fin 64) (x : Entry), s.ports[p].ident.bound = some e → s.history.entries[e] = some x →
                t.ports[p].acct.unfolded = .cleared ∧ t.history.entries[e] =
                  some (afterCycles (if a.cycleMark = 1 then 1 else 0) false (foldEntry q.acct.unfolded x)))

/-- The last sample instant of a drain or ramp: the drain of TRANSFER hands the port to its new step, a power step by the three
situations of R146, a ramp enters RUNNING, the drain of HOLDING enters HELD and the drain of ENDING completes the run. A drain into a
REST, an entry into HELD and a completed run release the phases beyond the reserved count and serve the queue; the last two take the
enables down, each watched as R160 gives. The samples before the last are in SharesSum. -/
def Obligations.SlewsComplete : Prop :=
  ∀ (p : Fin 8) (rd : Reading) (v : Sample) (s : State), readingSample s.ports[p] rd = some v →
    slewDue s.ports[p].run = true → faultless s.ports[p] rd v = true →
    (∀ r, s.ports[p].run.state = .transfer → s.ports[p].run.stage = .draining → s.ports[p].run.step = some r →
      ∃ t, exec (.drainComplete p rd) s = .next t ∧ t.ports[p].run.applied = 0 ∧
        (isPowerStep r.kind = true → t.ports[p].run.state = .transfer ∧ t.ports[p].run.stage ≠ .draining ∧
          t.ports[p].alloc.basis = some ⟨s.ports[p].run.stepIndex, r, initialSubPhase r.kind⟩ ∧
          (isQueued p s = false → acquired p (rawNeed r s.ports[p].prot.effective.vMin) s t)) ∧
        (isPowerStep r.kind = false → t.ports[p].run.state = .running ∧ t.ports[p].run.stepTimer = 0 ∧
          t.ports[p].alloc.basis = none ∧ (isQueued p s = false → releasesUnreserved p s t ∧
            ∀ f ∈ gang p t, t.pool.phases[f].enabled = s.pool.phases[f].enabled))) ∧
    (s.ports[p].run.state = .transfer → s.ports[p].run.stage = .ramping →
      ∃ t, exec (.rampComplete p rd) s = .next t ∧ t.ports[p].run.state = .running ∧ t.ports[p].run.slew = none ∧
        t.ports[p].run.stepTimer = s.ports[p].run.stepTimer) ∧
    (s.ports[p].run.state = .holding →
      ∃ t, exec (.holdDrainComplete p rd) s = .next t ∧ t.ports[p].run.state = .held ∧ t.ports[p].run.applied = 0 ∧
        t.ports[p].run.cvIntegrator = 0 ∧ t.ports[p].alloc.basis = none ∧ t.ports[p].alloc.request = 0 ∧ flagged p .hold t ∧
        releasesUnreserved p s t ∧ enablesFall p s t) ∧
    (s.ports[p].run.state = .ending →
      ∃ t, exec (.endingComplete p rd) s = .next t ∧ t.ports[p].run.state = .ready ∧ t.ports[p].run.program = none ∧
        t.ports[p].run.outcome = s.ports[p].run.endingAs ∧ t.ports[p].alloc.basis = none ∧
        t.ports[p].alloc.request = 0 ∧ flagged p .runEnd t ∧
        (isQueued p s = false → releasesUnreserved p s t ∧ enablesFall p s t))

/-- The arrival at which trip filters fire faults a port with a pack: the record carries the first code in filter order and counts
the further ones. A run ends by the path of R49, with a result record of reason FAULT and outcome FAULTED, an idle port by R50 with
its outcome as it was; a drain that completes at the same instant is left aside there. So it is in RUNNING where no step ends at the
instant, and in HOLDING where its drain does not. Where one does, the port is FAULTED all the same by a filter that every state
checks (that is, by any but VOLTAGE_LOW), with the record of the fault that reached it first: which consumer takes the sample first
is open (R42, log entry 1). That the applied command is 0 mA from the fault on is THE MODEL'S READING (log entry 31). That a fault
in IDENTIFYING drops the serial read is THE MODEL'S READING too (log entry 16). -/
def Obligations.TripFaults : Prop :=
  (∀ (p : Fin 8) (reply : List Byte) (codes : Int × Int × Int) (code : FaultCode) (more : List FaultCode) (s : State),
    s.ports[p].intake.strobe = .awaited → replyCodes reply = some codes → s.ports[p].prot.fault = none →
    s.ports[p].run.state = .transfer ∨ s.ports[p].run.state = .held ∨ s.ports[p].run.state = .ready ∨
      s.ports[p].run.state = .identifying ∨ s.ports[p].run.state = .unidentified ∨ s.ports[p].run.state = .ending ∨
      (s.ports[p].run.state = .holding ∧ slewDue s.ports[p].run = false) ∨
      (s.ports[p].run.state = .running ∧
        timerDue s.ports[p] (convertSample s.ports[p].intake codes) = false ∧
        ∃ x, s.ports[p].run.step = some x ∧ x.conditions = []) →
    firing s.ports[p] (convertSample s.ports[p].intake codes) = code :: more →
    ∃ t r, exec (.trip p reply) s = .next t ∧ t.ports[p].run.state = .faulted ∧ t.ports[p].run.applied = 0 ∧
      t.ports[p].prot.fault = some r ∧ r.code = code ∧ r.additional = more.length ∧
      r.voltage = (convertSample s.ports[p].intake codes).voltage ∧ r.current = (convertSample s.ports[p].intake codes).current ∧
      flagged p .fault t ∧ (keepsRun s.ports[p].run → hasFaulted p .fault s t)) ∧
  ∀ (p : Fin 8) (reply : List Byte) (codes : Int × Int × Int) (code : FaultCode) (s : State),
    s.ports[p].intake.strobe = .awaited → replyCodes reply = some codes → isBound s.ports[p].run.state = true →
    code ∈ firing s.ports[p] (convertSample s.ports[p].intake codes) → code ≠ .voltageLow →
    ∃ t, exec (.trip p reply) s = .next t ∧ t.ports[p].run.state = .faulted ∧ t.ports[p].run.applied = 0 ∧
      t.ports[p].run.program = none ∧ t.ports[p].prot.fault.isSome ∧ flagged p .fault t

/-- Nothing that one port's commands, lines and samples do changes another port's own items, or the protection unit's. -/
def Obligations.PortsIsolated : Prop :=
  ∀ (i : Instr) (p q : Fin 8) (s t : State), portOf i = some p.val → q ≠ p → exec i s = .next t →
    sameOwnItems s.ports[q] t.ports[q] ∧ t.prot = s.prot ∧ t.pending = s.pending

/-! ### Accounts -/

/-- A sample instant, of an arrival or a missed sample, that ends no step and brings no fault adds its sample to the step set where
a step is current, to the run set in a bound state, and to the unfolded set where an entry is bound: the charge and energy of the
current's own direction and one ms of time under current. So it is in every state and stage; at the last sample of a drain in
HOLDING or ENDING the fold of that event takes the sample with it, or leaves it in the cleared set (R60, log entry 1). A fold adds
totals, cycles, faults, maximum temperature and last resistance to the bound entry, clears the unfolded set, and leaves the recency
list, the other entries and a port without an entry alone. The arithmetic is exact: a contribution raises a quantity, counted in its
smallest unit, by just itself until the count reaches its top; a fold of two quantities keeps their sum likewise. -/
def Obligations.AccountsExact : Prop :=
  (∀ (p : Fin 8) (rd : Reading) (v : Sample) (s : State), readingSample s.ports[p] rd = some v →
    faultless s.ports[p] rd v = true →
    isIdle s.ports[p].run.state = true ∨ s.ports[p].run.state = .held ∨ s.ports[p].run.state = .faulted ∨
      s.ports[p].run.state = .transfer ∨
      ((s.ports[p].run.state = .holding ∨ s.ports[p].run.state = .ending) ∧ slewDue s.ports[p].run = false) ∨
      (s.ports[p].run.state = .running ∧ timerDue s.ports[p] v = false ∧
        ∃ x, s.ports[p].run.step = some x ∧ x.conditions = []) →
    ∃ t, exec (readingRow p rd) s = .next t ∧
      t.ports[p].acct.step = (if hasStep s.ports[p].run.state then
        ⟨integrate v s.ports[p].acct.step.tally, max s.ports[p].acct.step.maxTemp v.temperature⟩ else s.ports[p].acct.step) ∧
      t.ports[p].acct.run = (if isBound s.ports[p].run.state then integrate v s.ports[p].acct.run else s.ports[p].acct.run) ∧
      t.ports[p].acct.unfolded.tally = (if s.ports[p].ident.bound.isSome then
        integrate v s.ports[p].acct.unfolded.tally else s.ports[p].acct.unfolded.tally) ∧
      t.ports[p].acct.unfolded.maxTemp = (if s.ports[p].ident.bound.isSome then
        max s.ports[p].acct.unfolded.maxTemp v.temperature else s.ports[p].acct.unfolded.maxTemp) ∧
      t.history = s.history) ∧
  (∀ (p : Fin 8) (rd : Reading) (v : Sample) (e : Fin 64) (x : Entry) (s : State), readingSample s.ports[p] rd = some v →
    faultless s.ports[p] rd v = true → s.ports[p].run.state = .holding ∨ s.ports[p].run.state = .ending →
    slewDue s.ports[p].run = true → s.ports[p].ident.bound = some e → s.history.entries[e] = some x →
    ∃ t, exec (readingRow p rd) s = .next t ∧ t.history.recency = s.history.recency ∧
      ((t.ports[p].acct.unfolded = .cleared ∧ t.history.entries[e] = some (foldEntry (received v s.ports[p].acct.unfolded) x) ∧
          t.ports[p].acct.run = integrate v s.ports[p].acct.run) ∨
        (t.ports[p].acct.unfolded = received v .cleared ∧ t.history.entries[e] = some (foldEntry s.ports[p].acct.unfolded x) ∧
          (s.ports[p].run.state = .holding → t.ports[p].acct.run = integrate v s.ports[p].acct.run)))) ∧
  ((∀ (p : Fin 8) (s : State), s.ports[p].ident.bound = none → fold p s = s) ∧
  (∀ (p : Fin 8) (e : Fin 64) (x : Entry) (s : State), s.ports[p].ident.bound = some e → s.history.entries[e] = some x →
    (fold p s).history.entries[e] = some (foldEntry s.ports[p].acct.unfolded x) ∧
    (fold p s).ports[p].acct = { s.ports[p].acct with unfolded := .cleared } ∧
    (fold p s).history.recency = s.history.recency ∧
    (∀ k : Fin 64, k ≠ e → (fold p s).history.entries[k] = s.history.entries[k]) ∧
    (∀ q : Fin 8, q ≠ p → (fold p s).ports[q] = s.ports[q])) ∧
  ∀ (u : UnfoldedSet) (x : Entry), let y := foldEntry u x
    y.serial = x.serial ∧ y.mounted = x.mounted ∧ y.lastPort = x.lastPort ∧ y.pinned = x.pinned ∧
    y.cycles = min 4294967295 (x.cycles + u.cycleDelta) ∧ y.faultCount = min 65535 (x.faultCount + u.faultDelta) ∧
    y.maxTemp = max x.maxTemp u.maxTemp ∧
    y.lastResistance = (if u.lastResistance = none then x.lastResistance else u.lastResistance) ∧
    y.totals.chargeIn = (foldQuantity chargeDivisor x.totals.chargeIn u.tally.chargeIn).1 ∧
    y.totals.chargeOut = (foldQuantity chargeDivisor x.totals.chargeOut u.tally.chargeOut).1 ∧
    y.totals.energyIn = (foldQuantity energyDivisor x.totals.energyIn u.tally.energyIn).1 ∧
    y.totals.energyOut = (foldQuantity energyDivisor x.totals.energyOut u.tally.energyOut).1 ∧
    y.totals.time = (foldQuantity timeDivisor x.totals.time u.tally.time).1 ∧
    (y.totals.saturated = true ↔ x.totals.saturated = true ∨ u.tally.saturated = true ∨ 4294967295 ≤ x.cycles + u.cycleDelta ∨
      y.totals.chargeIn.whole = top32 ∨ y.totals.chargeOut.whole = top32 ∨ y.totals.energyIn.whole = top32 ∨
      y.totals.energyOut.whole = top32 ∨ y.totals.time.whole = top32)) ∧
  (∀ (v : Sample) (x : Tally),
    (integrate v x).chargeIn = (addTo chargeDivisor v.current.toNat x.chargeIn).1 ∧
    (integrate v x).chargeOut = (addTo chargeDivisor (-v.current).toNat x.chargeOut).1 ∧
    (integrate v x).energyIn = (addTo energyDivisor (v.voltage * v.current.toNat) x.energyIn).1 ∧
    (integrate v x).energyOut = (addTo energyDivisor (v.voltage * (-v.current).toNat) x.energyOut).1 ∧
    (integrate v x).time = (addTo timeDivisor (if v.current = 0 then 0 else 1) x.time).1) ∧
  (∀ (d c : Nat) (q : Quantity), q.residue < d → c ≤ d → (addTo d c q).1.whole ≠ top32 →
    (addTo d c q).1.whole * d + (addTo d c q).1.residue = q.whole * d + q.residue + c ∧ (addTo d c q).1.residue < d) ∧
  (∀ (d : Nat) (e u : Quantity), e.residue < d → u.residue < d → (foldQuantity d e u).2 = false →
    (foldQuantity d e u).1.whole * d + (foldQuantity d e u).1.residue =
      e.whole * d + e.residue + (u.whole * d + u.residue) ∧ (foldQuantity d e u).1.residue < d) ∧
  ∀ (d : Nat) (e u : Quantity), (foldQuantity d e u).2 = true → (foldQuantity d e u).1 = ⟨top32, 0⟩

/-! ### Identification and history -/

/-- A presence contact that closes on a VACANT port with its thermal switch CLOSED starts an identification, and so does
RETRY_IDENTIFY on an UNIDENTIFIED port: attempt 1, last failure NONE, no serial read, and a read request on the line. Where the
switch reads OPEN as the contact closes, that is an opening edge: the latch is set and the port faults at once from IDENTIFYING by
THERMAL_SWITCH, with no attempt and no entry bound; a FAULTED port keeps its record and counts one fault more. -/
def Obligations.IdentificationStarts : Prop :=
  (∀ (p : Fin 8) (s : State), s.ports[p].ident.present = false → s.ports[p].run.state = .vacant →
    s.ports[p].prot.thermalOpen = false →
    exec (.presenceClose p) s = .next (send (.idRequest p) (modPort p (fun q => { q with
      ident := { q.ident with present := true, lastFailure := .none, serialRead := none, attempt := some ⟨1, 0⟩ }
      run := { q.run with state := .identifying } }) s))) ∧
  (∀ (p : Fin 8) (s : State), s.ports[p].ident.present = false → s.ports[p].run.state = .faulted →
    s.ports[p].prot.thermalOpen = false →
    exec (.presenceClose p) s = .next (modIdent p (fun i => { i with present := true }) s)) ∧
  (∀ (p : Fin 8) (s : State), s.ports[p].ident.present = false → s.ports[p].run.state = .vacant →
    s.ports[p].prot.thermalOpen = true → s.ports[p].ident.bound = none → s.ports[p].prot.fault = none →
    ∃ t r, exec (.presenceClose p) s = .next t ∧ t.ports[p].ident = ⟨true, none, .none, none, none⟩ ∧
      t.ports[p].prot.thermalLatch = true ∧ t.ports[p].run.state = .faulted ∧
      t.ports[p].run.outcome = s.ports[p].run.outcome ∧ t.ports[p].results = s.ports[p].results ∧ flagged p .fault t ∧
      t.ports[p].prot.fault = some r ∧ r.code = .thermalSwitch ∧ r.time = s.prot.time ∧ r.portState = .identifying ∧
      r.additional = 0 ∧ t.history = { s.history with waiting := s.history.waiting.filter fun q => q ≠ p }) ∧
  (∀ (p : Fin 8) (r : FaultRecord) (s : State), s.ports[p].ident.present = false → s.ports[p].run.state = .faulted →
    s.ports[p].prot.thermalOpen = true → s.ports[p].prot.fault = some r →
    exec (.presenceClose p) s = .next (modPort p (fun q => { q with
      ident := { q.ident with present := true }
      prot := { q.prot with thermalLatch := true, fault := some { r with additional := min 255 (r.additional + 1) } } }) s)) ∧
  ∀ (iss : Issuer) (p : Fin 8) (s : State), s.ports[p].owner = .none ∨ s.ports[p].owner = ownerOf iss.master →
    exec (.retryIdentify iss p.val) s = .next (deliver iss 14
      (if s.ports[p].run.state = .unidentified then
        done (send (.idRequest p) (modPort p (fun q => { q with
          ident := { q.ident with lastFailure := .none, serialRead := none, attempt := some ⟨1, 0⟩ }
          run := { q.run with state := .identifying } }) s))
       else refuse .badState s))

/-- A presence contact that opens: an idle port is VACANT, its pack's entry unmounted after a fold; a port in a run is FAULTED by
PACK_REMOVED along the path of R49, with a result record of that reason and outcome FAULTED, its entry unmounted. That the applied
command is 0 mA from a fault on is THE MODEL'S READING (log entry 31). -/
def Obligations.PresenceOpens : Prop :=
  ∀ (p : Fin 8) (s : State), s.ports[p].ident.present = true →
    ∃ t, exec (.presenceOpen p) s = .next t ∧ t.ports[p].ident.present = false ∧
      (isIdle s.ports[p].run.state = true → t.ports[p].run.state = .vacant) ∧
      (s.ports[p].run.state = .identifying → t.ports[p].ident.attempt = none ∧ t.ports[p].ident.serialRead = none ∧
        p ∉ t.history.waiting) ∧
      (s.ports[p].run.state = .ready ∨ s.ports[p].run.state = .faulted ∨ isBound s.ports[p].run.state = true →
        t.ports[p].ident.bound = none ∧
        ∀ e, s.ports[p].ident.bound = some e → t.history.recency.getLast? = some e ∧
          t.ports[p].acct.unfolded = .cleared ∧ ∀ x, t.history.entries[e] = some x → x.mounted = none) ∧
      (s.ports[p].run.state = .ready ∨ s.ports[p].run.state = .faulted → ∀ e, s.ports[p].ident.bound = some e →
        t.history.entries[e] =
          s.history.entries[e].map fun x => { foldEntry s.ports[p].acct.unfolded x with mounted := none }) ∧
      (isBound s.ports[p].run.state = true → s.ports[p].prot.fault = none → t.ports[p].run.state = .faulted ∧
        t.ports[p].run.program = none ∧ flagged p .fault t ∧
        (∃ r, t.ports[p].prot.fault = some r ∧ r.code = .packRemoved ∧ r.portState = s.ports[p].run.state) ∧
        runFaulted p .packRemoved s t) ∧
      (isIdle s.ports[p].run.state = true ∨ s.ports[p].run.state = .faulted →
        t.ports[p].run.outcome = s.ports[p].run.outcome ∧ t.ports[p].results = s.ports[p].results)

/-- A good nine-byte reply to the attempt in flight identifies the pack. A serial in use leaves the port UNIDENTIFIED; a hit mounts
the entry that holds the serial; a miss mounts a new entry, the lowest-numbered free one or, with none free, that of the entry it
evicts; where no entry can be made the port joins the wait list. A bad check, a serial of 0, or 50 ms without a reply fails the
attempt: the next begins at once, and after the third the port is UNIDENTIFIED. A reply to an ended attempt is discarded, and so is
one of another length (THE MODEL'S CHOICE, log entry 20). -/
def Obligations.IdentificationEnds : Prop :=
  ∀ (p : Fin 8) (a : Attempt) (s : State), s.ports[p].ident.attempt = some a →
    (∀ (reply : List Byte) (serial : Nat), reply.length = 9 → sumsToZero reply = true → natOf (reply.take 8) = serial →
      serial ≠ 0 →
      (serialInUse p serial s = true →
        exec (.idReply p .presentAttempt reply) s = .next (modPort p (fun q => { q with
          ident := { q.ident with lastFailure := .serialInUse, attempt := none, serialRead := none }
          run := { q.run with state := .unidentified } }) s)) ∧
      (serialInUse p serial s = false → ∀ e, entryOf serial s = some e →
        ∃ t, exec (.idReply p .presentAttempt reply) s = .next t ∧ t.ports[p].run.state = .ready ∧
          t.ports[p].ident.bound = some e ∧ t.ports[p].ident.attempt = none ∧
          t.history.entries[e] = s.history.entries[e].map (fun x => { x with mounted := some p, lastPort := some p }) ∧
          t.history.recency.getLast? = some e) ∧
      (serialInUse p serial s = false → entryOf serial s = none →
        (∀ e, freeEntry s = some e →
          ∃ t, exec (.idReply p .presentAttempt reply) s = .next t ∧ t.ports[p].run.state = .ready ∧
            t.ports[p].ident.bound = some e ∧ t.history.evictions = s.history.evictions ∧
            t.history.entries[e] = some ⟨serial, 0, .cleared, -400, 0, none, some p, some p, false⟩ ∧
            t.history.recency.getLast? = some e) ∧
        (∀ e x, freeEntry s = none → evictable s = some e → s.history.entries[e] = some x → s.history.evictions.length < 16 →
          ∃ t, exec (.idReply p .presentAttempt reply) s = .next t ∧ t.ports[p].run.state = .ready ∧
            t.ports[p].ident.bound = some e ∧ t.history.evictions = s.history.evictions ++ [⟨x, e, s.prot.time⟩] ∧
            t.history.entries[e] = some ⟨serial, 0, .cleared, -400, 0, none, some p, some p, false⟩ ∧
            t.history.recency.getLast? = some e ∧ cabinetFlagged .evictionPending t) ∧
        (freeEntry s = none → evictable s = none ∨ 16 ≤ s.history.evictions.length →
          exec (.idReply p .presentAttempt reply) s = .next
            { modIdent p (fun i => { i with attempt := none, serialRead := some serial }) s with
              history := { s.history with waiting := s.history.waiting ++ [p] } }))) ∧
    (∀ (reply : List Byte) (why : IdFailure), reply.length = 9 →
      (sumsToZero reply = false ∧ why = .badCheck) ∨
        (sumsToZero reply = true ∧ natOf (reply.take 8) = 0 ∧ why = .zeroSerial) →
      (a.number < 3 → exec (.idReply p .presentAttempt reply) s = .next (send (.idRequest p) (modIdent p (fun i => { i with
        lastFailure := why, attempt := some ⟨a.number + 1, 0⟩ }) s))) ∧
      (3 ≤ a.number → exec (.idReply p .presentAttempt reply) s = .next (modPort p (fun q => { q with
        ident := { q.ident with lastFailure := why, attempt := none }
        run := { q.run with state := .unidentified } }) s))) ∧
    (∀ reply : List Byte, exec (.idReply p .endedAttempt reply) s = .next s) ∧
    (∀ reply : List Byte, reply.length ≠ 9 → exec (.idReply p .presentAttempt reply) s = .next s) ∧
    (50 ≤ a.elapsed → a.number < 3 →
      exec (.idAttemptExpiry p) s = .next (send (.idRequest p) (modIdent p (fun i => { i with
        lastFailure := .noReply, attempt := some ⟨a.number + 1, 0⟩ }) s))) ∧
    (50 ≤ a.elapsed → 3 ≤ a.number →
      exec (.idAttemptExpiry p) s = .next (modPort p (fun q => { q with
        ident := { q.ident with lastFailure := .noReply, attempt := none }
        run := { q.run with state := .unidentified } }) s))

/-- PIN_ENTRY and UNPIN_ENTRY: the mark of the entry named and nothing else; PIN_LIMIT where 56 are pinned already. IMPORT_ENTRY of
a legal record with a new serial: it takes the lowest-numbered free entry; with none free, no evictable entry or a full eviction
queue refuses it NO_SPACE. The bytes of the record that are illegal, and those that give serial, cycles, totals, maximum
temperature, fault count, last resistance, last port and saturated mark, are named; the entry is unmounted and unpinned, and a whole
count at 4,294,967,295 is saturated with residue 0. That a cycle count at its top sets the saturated mark is THE MODEL'S READING
(log entry 17). -/
def Obligations.PinsAndImports : Prop :=
  (∀ (iss : Issuer) (e : Fin 64) (x : Entry) (s : State), s.history.entries[e] = some x →
    exec (.pinEntry iss ⟨0, e.val⟩) s = .next (deliver iss 26
      (if x.pinned then done s else if 56 ≤ pinnedCount s then refuse .pinLimit s
       else done (modEntry e (fun _ => some { x with pinned := true }) s))) ∧
    exec (.unpinEntry iss ⟨0, e.val⟩) s = .next (deliver iss 27
      (done (modEntry e (fun _ => some { x with pinned := false }) s)))) ∧
  (∀ (iss : Issuer) (record : List Byte) (s : State),
    (importBad record = true → exec (.importEntry iss record) s = .next (deliver iss 28 (refuse .badField s))) ∧
    (importBad record = false → entryOf (natAt record 0 8) s ≠ none →
      exec (.importEntry iss record) s = .next (deliver iss 28 (refuse .duplicate s))) ∧
    (∀ e, importBad record = false → entryOf (natAt record 0 8) s = none → freeEntry s = some e →
      ∃ u, exec (.importEntry iss record) s = .next (deliver iss 28 (answer (u8 e.val) u)) ∧
        u.history.entries[e] = some (importedEntry record) ∧
        u.history.recency = (s.history.recency.filter fun x => x ≠ e) ++ [e] ∧
        (∀ k : Fin 64, k ≠ e → u.history.entries[k] = s.history.entries[k]) ∧
        u.ports = s.ports ∧ u.history.evictions = s.history.evictions) ∧
    (importBad record = false → entryOf (natAt record 0 8) s = none → freeEntry s = none →
      evictable s = none ∨ 16 ≤ s.history.evictions.length →
      exec (.importEntry iss record) s = .next (deliver iss 28 (refuse .noSpace s)))) ∧
  ∀ record : List Byte,
    (importBad record = true ↔ natAt record 0 8 = 0 ∨ 3600000 ≤ natAt record 16 4 ∨ 3600000 ≤ natAt record 24 4 ∨
      3600000000000 ≤ natAt record 32 8 ∨ 3600000000000 ≤ natAt record 44 8 ∨ 1000 ≤ natAt record 56 2 ∨
      intAt record 58 2 < -400 ∨ 1500 < intAt record 58 2 ∨ (8 ≤ natAt record 67 1 ∧ natAt record 67 1 ≤ 254) ∨
      1 < natAt record 62 1 ∨ (natAt record 62 1 = 1 ∧ intAt record 63 4 < -2147483647)) ∧
    let y := importedEntry record
    y.serial = natAt record 0 8 ∧ y.cycles = natAt record 8 4 ∧
    y.totals.chargeIn = importedCount (natAt record 12 4) (natAt record 16 4) ∧
    y.totals.chargeOut = importedCount (natAt record 20 4) (natAt record 24 4) ∧
    y.totals.energyIn = importedCount (natAt record 28 4) (natAt record 32 8) ∧
    y.totals.energyOut = importedCount (natAt record 40 4) (natAt record 44 8) ∧
    y.totals.time = importedCount (natAt record 52 4) (natAt record 56 2) ∧
    y.maxTemp = intAt record 58 2 ∧ y.faultCount = natAt record 60 2 ∧
    y.lastResistance = (if natAt record 62 1 = 1 then some (intAt record 63 4) else none) ∧
    (∀ p : Fin 8, y.lastPort = some p ↔ natAt record 67 1 = p.val) ∧ y.mounted = none ∧ y.pinned = false ∧
    (y.totals.saturated = true ↔ natAt record 68 1 / 4 % 2 = 1 ∨ natAt record 12 4 = 4294967295 ∨
      natAt record 20 4 = 4294967295 ∨ natAt record 28 4 = 4294967295 ∨ natAt record 40 4 = 4294967295 ∨
      natAt record 52 4 = 4294967295 ∨ natAt record 8 4 = 4294967295)

/-- DELETE_ENTRY of an unmounted, unpinned entry frees it, and READ_EVICTION takes the oldest record; each then serves the wait
list. A service looks up the head's serial and goes on to the next port, until the list is empty or a head stays because its lookup
makes no entry; an empty list is left as it is. An IMPORT_ENTRY with no free entry evicts: the evictable entry goes to the tail of
the eviction queue with its number and the cabinet time, EVICTION_PENDING is set, and the imported entry takes its number. What the
imported entry takes from its record is said in PinsAndImports, with the model's reading of log entry 17. -/
def Obligations.EntriesLeave : Prop :=
  (∀ (iss : Issuer) (e : Fin 64) (x : Entry) (s : State), s.history.entries[e] = some x →
    (x.mounted = none → x.pinned = false →
      exec (.deleteEntry iss ⟨0, e.val⟩) s = .next (deliver iss 29 (done (serveHistory { s with history := { s.history with
        entries := s.history.entries.set e none, recency := s.history.recency.filter fun y => y ≠ e } })))) ∧
    (x.mounted ≠ none → exec (.deleteEntry iss ⟨0, e.val⟩) s = .next (deliver iss 29 (refuse .inUse s))) ∧
    (x.mounted = none → x.pinned = true →
      exec (.deleteEntry iss ⟨0, e.val⟩) s = .next (deliver iss 29 (refuse .badState s)))) ∧
  (∀ (iss : Issuer) (serial : Nat) (e : Fin 64) (s : State), serial ≠ 0 → entryOf serial s = some e →
    exec (.deleteEntry iss ⟨1, serial⟩) s = exec (.deleteEntry iss ⟨0, e.val⟩) s) ∧
  (∀ (iss : Issuer) (r : EvictionRecord) (rest : List EvictionRecord) (s : State), s.history.evictions = r :: rest →
    exec (.readEviction iss) s = .next (deliver iss 30 (answer (historyBytes r.entry r.number.val r.time ++ u8 rest.length)
      (serveHistory { s with history := { s.history with evictions := rest } })))) ∧
  (∀ (iss : Issuer) (s : State), s.history.evictions = [] →
    exec (.readEviction iss) s = .next (deliver iss 30 (refuse .empty s))) ∧
  ((∀ s : State, s.history.waiting = [] → serveHistory s = s) ∧
  (∀ (p : Fin 8) (rest : List (Fin 8)) (serial : Nat) (s : State), s.history.waiting = p :: rest →
    s.ports[p].ident.serialRead = some serial →
    (lookup p serial s = none → serveHistory s = s) ∧
    ∀ u, lookup p serial s = some u → serveHistory s = serveHistory { u with history := { u.history with waiting := rest } }) ∧
  ∀ s : State, (serveHistory s).history.waiting = [] ∨ ∃ p rest serial, (serveHistory s).history.waiting = p :: rest ∧
    (serveHistory s).ports[p].ident.serialRead = some serial ∧ lookup p serial (serveHistory s) = none) ∧
  ∀ (iss : Issuer) (record : List Byte) (e : Fin 64) (x : Entry) (s : State), importBad record = false →
    entryOf (natAt record 0 8) s = none → freeEntry s = none → evictable s = some e → s.history.entries[e] = some x →
    s.history.evictions.length < 16 →
    ∃ u, exec (.importEntry iss record) s = .next (deliver iss 28 (answer (u8 e.val) u)) ∧
      u.history.evictions = s.history.evictions ++ [⟨x, e, s.prot.time⟩] ∧ x.mounted = none ∧ x.pinned = false ∧
      cabinetFlagged .evictionPending u ∧ u.history.entries[e] = some (importedEntry record) ∧
      u.history.recency = (s.history.recency.filter fun y => y ≠ e) ++ [e] ∧
      (∀ k : Fin 64, k ≠ e → u.history.entries[k] = s.history.entries[k]) ∧ u.ports = s.ports ∧
      u.history.waiting = s.history.waiting

/-! ### Allocation and pool -/

/-- The allocation tick forms every request from its basis, held to the per-port power limit with its mark, and the level of its
step, and runs one round with them. A round grants every request where the net lies within the budget; otherwise it grants one side
in full and shares the headroom out on the other, level by level from 3 down, in proportion at the sharing level with the leftover
to the lowest ports, so that the net grant is the limit that was exceeded. A port that has had no sample yet asks with 0 mV: THE
MODEL'S CHOICE (log entry 39). -/
def Obligations.TickRunsRound : Prop :=
  (∀ s : State, ∃ t, exec .allocationTick s = .next t ∧
    t.alloc.roundCount = (s.alloc.roundCount + 1) % 2 ^ 32 ∧ t.alloc.inForce = s.alloc.inForce ∧
    (∀ p : Fin 8, let c := clampRequest s.prot.limits.maxPower (formula (latestSample s.ports[p]).voltage
        (cvRequestCurrent s.ports[p].run s.ports[p].alloc.basis) s.ports[p].alloc.basis)
      t.ports[p].alloc.request = c.1 ∧ t.ports[p].alloc.requestClamped = c.2 ∧
      (∀ b, s.ports[p].alloc.basis = some b → b.step.level ≤ 3 → t.ports[p].alloc.level = b.step.level) ∧
      (s.ports[p].alloc.basis = none → t.ports[p].alloc.level = 0) ∧
      t.ports[p].alloc.basis = s.ports[p].alloc.basis ∧ t.ports[p].run = s.ports[p].run ∧
      t.ports[p].alloc.grant = ((allocate s.alloc.inForce (requests t)).1).getD p.val 0) ∧
    t.alloc.lastRound = ⟨s.alloc.inForce, sideTotal (imports (requests t)), sideTotal (exports (requests t)),
      (allocate s.alloc.inForce (requests t)).2⟩ ∧
    t.headers = s.headers ∧ t.history = s.history ∧ t.pool = s.pool ∧ t.prot = s.prot ∧ t.chain = s.chain ∧ t.cmd = s.cmd) ∧
  (∀ s : State, requests s = (List.finRange 8).map fun p : Fin 8 => (s.ports[p].alloc.request, s.ports[p].alloc.level)) ∧
  ∀ (b : Budget) (rs : List (Int × Nat)), (∀ x ∈ rs, x.2 ≤ 3) →
    let ins := rs.map fun x => (x.1.toNat, x.2)
    let outs := rs.map fun x => ((-x.1).toNat, x.2)
    let iTot := (ins.map Prod.fst).sum
    let eTot := (outs.map Prod.fst).sum
    (iTot ≤ b.imp + eTot → eTot ≤ b.exp + iTot → allocate b rs = (rs.map Prod.fst, .unthrottled)) ∧
    (b.imp + eTot < iTot → ∃ l g, sharedOut ins (b.imp + eTot) l g ∧ (allocate b rs).2 = .importThrottled l ∧
      (allocate b rs).1.sum = b.imp ∧ (allocate b rs).1.length = rs.length ∧
      ∀ (k : Nat) (r : Int) (lv : Nat), rs[k]? = some (r, lv) →
        (allocate b rs).1[k]? = some (if 0 < r then (g.getD k 0 : Int) else r)) ∧
    (b.exp + iTot < eTot → ∃ l g, sharedOut outs (b.exp + iTot) l g ∧ (allocate b rs).2 = .exportThrottled l ∧
      (allocate b rs).1.sum = -(b.exp : Int) ∧ (allocate b rs).1.length = rs.length ∧
      ∀ (k : Nat) (r : Int) (lv : Nat), rs[k]? = some (r, lv) →
        (allocate b rs).1[k]? = some (if r < 0 then -(g.getD k 0 : Int) else r))

/-- The sum of the grants lies within the budget in force, and every grant has its request's sign and no more than its
magnitude, after every step. -/
def Obligations.GrantsKept : Prop := ∀ s t : State, GrantsWithin s → step s = .next t → GrantsWithin t

/-- SET_STANDALONE_BUDGET, SET_FALLBACK_BUDGET and SET_RAMP_TIME: the values stored within their ranges with the CLAMPED mark
where they were brought there, in force at once where their source is; SET_LOCKOUT_POLICY; the hall-only commands refused from
the station. -/
def Obligations.CabinetSettings : Prop :=
  (∀ (iss : Issuer) (b : Budget) (s : State), ∃ u,
    exec (.setStandaloneBudget iss b) s =
      .next (deliver iss 34 (doneClamped (decide (1000000 < b.imp ∨ 1000000 < b.exp)) u)) ∧
    u.alloc.standalone = ⟨min b.imp 1000000, min b.exp 1000000⟩ ∧ u.alloc.source = s.alloc.source ∧
    u.alloc.fallback = s.alloc.fallback ∧
    u.alloc.inForce = (if s.alloc.source = .standalone then ⟨min b.imp 1000000, min b.exp 1000000⟩ else s.alloc.inForce)) ∧
  (∀ (tag : Byte) (b : Budget) (s : State), ∃ u,
    exec (.setFallbackBudget (.hall tag) b) s =
      .next (deliver (.hall tag) 33 (doneClamped (decide (1000000 < b.imp ∨ 1000000 < b.exp)) u)) ∧
    u.alloc.fallback = ⟨min b.imp 1000000, min b.exp 1000000⟩ ∧ u.alloc.source = s.alloc.source ∧
    u.alloc.standalone = s.alloc.standalone ∧
    u.alloc.inForce = (if s.alloc.source = .fallback then ⟨min b.imp 1000000, min b.exp 1000000⟩ else s.alloc.inForce)) ∧
  (∀ (b : Budget) (s : State), exec (.setFallbackBudget .station b) s = .next (deliver .station 33 (refuse .notOwner s))) ∧
  (∀ (iss : Issuer) (t : Nat) (s : State), exec (.setRampTime iss t) s = .next (deliver iss 35
    (doneClamped (decide (t < 10 ∨ 500 < t))
      { s with alloc := { s.alloc with rampTime := if t < 10 then 10 else if 500 < t then 500 else t } }))) ∧
  (∀ (tag : Byte) (s : State),
    exec (.setLockoutPolicy (.hall tag) 0) s =
      .next (deliver (.hall tag) 36 (done { s with prot := { s.prot with policy := .hold } })) ∧
    exec (.setLockoutPolicy (.hall tag) 1) s =
      .next (deliver (.hall tag) 36 (done { s with prot := { s.prot with policy := .restart } })) ∧
    ∀ x, 1 < x → exec (.setLockoutPolicy (.hall tag) x) s = .next (deliver (.hall tag) 36 (refuse .badField s))) ∧
  ∀ (x : Nat) (s : State), exec (.setLockoutPolicy .station x) s = .next (deliver .station 36 (refuse .notOwner s))

/-- The current command and its split, at arrivals and missed samples alike. After a sample instant of RAMPING, or of RUNNING that
ends no step, the applied command is within the step demand, the grant bound, 40,000 mA for each phase held and the ramp ceiling; it
is the smallest of them outside CV. At a later sample in CV the CV integrator is the CV demand held to the setpoint, the grant
bound, the phase capacity and, in RAMPING, the ramp ceiling, and the applied command is the integrator; at the change to CV the
demand is the command in force, and the command is held to the grant of the round that follows as well. Its direction is the step's,
the throttled mark compares demand and bounds in RUNNING, and each phase of the gang takes its share, or 0 mA where it turns under
current. At a sample instant of a drain before its last the command is the smallest of the drain ceiling, the grant bound and the
phase capacity, in the latched direction. A port that commands no current gives its phases 0 mA. The shares of a gang sum to the
command, differ by at most 1 mA, and stay within 40,000 mA where the command is within the gang's capacity; the duty of an enabled
phase runs from 50 to 950 ‰ and a disabled one shows 0. THE MODEL'S CHOICES it rests on: demand and bound at the instant of the
change to CV (log entry 10), the cap in the ramp target of a CP_DISCHARGE (log entry 11), the bound of a command without a direction
(log entry 12), the share and direction of an assigned phase that is still disabled (log entry 32). -/
def Obligations.SharesSum : Prop :=
  (∀ (p : Fin 8) (rd : Reading) (v : Sample) (r : StepRecord) (s : State), readingSample s.ports[p] rd = some v →
    faultless s.ports[p] rd v = true → s.ports[p].run.step = some r → isPowerStep r.kind = true →
    (s.ports[p].run.state = .running ∧ r.conditions = [] ∧ timerDue s.ports[p] v = false) ∨
      (s.ports[p].run.state = .transfer ∧ s.ports[p].run.stage = .ramping) →
    ∃ t, exec (readingRow p rd) s = .next t ∧
      let q := t.ports[p].run
      let b := q.bounds
      let inCv := r.kind = .cccvCharge ∧ q.subPhase = .cv
      (b.phaseCapacity = 40000 * heldCount p s ∧
        b.grantBound = grantBound t.ports[p].alloc.grant v.voltage (stepDirection q) ∧
        b.stepDemand = if inCv then b.cvDemand else stepDemand r q.subPhase s.ports[p].prot.effective.discharge v.voltage) ∧
      (q.applied.natAbs ≤ b.stepDemand ∧ q.applied.natAbs ≤ b.grantBound ∧ q.applied.natAbs ≤ 40000 * heldCount p s) ∧
      (s.ports[p].run.state = .running → ¬ inCv → q.applied.natAbs = min b.stepDemand (min b.grantBound b.phaseCapacity)) ∧
      (s.ports[p].run.state = .transfer → ∀ d, s.ports[p].run.slew = some d →
        let ceiling := stepDemand r s.ports[p].run.subPhase s.ports[p].prot.effective.discharge v.voltage * (d.elapsed + 1) / d.time
        q.applied.natAbs ≤ ceiling ∧
        (¬ inCv → q.applied.natAbs = min b.stepDemand (min b.grantBound (min b.phaseCapacity ceiling))) ∧
        (inCv → s.ports[p].run.subPhase = .cv → q.applied.natAbs = q.cvIntegrator ∧
          q.cvIntegrator = min b.cvDemand (min r.current (min b.grantBound (min b.phaseCapacity ceiling)))) ∧
        (inCv → s.ports[p].run.subPhase ≠ .cv → q.cvIntegrator = min b.cvDemand (min r.current (min
          (grantBound s.ports[p].alloc.grant v.voltage (some .charge)) (min b.phaseCapacity ceiling))))) ∧
      (inCv → q.applied.natAbs ≤ q.cvIntegrator ∧ q.cvIntegrator ≤ b.cvDemand ∧ q.cvIntegrator ≤ r.current) ∧
      (s.ports[p].run.state = .running → inCv → s.ports[p].run.subPhase = .cv → q.applied.natAbs = q.cvIntegrator ∧
        q.cvIntegrator = min b.cvDemand (min r.current (min b.grantBound b.phaseCapacity))) ∧
      (s.ports[p].run.state = .running → inCv → s.ports[p].run.subPhase ≠ .cv → q.cvIntegrator = min b.cvDemand (min r.current
        (min (grantBound s.ports[p].alloc.grant v.voltage (some .charge)) b.phaseCapacity))) ∧
      (inCv → s.ports[p].run.subPhase ≠ .cv → b.cvDemand = min s.ports[p].run.applied.natAbs r.current ∧
        q.applied.natAbs = min q.cvIntegrator b.grantBound) ∧
      (r.kind = .cccvCharge → s.ports[p].run.subPhase = .cv → (b.cvDemand : Int) =
        saturate 0 r.current (s.ports[p].run.cvIntegrator +
          (((r.cvVoltage : Int) - v.voltage) * s.ports[p].intake.defaults.cvGain).tdiv 256)) ∧
      (0 < q.applied → stepDirection q = some .charge) ∧ (q.applied < 0 → stepDirection q = some .discharge) ∧
      q.throttled = decide (s.ports[p].run.state = .running ∧ min b.grantBound b.phaseCapacity < b.stepDemand) ∧
      splits p q.applied s t) ∧
  (∀ (p : Fin 8) (rd : Reading) (v : Sample) (d : Slew) (s : State), readingSample s.ports[p] rd = some v →
    faultless s.ports[p] rd v = true → s.ports[p].run.slew = some d → d.elapsed + 1 < d.time →
    (s.ports[p].run.state = .transfer ∧ s.ports[p].run.stage = .draining) ∨ s.ports[p].run.state = .holding ∨
      s.ports[p].run.state = .ending →
    ∃ t, exec (readingRow p rd) s = .next t ∧
      let m := min (d.level * (d.time - (d.elapsed + 1)) / d.time)
        (min (grantBound s.ports[p].alloc.grant v.voltage (some d.direction)) (40000 * heldCount p s))
      t.ports[p].run.applied = (match d.direction with | .charge => (m : Int) | .discharge => -(m : Int)) ∧
      t.ports[p].run.slew = some { d with elapsed := d.elapsed + 1 } ∧ t.ports[p].run.throttled = false ∧
      t.ports[p].run.state = s.ports[p].run.state ∧ t.ports[p].run.stage = s.ports[p].run.stage ∧
      t.ports[p].run.stepTimer = s.ports[p].run.stepTimer ∧ t.ports[p].alloc = s.ports[p].alloc ∧
      splits p t.ports[p].run.applied s t) ∧
  (∀ (p : Fin 8) (rd : Reading) (v : Sample) (s : State), readingSample s.ports[p] rd = some v →
    faultless s.ports[p] rd v = true →
    isIdle s.ports[p].run.state = true ∨ s.ports[p].run.state = .held ∨ s.ports[p].run.state = .faulted ∨
      (s.ports[p].run.state = .transfer ∧ s.ports[p].run.stage = .acquiring) →
    ∃ t, exec (readingRow p rd) s = .next t ∧ t.ports[p].run.applied = 0 ∧ t.ports[p].run.throttled = false ∧
      splits p 0 s t) ∧
  (∀ c n : Nat, 0 < n → ((List.range n).map (share c n)).sum = c) ∧
  (∀ c n k j : Nat, share c n k ≤ share c n j + 1) ∧
  (∀ c n k : Nat, 0 < n → c ≤ 40000 * n → k < n → share c n k ≤ 40000) ∧
  (∀ ph : Phase, ph.enabled = true → ph.command ≤ 40000 → 50 ≤ duty ph ∧ duty ph ≤ 950) ∧
  ∀ ph : Phase, ph.enabled = false → duty ph = 0

/-- A phase's fault line that rises takes the phase OUT_OF_SERVICE, disabled, and sets the flag; its fall is a level alone;
SET_PHASE_SERVICE returns it once the line is low. Both form the needs of the waiting ports again: a port whose shortfall falls to 0
ramps with what it holds, and the queue is then served. A service gives the head its shortfall of FREE phases while it fits, and
never one behind a head that does not. An active line that falls acknowledges a pending watch, and lets the enable of a phase of an
enabled port rise; with no watch pending its level alone falls, and so does it alone rise on a phase that is enabled or watched. The
enables follow the port's state: up on every phase without a watch in TRANSFER, RUNNING, HOLDING and ENDING, and down in any other,
where each disable begins a watch unless one pends or the active line reads low. -/
def Obligations.PhaseLinesAct : Prop :=
  ((∀ (f : Fin 16) (s : State), s.pool.phases[f].faultHigh = false → s.pool.phases[f].state ≠ .outOfService →
    ∃ t, exec (.phaseFault f true) s = .next t ∧ t.pool.phases[f].state = .outOfService ∧
      t.pool.phases[f].enabled = false ∧ t.pool.phases[f].command = 0 ∧ t.pool.phases[f].faultHigh = true ∧
      cabinetFlagged .phaseOutOfService t ∧ t.headers = s.headers ∧ t.history = s.history ∧ t.alloc = s.alloc ∧ t.prot = s.prot ∧
      ∃ w, t = reformNeeds w ∧ w.pool.queue = s.pool.queue ∧ w.ports = s.ports ∧ w.pool.phases[f].state = .outOfService ∧
        ∀ g : Fin 16, g ≠ f → w.pool.phases[g] = s.pool.phases[g]) ∧
  (∀ (f : Fin 16) (s : State), exec (.phaseFault f false) s =
    .next (modPhase f (fun ph => { ph with faultHigh := false }) s)) ∧
  (∀ (iss : Issuer) (f : Fin 16) (s : State), s.pool.phases[f].state = .outOfService →
    s.pool.phases[f].faultHigh = false → exec (.setPhaseService iss f.val) s = .next (deliver iss 43
      (done (reformNeeds (modPhase f (fun ph => { ph with state := .free, command := 0 }) s))))) ∧
  (∀ (iss : Issuer) (f : Fin 16) (s : State), s.pool.phases[f].state = .outOfService →
    s.pool.phases[f].faultHigh = false → s.pool.queue = [] →
    exec (.setPhaseService iss f.val) s = .next (deliver iss 43
      (done (modPhase f (fun ph => { ph with state := .free, command := 0 }) s)))) ∧
  ∀ (iss : Issuer) (f : Fin 16) (s : State), s.pool.phases[f].state ≠ .outOfService ∨ s.pool.phases[f].faultHigh = true →
    exec (.setPhaseService iss f.val) s = .next (deliver iss 43 (refuse .badState s))) ∧
  ((∀ s : State, s.pool.queue = [] → serveQueue s = s) ∧
  (∀ (p : Fin 8) (n : Nat) (rest : List (Fin 8 × Nat)) (s : State), s.pool.queue = (p, n) :: rest →
    (freeCount s < n → serveQueue s = s) ∧
    (n ≤ freeCount s → ∃ u, serveQueue s = serveQueue u ∧ u.pool.queue = rest ∧ rampsOn u.ports[p] ∧
      u.ports[p].run.slew.map Slew.elapsed = some 0 ∧ u.ports[p].run.slew.map Slew.time = some s.alloc.rampTime ∧
      heldCount p u = heldCount p s + n ∧ freePhases u = (freePhases s).drop n ∧
      ∀ x : Fin 8, x ≠ p → u.ports[x] = s.ports[x] ∧ gang x u = gang x s)) ∧
  (∀ s : State, (serveQueue s).pool.queue = unserved (freeCount s) s.pool.queue) ∧
  ∀ s : State, (s.pool.queue.map Prod.fst).Nodup →
    let formed := s.pool.queue.map fun x =>
      (x.1, min ((s.ports[x.1].phases.need.map Need.raw).getD 0) (cap x.1 s) - heldCount x.1 s)
    (reformNeeds s).pool.queue = unserved (freeCount s) (formed.filter fun x => x.2 ≠ 0) ∧
    (∀ x ∈ formed, x.2 = 0 → rampsOn (reformNeeds s).ports[x.1] ∧ gang x.1 (reformNeeds s) = gang x.1 s) ∧
    (∀ x ∈ (reformNeeds s).pool.queue, (reformNeeds s).ports[x.1].run = s.ports[x.1].run ∧
      gang x.1 (reformNeeds s) = gang x.1 s ∧
      (reformNeeds s).ports[x.1].phases.need =
        s.ports[x.1].phases.need.map fun n => ⟨n.raw, min n.raw (cap x.1 s)⟩) ∧
    ∀ x ∈ formed, x.2 ≠ 0 → isQueued x.1 (reformNeeds s) = false →
      rampsOn (reformNeeds s).ports[x.1] ∧ heldCount x.1 (reformNeeds s) = heldCount x.1 s + x.2) ∧
  (∀ (f : Fin 16) (n : Nat) (s : State), s.pool.phases[f].activeHigh = true → s.pool.phases[f].watch = some n →
    exec (.activeLineFall f) s = .next (modPhase f (fun ph => { ph with
      activeHigh := false, watch := none, enabled := ph.enabled || phaseMayRise f s }) s)) ∧
  (∀ (f : Fin 16) (s : State), phaseMayRise f s = true ↔
    ∃ p : Fin 8, f ∈ gang p s ∧ isEnabledState s.ports[p].run.state = true) ∧
  (∀ (f : Fin 16) (s : State), s.pool.phases[f].watch = none →
    exec (.activeLineFall f) s = .next (modPhase f (fun ph => { ph with activeHigh := false }) s)) ∧
  (∀ (f : Fin 16) (s : State), s.pool.phases[f].enabled = true ∨ s.pool.phases[f].watch ≠ none →
    exec (.activeLineRise f) s = .next (modPhase f (fun ph => { ph with activeHigh := true }) s)) ∧
  (∀ (p : Fin 8) (s : State), isEnabledState s.ports[p].run.state = true →
    gang p (refreshEnables p s) = gang p s ∧ enablesRise p s (refreshEnables p s)) ∧
  ∀ (p : Fin 8) (s : State), isEnabledState s.ports[p].run.state = false →
    gang p (refreshEnables p s) = gang p s ∧ enablesFall p s (refreshEnables p s)

/-! ### Protection -/

/-- SET_LIMITS and LOCK_LIMITS: without the lock the five limits are replaced and every effective envelope is formed again;
LOCK_LIMITS is the hall's alone. Once the limit lock is set, the cabinet limits and the lock stand at every step until a
power-on reset. -/
def Obligations.LimitLockHolds : Prop :=
  ((∀ (iss : Issuer) (l : Limits) (s : State), exec (.setLimits iss l) s = .next (deliver iss 31
    (if s.prot.locked then refuse .locked s
     else if 1000000 < l.maxVoltage ∨ 320000 < l.maxCharge ∨ 320000 < l.maxDischarge ∨ l.maxTemp < -400 ∨ 1500 < l.maxTemp ∨
        320000 < l.maxPower then refuse .badField s
     else done { s with
       prot := { s.prot with limits := l }
       ports := s.ports.map fun q => { q with prot := { q.prot with
         effective := effectiveOf l q.prot.requested
         clamped := decide (effectiveOf l q.prot.requested ≠ q.prot.requested) } } }))) ∧
  (∀ (tag : Byte) (s : State), exec (.lockLimits (.hall tag)) s =
    .next (deliver (.hall tag) 32 (done { s with prot := { s.prot with locked := true } }))) ∧
  ∀ s : State, exec (.lockLimits .station) s = .next (deliver .station 32 (refuse .notOwner s))) ∧
  (∀ (s t : State), s.prot.locked = true → (∀ i rest, s.pending = i :: rest → isPowerOn i = false) → step s = .next t →
    t.prot.locked = true ∧ t.prot.limits = s.prot.limits)

/-- Every effective envelope stays the one its requested envelope and the cabinet limits give, at every step. The result queues,
the eviction queue and the cabinet fault log never hold more than their rules allow. -/
def Obligations.BoundsKept : Prop :=
  (∀ s t : State, EnvelopesFormed s → step s = .next t → EnvelopesFormed t) ∧
  (∀ s t : State, QueuesBounded s → step s = .next t → QueuesBounded t)

/-- A thermal switch that opens on a present pack sets the latch and faults the port, a run along the path of R49 with a result
record of reason FAULT and outcome FAULTED, an idle port by R50; a FAULTED port keeps its record and counts one fault more. On a
port without a pack only the level changes, and its closing leaves the latch. That the applied command is 0 mA from a fault on is
THE MODEL'S READING (log entry 31). That a fault in IDENTIFYING drops the serial read is THE MODEL'S READING too (log entry 16). -/
def Obligations.ThermalSwitch : Prop :=
  (∀ (p : Fin 8) (s : State), s.ports[p].prot.thermalOpen = false → s.ports[p].ident.present = true →
    s.ports[p].run.state ≠ .vacant → s.ports[p].run.state ≠ .faulted → s.ports[p].prot.fault = none →
    ∃ t r, exec (.thermalSwitch p) s = .next t ∧ t.ports[p].prot.thermalOpen = true ∧ t.ports[p].prot.thermalLatch = true ∧
      t.ports[p].run.state = .faulted ∧ t.ports[p].prot.fault = some r ∧ r.code = .thermalSwitch ∧ r.time = s.prot.time ∧
      r.portState = s.ports[p].run.state ∧ r.additional = 0 ∧ flagged p .fault t ∧ hasFaulted p .fault s t) ∧
  (∀ (p : Fin 8) (r : FaultRecord) (s : State), s.ports[p].prot.thermalOpen = false → s.ports[p].ident.present = true →
    s.ports[p].run.state = .faulted → s.ports[p].prot.fault = some r →
    exec (.thermalSwitch p) s = .next (modProt p (fun x => { x with
      thermalOpen := true, thermalLatch := true, fault := some { r with additional := min 255 (r.additional + 1) } }) s)) ∧
  (∀ (p : Fin 8) (s : State), s.ports[p].prot.thermalOpen = false → s.ports[p].ident.present = false →
    exec (.thermalSwitch p) s = .next (modProt p (fun x => { x with thermalOpen := true }) s)) ∧
  ∀ (p : Fin 8) (s : State),
    exec (.thermalSwitchClose p) s = .next (modProt p (fun x => { x with thermalOpen := false }) s)

/-- The door that opens holds every port with a current step, and bars runs: while it stands open START_RUN is refused BAD_STATE, and
so is RESUME_PORT of a port that it holds. The door that closes takes DOOR from every port's causes and leaves MASTER. -/
def Obligations.DoorHolds : Prop :=
  (∀ s : State, s.prot.doorOpen = false → ∃ t, exec .doorOpen s = .next t ∧ t.prot.doorOpen = true ∧
    (∀ p : Fin 8, hasStep s.ports[p].run.state = true →
      t.ports[p].run.causes.door = true ∧ t.ports[p].run.causes.master = true ∧
        (t.ports[p].run.state = .holding ∨ t.ports[p].run.state = .held)) ∧
    (∀ p : Fin 8, hasStep s.ports[p].run.state = false →
      t.ports[p].run.causes = s.ports[p].run.causes ∧ t.ports[p].run.state = s.ports[p].run.state) ∧
    t.headers = s.headers ∧
    (∀ (iss : Issuer) (p : Fin 8) (n : Fin 32) (i : Nat), t.ports[p].owner = ownerOf iss.master →
      exec (.startRun iss p.val n.val i) t = .next (deliver iss 9 (refuse .badState t))) ∧
    ∀ (iss : Issuer) (p : Fin 8), hasStep s.ports[p].run.state = true → t.ports[p].owner = ownerOf iss.master →
      exec (.resumePort iss p.val) t = .next (deliver iss 11 (refuse .badState t))) ∧
  (∀ (iss : Issuer) (p : Fin 8) (n : Fin 32) (i : Nat) (s : State), s.ports[p].owner = ownerOf iss.master →
    s.prot.doorOpen = true → exec (.startRun iss p.val n.val i) s = .next (deliver iss 9 (refuse .badState s))) ∧
  (∀ (iss : Issuer) (p : Fin 8) (s : State), s.ports[p].owner = ownerOf iss.master → s.ports[p].run.causes.door = true →
    exec (.resumePort iss p.val) s = .next (deliver iss 11 (refuse .badState s))) ∧
  ∀ s : State, exec .doorClose s = .next { s with
    prot := { s.prot with doorOpen := false }
    ports := s.ports.map fun q => { q with run := { q.run with causes := { q.run.causes with door := false } } } }

/-- CLOSE_CONTACTOR, its confirmation by the feedback and its expiry; OPEN_CONTACTOR with its opening watch. A feedback that closes
within an opening watch is taken by the watch; one that closes in the ms in which the closing expired falls within the opening watch
of that expiry, and the first such feedback or a CLOSE_CONTACTOR ends that (R188; how the model tells that ms is log entry 28). -/
def Obligations.ContactorMoves : Prop :=
  (∀ (iss : Issuer) (s : State), exec (.closeContactor iss) s = .next (deliver iss 37
    (if s.prot.cabinet = .normal ∧ s.prot.contactor = .opened ∧ s.prot.openingWatch = none ∧ s.prot.feedbackClosed = false
     then done { s with prot := { s.prot with
       drive := true, contactor := .closing, closingWatch := some 0, closingExpired := false } }
     else refuse .badState s))) ∧
  (∀ s : State, s.prot.contactor = .closing → s.prot.feedbackClosed = false →
    exec .feedbackClose s = .next { s with prot := { s.prot with
      feedbackClosed := true, contactor := .closed, closingWatch := none } }) ∧
  (∀ (s : State) (n : Nat), s.prot.closingWatch = some n → 200 ≤ n → s.prot.feedbackClosed = false →
    s.prot.log.length < 8 →
    exec .closingWatchExpiry s = .next { s with prot := { s.prot with
      drive := false, contactor := .opened, closingWatch := none, openingWatch := none, closingExpired := true
      log := s.prot.log ++ [⟨.contactorFault, none, s.prot.time, .noLockout⟩] } }) ∧
  (∀ (iss : Issuer) (s : State), (∀ p : Fin 8, barsOpening s.ports[p].run.state = false) → s.prot.contactor ≠ .opened →
    exec (.openContactor iss) s = .next (deliver iss 38 (done { s with prot := { s.prot with
      drive := false, contactor := .opened, closingWatch := none
      openingWatch := if s.prot.feedbackClosed then some 0 else none } }))) ∧
  (∀ (iss : Issuer) (p : Fin 8) (s : State), barsOpening s.ports[p].run.state = true →
    exec (.openContactor iss) s = .next (deliver iss 38 (refuse .badState s))) ∧
  (∀ s : State, s.prot.contactor = .opened → s.prot.feedbackClosed = true → s.prot.cabinet ≠ .waiting true →
    exec .feedbackOpen s = .next { s with prot := { s.prot with feedbackClosed := false, openingWatch := none } }) ∧
  ∀ s : State, s.prot.contactor = .opened → s.prot.feedbackClosed = false →
    (∀ n, s.prot.openingWatch = some n → exec .feedbackClose s = .next { s with prot := { s.prot with feedbackClosed := true } }) ∧
    (s.prot.openingWatch = none → s.prot.closingExpired = true →
      exec .feedbackClose s = .next { s with prot := { s.prot with
        feedbackClosed := true, openingWatch := some 0, closingExpired := false } })

/-- A lockout cause (an acknowledgement watch that expires, a disabled phase's active line that rises, an opening that is not
confirmed, a feedback that opens while CLOSED, one that closes while OPEN with no watch) in NORMAL enters lockout: every phase
disabled, the contactor OPEN with its drive off, its closing watch ended and an opening watch begun at 0 where the feedback still
reads CLOSED, every port of a run FAULTED with a LOCKOUT record, its step's result of that reason, outcome FAULTED and, with nothing
waiting for phases, the phases beyond its reserved count released; one more fault counted on a FAULTED port, idle ports as they
were, every unfolded set folded. In either case the cause is logged with its phase, the time and the effect, or counted as overflow,
LOCKOUT is set and the cooldown is 5,000 ms; in LOCKOUT that is all. That the applied command of a port is 0 mA from its fault on is
THE MODEL'S READING (log entry 31). -/
def Obligations.LockoutEntered : Prop :=
  ∀ (i : Instr) (s : State) (cause : LogCause) (phase : Option (Fin 16)),
    (∃ f n, i = .ackWatchExpiry f ∧ s.pool.phases[f].watch = some n ∧ 2 ≤ n ∧ cause = .disableAckFailure ∧ phase = some f) ∨
      (∃ f, i = .activeLineRise f ∧ s.pool.phases[f].activeHigh = false ∧ s.pool.phases[f].enabled = false ∧
        s.pool.phases[f].watch = none ∧ cause = .disableAckFailure ∧ phase = some f) ∨
      (∃ n, i = .openingWatchExpiry ∧ s.prot.openingWatch = some n ∧ 200 ≤ n ∧ cause = .contactorStuck ∧ phase = none) ∨
      (i = .feedbackOpen ∧ s.prot.contactor = .closed ∧ s.prot.feedbackClosed = true ∧ cause = .linkDropped ∧ phase = none) ∨
      (i = .feedbackClose ∧ s.prot.contactor = .opened ∧ s.prot.feedbackClosed = false ∧ s.prot.openingWatch = none ∧
        s.prot.closingExpired = false ∧ cause = .contactorStuck ∧ phase = none) →
    ∃ t, exec i s = .next t ∧ t.prot.cabinet = .cooldown 5000 ∧ cabinetFlagged .lockout t ∧
      (s.prot.log.length < 8 → t.prot.overflow = s.prot.overflow ∧ t.prot.log = s.prot.log ++ [⟨cause, phase, s.prot.time,
        if s.prot.cabinet = .normal then .lockoutEntered else .duringLockout⟩]) ∧
      (8 ≤ s.prot.log.length → t.prot.log = s.prot.log ∧ t.prot.overflow = min 65535 (s.prot.overflow + 1)) ∧
      (s.prot.cabinet = .normal →
        (∀ f : Fin 16, t.pool.phases[f].enabled = false) ∧ t.prot.contactor = .opened ∧
        (t.prot.feedbackClosed = true ↔ i = .feedbackClose ∨ (s.prot.feedbackClosed = true ∧ i ≠ .feedbackOpen)) ∧
        (s.prot.contactor ≠ .opened → t.prot.drive = false ∧ t.prot.closingWatch = none ∧
          t.prot.openingWatch = if t.prot.feedbackClosed then some 0 else none) ∧
        (s.prot.contactor = .opened → t.prot.drive = s.prot.drive ∧ t.prot.closingWatch = s.prot.closingWatch ∧
          t.prot.openingWatch = if i = .openingWatchExpiry then none else s.prot.openingWatch) ∧
        (∀ p : Fin 8, isBound s.ports[p].run.state = true → t.ports[p].run.state = .faulted ∧
          t.ports[p].run.program = none ∧ t.ports[p].run.applied = 0 ∧ flagged p .fault t ∧
          t.ports[p].run.outcome = .faulted ∧ t.ports[p].run.causes = .none ∧ t.ports[p].alloc.request = 0 ∧
          (hasStep s.ports[p].run.state = true → flagged p .stepEnd t ∧
            ∃ x, t.ports[p].results.getLast? = some x ∧ x.reason = .lockout) ∧
          (s.ports[p].run.state = .ending → t.ports[p].results = s.ports[p].results) ∧
          (s.pool.queue = [] → gang p t = (gang p s).take s.ports[p].phases.reserved ∧
            ((∀ f, i ≠ .ackWatchExpiry f) → enablesFall p s t)) ∧
          (s.ports[p].prot.fault = none → ∃ r, t.ports[p].prot.fault = some r ∧ r.code = .lockout)) ∧
        (∀ p : Fin 8, s.ports[p].run.state = .faulted → t.ports[p].run.state = .faulted ∧
          ∀ r, s.ports[p].prot.fault = some r →
            t.ports[p].prot.fault = some { r with additional := min 255 (r.additional + 1) }) ∧
        (∀ p : Fin 8, isIdle s.ports[p].run.state = true → t.ports[p].run.state = s.ports[p].run.state ∧
          t.ports[p].run.outcome = s.ports[p].run.outcome ∧ t.ports[p].prot = s.ports[p].prot) ∧
        ∀ p : Fin 8, s.ports[p].ident.bound ≠ none → t.ports[p].acct.unfolded = .cleared) ∧
      (s.prot.cabinet ≠ .normal → t.ports = s.ports ∧ t.history = s.history ∧ t.headers = s.headers)

/-- The end of a cooldown waits or restarts by the policy; CLEAR_LOCKOUT restarts a cabinet that waits with its feedback OPEN;
the feedback that opens restarts one that waits for it. That COOLDOWN_EXPIRY changes nothing where no cooldown is at 0 is THE MODEL'S
CHOICE (log entry 5). -/
def Obligations.LockoutEnds : Prop :=
  (∀ s : State, s.prot.cabinet = .cooldown 0 → exec .cooldownExpiry s = .next
    (match s.prot.policy with
     | .hold => { s with prot := { s.prot with cabinet := .waiting false } }
     | .restart => if s.prot.feedbackClosed then { s with prot := { s.prot with cabinet := .waiting true } }
       else internalRestart s)) ∧
  (∀ s : State, s.prot.cabinet ≠ .cooldown 0 → exec .cooldownExpiry s = .next s) ∧
  (∀ s : State, s.prot.contactor = .opened → s.prot.feedbackClosed = true → s.prot.cabinet = .waiting true →
    exec .feedbackOpen s = .next (internalRestart { s with prot := { s.prot with
      feedbackClosed := false, openingWatch := none } })) ∧
  (∀ (iss : Issuer) (b : Bool) (s : State), s.prot.cabinet = .waiting b → s.prot.feedbackClosed = false →
    exec (.clearLockout iss) s = .next (deliver iss 39 (done (internalRestart s)))) ∧
  (∀ (iss : Issuer) (s : State), s.prot.cabinet = .normal ∨ (∃ r, s.prot.cabinet = .cooldown r) ∨ s.prot.feedbackClosed = true →
    exec (.clearLockout iss) s = .next (deliver iss 39 (refuse .badState s)))

/-- The internal restart: NORMAL, the contactor OPEN, every port VACANT or on its way to identification with no entry bound and
no fault of before: every fault record erased with its count, every thermal latch clear, every trip filter 0, but for the port
whose pack is present with an OPEN thermal switch, which faults anew. Use counts are 0; limits, policy, log, owners, results,
programs and the chain are kept. -/
def Obligations.RestartKeeps : Prop :=
  ∀ s : State, let t := internalRestart s
    t.prot.cabinet = .normal ∧ t.prot.contactor = .opened ∧ t.prot.drive = false ∧ cabinetFlagged .restarted t ∧
    t.prot.limits = s.prot.limits ∧ t.prot.locked = s.prot.locked ∧ t.prot.policy = s.prot.policy ∧ t.prot.log = s.prot.log ∧
    t.prot.overflow = s.prot.overflow ∧
    t.prot.openingWatch = s.prot.openingWatch ∧ t.chain = s.chain ∧ t.history.waiting = [] ∧
    t.history.evictions = s.history.evictions ∧ t.alloc.inForce = s.alloc.inForce ∧
    (∀ n : Fin 32, t.headers[n] = { s.headers[n] with useCount := 0 }) ∧
    (∀ f : Fin 16, t.pool.phases[f].enabled = false ∧
      (s.pool.phases[f].state = .outOfService ↔ t.pool.phases[f].state = .outOfService)) ∧
    ∀ p : Fin 8, t.ports[p].owner = s.ports[p].owner ∧ t.ports[p].results = s.ports[p].results ∧
      t.ports[p].ident.bound = none ∧ t.ports[p].run.program = none ∧ t.ports[p].acct.run = .cleared ∧
      t.ports[p].alloc = .none ∧ t.ports[p].prot.requested = s.ports[p].prot.requested ∧
      t.ports[p].prot.effective = s.ports[p].prot.effective ∧ t.ports[p].prot.filters = Vector.replicate 6 0 ∧
      (s.ports[p].ident.present = false ∨ s.ports[p].prot.thermalOpen = false →
        t.ports[p].prot.fault = none ∧ t.ports[p].prot.thermalLatch = false) ∧
      (s.ports[p].ident.present = true → s.ports[p].prot.thermalOpen = true → t.ports[p].prot.thermalLatch = true ∧
        ∃ r, t.ports[p].prot.fault = some r ∧ r.code = .thermalSwitch ∧ r.portState = .identifying ∧ r.additional = 0) ∧
      t.ports[p].run.state = (if s.ports[p].ident.present then
        (if s.ports[p].prot.thermalOpen then .faulted else .identifying) else .vacant)

/-- CLEAR_FAULT_LOG empties the log and its count in every state, and READ_FAULT_LOG of an empty log without overflow is refused
EMPTY. A further cause of a lockout is the first entry of a cleared log. The bytes of an entry, with its phase as an optional field,
are THE MODEL'S CHOICE (log entry 15). -/
def Obligations.FaultLogCleared : Prop :=
  ∀ (iss : Issuer) (s : State),
    exec (.clearFaultLog iss) s = .next (deliver iss 42 (done { s with prot := { s.prot with log := [], overflow := 0 } })) ∧
    exec (.readFaultLog iss) s = .next (deliver iss 41
      (if s.prot.log = [] ∧ s.prot.overflow = 0 then refuse .empty s
       else answer (counted (s.prot.log.map logBytes) ++ u16 s.prot.overflow) s)) ∧
    ∀ (cause : LogCause) (phase : Option (Fin 16)), s.prot.log = [] → s.prot.cabinet ≠ .normal →
      (lockoutCause cause phase s).prot.log = [⟨cause, phase, s.prot.time, .duringLockout⟩]

/-! ### Attention -/

/-- CLEAR_ATTENTION clears the named flags of the issuer's own set, but EVICTION_PENDING stands while records wait; the other
master's set is not touched. SET_ATTENTION_MASK replaces the issuer's mask. PORT_TAKEN is not a flag of the hall. -/
def Obligations.AttentionChanges : Prop :=
  (∀ (iss : Issuer) (a : Attention) (s : State), ¬ (iss.master = .hall ∧ namesPortTaken a = true) →
    ∃ u, exec (.clearAttention iss a) s = .next (deliver iss 45 (answer (attentionBytes (attentionSet iss.master u)) u)) ∧
      u = setAttentionSet iss.master (attentionSet iss.master u) s ∧
      (∀ p : Fin 8, (attentionSet iss.master u).ports[p] = (attentionSet iss.master s).ports[p] &&& ~~~a.ports[p]) ∧
      (attentionSet iss.master u).cabinet = ((attentionSet iss.master s).cabinet &&& ~~~(a.cabinet &&& 0x3F)) |||
        (if a.cabinet &&& 0x02 ≠ 0 ∧ s.history.evictions ≠ [] then 0x02 else 0)) ∧
  (∀ (iss : Issuer) (a : Attention) (s : State), ¬ (iss.master = .hall ∧ namesPortTaken a = true) →
    exec (.setAttentionMask iss a) s =
      .next (deliver iss 46 (done (setMask iss.master { a with cabinet := a.cabinet &&& 0x3F } s)))) ∧
  ∀ (tag : Byte) (a : Attention) (s : State), namesPortTaken a = true →
    exec (.clearAttention (.hall tag) a) s = .next (deliver (.hall tag) 45 (refuse .badField s)) ∧
    exec (.setAttentionMask (.hall tag) a) s = .next (deliver (.hall tag) 46 (refuse .badField s))

/-! ### The hall chain -/

/-- A valid DISCOVER frame numbers a cabinet that has no number, and is forwarded with a pass answer by one that has; a renumber
frame drops or replaces the number and sends the drop form on. The first numbering, by either frame, starts the silence timer and
leaves UNLINKED for DISCOVERED with fewer than 8 link errors and for STALE, with the fallback budget and every line asserted, with more;
that the count is the one after the frame's own step of R190 is THE MODEL'S CHOICE (log entry 40). A later numbering keeps the chain
state and the silence timer. The drop form has no effect on a cabinet without a number but its count as a valid frame. -/
def Obligations.ChainNumbers : Prop :=
  (∀ (i : Instr) (f : List Byte) (s : State), discoverValid f = true → s.chain.state = .unlinked →
    (i = .discover f ∧ natAt f 2 1 = 0 ∧ s.chain.number = none) ∨ (i = .renumber f ∧ natAt f 2 1 = 1 ∧ 1 ≤ natAt f 1 1) →
    ∃ t, exec i s = .next t ∧ t.chain.number = some (natAt f 1 1) ∧ t.chain.downstream = true ∧ t.chain.last = true ∧
      t.chain.silence = some 0 ∧ t.chain.errors = (countValid s.chain).errors ∧ t.chain.live = s.chain.live ∧
      t.sent = s.sent ++ [.upstream (numberAnswer (natAt f 1 1))] ++
        (if natAt f 2 1 = 1 then [.downstream (discoverBytes 0 true)] else []) ∧
      ((countValid s.chain).errors < 8 → t.chain.state = .discovered ∧ t.alloc.source = s.alloc.source ∧
        t.alloc.inForce = s.alloc.inForce ∧ (s.chain.live = false → t.chain.asserted = 0 ∧ t.alloc = s.alloc)) ∧
      (8 ≤ (countValid s.chain).errors → t.chain.state = .stale ∧ t.chain.asserted = 0xFF ∧
        t.alloc.source = .fallback ∧ t.alloc.inForce = s.alloc.fallback ∧
        (s.alloc.source ≠ .fallback → cabinetFlagged .budgetSourceChanged t) ∧
        ∀ p : Fin 8, hasStep s.ports[p].run.state = true → s.ports[p].mask ≠ 0 → s.chain.asserted = 0 →
          t.ports[p].run.causes.interlock = true ∧ t.ports[p].run.causes.master = true)) ∧
  (∀ (f : List Byte) (s : State), discoverValid f = true → natAt f 2 1 = 0 → s.chain.number = none →
    s.chain.state ≠ .unlinked → exec (.discover f) s = .next { s with
      chain := { countValid s.chain with number := some (natAt f 1 1), downstream := true, last := true }
      sent := s.sent ++ [.upstream (numberAnswer (natAt f 1 1))] }) ∧
  (∀ (f : List Byte) (n : Nat) (s : State), discoverValid f = true → natAt f 2 1 = 0 → s.chain.number = some n →
    exec (.discover f) s = .next { s with
      chain := { countValid s.chain with answerWatch := some 0 }
      sent := s.sent ++ [.downstream f, .upstream passAnswer] }) ∧
  (∀ (f : List Byte) (s : State), discoverValid f = true → natAt f 2 1 = 1 → 1 ≤ natAt f 1 1 → s.chain.state ≠ .unlinked →
    exec (.renumber f) s = .next { s with
      chain := { countValid s.chain with number := some (natAt f 1 1), downstream := true, last := true }
      sent := s.sent ++ [.upstream (numberAnswer (natAt f 1 1)), .downstream (discoverBytes 0 true)] }) ∧
  (∀ (f : List Byte) (n : Nat) (s : State), discoverValid f = true → natAt f 2 1 = 1 → natAt f 1 1 = 0 →
    s.chain.number = some n →
    exec (.renumber f) s = .next { s with
      chain := { countValid s.chain with number := none, downstream := false, last := false, answerWatch := none }
      sent := s.sent ++ [.downstream (discoverBytes 0 true)] }) ∧
  (∀ (f : List Byte) (s : State), discoverValid f = true → natAt f 2 1 = 1 → natAt f 1 1 = 0 → s.chain.number = none →
    exec (.renumber f) s = .next { s with chain := countValid s.chain }) ∧
  ∀ c : Chain, (c.validRun + 1 = 16 → countValid c = { c with errors := c.errors - 1, validRun := 0 }) ∧
    (c.validRun + 1 ≠ 16 → countValid c = { c with validRun := c.validRun + 1 })

/-- A valid CYCLE frame taken by a numbered cabinet: forwarded, the silence timer at 0, live, its superframe, lines and entry
recorded (that the entry is recorded as clamped by R120 is log entry 18), the entry in force where the chain is DISCOVERED and the
asserted lines formed again. A change of source sets BUDGET_SOURCE_CHANGED and runs a round, a change of values alone runs one, and
no change runs none. A line newly asserted adds INTERLOCK and MASTER on the ports that mask it in and holds them, one round for each
that is HELD at once; a line no longer asserted takes INTERLOCK from them; programs, owners, results, the entries of a pack whose
port is not HELD by it and the protection unit stay. Then the report slot is formed of that state: with LAST set it goes up in an
upstream frame of its own, otherwise it waits for the list from below, and a pending response has gone into it. A slot that still
waits from the frame before is replaced by it unsent: THE MODEL'S CHOICE (log entry 19). The slot holds number and superframe, chain
state, error count, source, net grant, net measured power, the eight port states and the HALL summary, in the bytes of R214. Then
the command slot is taken: a repeated tag brings the last response again, a code without a command is answered UNKNOWN and a wrong
length FRAME_ERROR, and any other command is run for HALL. A port that has had no sample yet counts 0 W: THE MODEL'S CHOICE (log
entry 39). -/
def Obligations.CycleTaken : Prop :=
  (∀ (f : List Byte) (n : Nat) (s : State), cycleValid f = true → s.chain.number = some n →
    ∃ v u : State, exec (.cycleFrame f) s = .next (takeSlot f n u) ∧ v.sent = s.sent ++ [.downstream f] ∧ v.chain.silence = some 0 ∧
      v.chain.live = true ∧ v.chain.superframe = some (natAt f 1 2) ∧ v.chain.frameLines = some (f.getD 123 0) ∧
      v.chain.entry = some (entryIn f n) ∧ v.chain.asserted = assertedLines v.chain ∧ v.chain.number = some n ∧
      v.chain.lastTag = s.chain.lastTag ∧ v.chain.lastResponse = s.chain.lastResponse ∧
      v.chain.responsePending = s.chain.responsePending ∧
      v.chain.state = (if s.chain.state = .stale ∧ (countValid s.chain).errors = 0 then .discovered else s.chain.state) ∧
      (v.chain.state = .discovered → v.alloc.source = .hallLive ∧ v.alloc.inForce = entryIn f n) ∧
      (v.chain.state ≠ .discovered → v.alloc.source = s.alloc.source ∧ v.alloc.inForce = s.alloc.inForce) ∧
      (v.chain.state = .discovered → v.chain.asserted = f.getD 123 0) ∧ (v.chain.state = .stale → v.chain.asserted = 0xFF) ∧
      (let changes := v.chain.state = .discovered ∧ (s.alloc.source ≠ .hallLive ∨ s.alloc.inForce ≠ entryIn f n)
      let held := (List.finRange 8).countP fun p => heldAtOnce p s v
      (∀ p : Fin 8, linesHanded p s v) ∧
      (v.headers = s.headers ∧ v.prot = s.prot ∧ v.pending = s.pending ∧ v.history.recency = s.history.recency ∧
        v.history.waiting = s.history.waiting ∧ v.history.evictions = s.history.evictions ∧
        v.alloc.standalone = s.alloc.standalone ∧ v.alloc.fallback = s.alloc.fallback ∧
        v.alloc.rampTime = s.alloc.rampTime) ∧
      (held = 0 → v.history = s.history ∧ v.pool = s.pool) ∧
      (∀ e : Fin 64, (∀ p : Fin 8, heldAtOnce p s v = true → s.ports[p].ident.bound ≠ some e) →
        v.history.entries[e] = s.history.entries[e]) ∧
      (v.chain.state = .discovered → s.alloc.source ≠ .hallLive → cabinetFlagged .budgetSourceChanged v) ∧
      ((v.chain.state = .discovered → s.alloc.source = .hallLive) → held = 0 → v.cmd = s.cmd) ∧
      (changes ∨ held ≠ 0 → v.alloc.lastRound = ⟨v.alloc.inForce, sideTotal (imports (requests v)),
          sideTotal (exports (requests v)), (allocate v.alloc.inForce (requests v)).2⟩ ∧
        ∀ p : Fin 8, v.ports[p].alloc.grant = ((allocate v.alloc.inForce (requests v)).1).getD p.val 0) ∧
      (¬ changes → held = 0 → v.alloc = s.alloc ∧ ∀ p : Fin 8, v.ports[p].alloc = s.ports[p].alloc) ∧
      (changes → v.alloc.roundCount % 2 ^ 32 = (s.alloc.roundCount + 1 + held) % 2 ^ 32) ∧
      (¬ changes → v.alloc.roundCount % 2 ^ 32 = (s.alloc.roundCount + held) % 2 ^ 32)) ∧
      u = (if s.chain.last then
          { v with
            chain := { v.chain with responsePending := false, uplink := none }
            sent := v.sent ++ [.upstream (upstreamBytes false [reportSlot v])] }
        else { v with chain := { v.chain with responsePending := false, uplink := some ⟨reportSlot v, 0⟩ } })) ∧
  ((∀ (v : State) (tag : Byte) (r : Reply), v.chain.responsePending = true → v.chain.lastTag = some tag →
    v.chain.lastResponse = some r →
    (reportSlot v).drop 24 = [1, tag] ++ u8 (replyCodeCode r.code) ++ u8 (if r.clamped then 1 else 0) ++ u16 r.data.length
      ++ r.data) ∧
  (∀ v : State, v.chain.responsePending = false → (reportSlot v).drop 24 = List.replicate 6 0) ∧
  ∀ (v : State) (n k : Nat), v.chain.number = some n → v.chain.superframe = some k →
    (reportSlot v).take 14 = u8 n ++ u16 k
      ++ u8 (match v.chain.state with | .unlinked => 0 | .discovered => 1 | .stale => 2) ++ u8 v.chain.errors
      ++ u8 (match v.alloc.source with | .standalone => 0 | .hallLive => 1 | .fallback => 2)
      ++ i32 ((List.finRange 8).map fun p : Fin 8 => v.ports[p].alloc.grant).sum
      ++ i32 (((List.finRange 8).map fun p : Fin 8 =>
          ((latestSample v.ports[p]).voltage : Int) * (latestSample v.ports[p]).current).sum.tdiv 1000000) ∧
    (∀ p : Fin 8, (reportSlot v)[14 + p.val]? = some (BitVec.ofNat 8 (portStateCode v.ports[p].run.state))) ∧
    (∃ marks : Byte, (reportSlot v)[22]? = some marks ∧ ∀ p : Fin 8, marks.getLsbD p.val = true ↔
      v.cmd.hallSet.ports[p] &&& ~~~v.cmd.hallMask.ports[p] ≠ 0) ∧
    (reportSlot v)[23]? = some (v.cmd.hallSet.cabinet &&& ~~~v.cmd.hallMask.cabinet)) ∧
  (∀ (f : List Byte) (n : Nat) (u : State), natAt f 124 1 ≠ n → takeSlot f n u = u) ∧
  (∀ (f : List Byte) (n : Nat) (u : State), natAt f 124 1 = n → u.chain.lastTag = some (f.getD 125 0) →
    takeSlot f n u = { u with chain := { u.chain with responsePending := true } }) ∧
  ∀ (f : List Byte) (n : Nat) (u : State), natAt f 124 1 = n → u.chain.lastTag ≠ some (f.getD 125 0) →
    let tag := f.getD 125 0
    let code := natAt f 126 1
    let args := slice f 128 (natAt f 127 1)
    (code = 0 ∨ 47 ≤ code → takeSlot f n u = hallReply tag ⟨.unknown, false, []⟩ u) ∧
    (decodeCommand code args = .wrongLength → takeSlot f n u = hallReply tag ⟨.frameError, false, []⟩ u) ∧
    (1 ≤ code → code ≤ 46 → decodeCommand code args ≠ .unknown) ∧
    ∀ c : Command, decodeCommand code args = .command c →
      takeSlot f n u = hallReply tag (runCommand .hall c u).2 (runCommand .hall c u).1

/-- A frame that fails its checks raises the error count and takes a DISCOVERED chain to STALE at 8; so does 100 ms of silence.
A STALE chain has the fallback budget in force and asserts every line. That a well-formed frame of another type counts as a failed one
on the upstream side is THE MODEL'S CHOICE (log entry 18). -/
def Obligations.ChainGoesStale : Prop :=
  (∀ (f : List Byte) (s : State), discoverValid f = false → cycleValid f = false →
    ∃ t, exec (.chainFrameDiscard f) s = .next t ∧ t.chain.errors = min 255 (s.chain.errors + 1) ∧ t.chain.validRun = 0 ∧
      t.sent = s.sent ∧ t.chain.number = s.chain.number ∧
      (s.chain.state = .discovered → 7 ≤ s.chain.errors → t.chain.state = .stale ∧ t.chain.asserted = 0xFF ∧
        t.alloc.source = .fallback ∧ t.alloc.inForce = s.alloc.fallback) ∧
      (s.chain.state ≠ .discovered ∨ s.chain.errors < 7 → t.chain.state = s.chain.state ∧ t.alloc = s.alloc ∧
        t.ports = s.ports)) ∧
  ∀ (s : State) (n : Nat), s.chain.state = .discovered → s.chain.silence = some n → 100 ≤ n →
    ∃ t, exec .silenceTimeout s = .next t ∧ t.chain.state = .stale ∧ t.chain.asserted = 0xFF ∧
      t.alloc.source = .fallback ∧ t.alloc.inForce = s.alloc.fallback ∧ t.chain.number = s.chain.number ∧
      (s.alloc.source ≠ .fallback → cabinetFlagged .budgetSourceChanged t) ∧
      ∀ p : Fin 8, hasStep s.ports[p].run.state = true → s.ports[p].mask ≠ 0 → s.chain.asserted = 0 →
        t.ports[p].run.causes.interlock = true ∧ t.ports[p].run.causes.master = true

/-- An answer from below clears LAST and ends the watch, and a number answer goes on up; a watch at 10 ms sets LAST. The list from
below goes up with the report slot at its end; a list that has its 15 slots already, or 5 ms without one, sends the slot up behind a
break mark. That the slot goes up at 5 ms with LAST set or the number dropped meanwhile too is THE MODEL'S CHOICE (log entry 19). So
is that an upstream frame which comes when no slot waits, as a second one after the list of the same taking has gone up, has no
effect (log entry 41). -/
def Obligations.ChainAnswersAndReports : Prop :=
  (∀ (f : List Byte) (s : State), answerValid f = true → s.chain.downstream = true →
    exec (.answerFrame f) s = .next { s with
      chain := { s.chain with last := false, answerWatch := none }
      sent := if natAt f 1 1 = 1 then s.sent ++ [.upstream f] else s.sent }) ∧
  (∀ (f : List Byte) (s : State), answerValid f = false → exec (.answerFrame f) s = .next s) ∧
  (∀ (s : State) (n : Nat), s.chain.answerWatch = some n → 10 ≤ n →
    exec .answerWatchExpiry s = .next { s with chain := { s.chain with last := true, answerWatch := none } }) ∧
  (∀ (f : List Byte) (x : Uplink) (s : State), upstreamValid f = true → natAt f 2 1 < 15 → s.chain.uplink = some x →
    x.elapsed ≤ 5 → s.chain.last = false → s.chain.downstream = true →
    exec (.upstreamFrame f) s = .next { s with
      chain := { s.chain with uplink := none }
      sent := s.sent ++ [.upstream (withCrc (slice f 0 2 ++ u8 (natAt f 2 1 + 1) ++ slotBytesOf f ++ x.slot))] }) ∧
  (∀ (f : List Byte) (x : Uplink) (s : State), upstreamValid f = true → natAt f 2 1 = 15 → s.chain.uplink = some x →
    x.elapsed ≤ 5 → s.chain.last = false → s.chain.downstream = true →
    exec (.upstreamFrame f) s = .next { s with
      chain := { s.chain with uplink := none, breaks := min 65535 (s.chain.breaks + 1) }
      sent := s.sent ++ [.upstream (upstreamBytes true [x.slot])] }) ∧
  (∀ (f : List Byte) (s : State), s.chain.uplink = none ∨ s.chain.last = true ∨ upstreamValid f = false →
    exec (.upstreamFrame f) s = .next s) ∧
  ∀ (x : Uplink) (s : State), s.chain.uplink = some x → 5 ≤ x.elapsed →
    exec .upstreamWaitExpiry s = .next { s with
      chain := { s.chain with uplink := none, breaks := min 65535 (s.chain.breaks + 1) }
      sent := s.sent ++ [.upstream (upstreamBytes true [x.slot])] }
end

