-- ==== Sys2Proof/Laws/Bytes.lean ====
section
/-! SUPPORT. Numbers and their bytes, there and back, and the two kinds of check (R214, R215). -/

namespace Sys2Proof.Machine

/-- A number takes as many bytes as its field has. -/
@[simp] theorem length_bytesOf : ∀ k n : Nat, (bytesOf k n).length = k
  | 0, _ => rfl
  | k + 1, n => by simp [bytesOf, length_bytesOf k n]

/-- The bytes of a number spell it modulo the size of its field. -/
theorem natOf_bytesOf_mod : ∀ k n : Nat, natOf (bytesOf k n) = n % 256 ^ k
  | 0, n => by simp [bytesOf, natOf, Nat.mod_one]
  | k + 1, n => by
    have h : n % 256 ^ (k + 1) = n % 256 ^ k + 256 ^ k * (n / 256 ^ k % 256) := by
      rw [Nat.pow_succ, Nat.mod_mul]
    simp only [bytesOf, natOf, length_bytesOf, natOf_bytesOf_mod k n, BitVec.toNat_ofNat]
    rw [h, Nat.mul_comm, Nat.add_comm]

/-- A number that fits its field is read back from its bytes (R214). -/
theorem natOf_bytesOf {k n : Nat} (h : n < 256 ^ k) : natOf (bytesOf k n) = n := by
  rw [natOf_bytesOf_mod, Nat.mod_eq_of_lt h]

@[simp] theorem length_signedBytes (k : Nat) (i : Int) : (signedBytes k i).length = k := length_bytesOf k _

/-- A signed number that fits its field is read back from its bytes (R214). -/
theorem intOf_signedBytes {k : Nat} {i : Int} (h : fitsSigned k i = true) : intOf (signedBytes k i) = i := by
  simp only [fitsSigned, Bool.and_eq_true, decide_eq_true_eq] at h
  obtain ⟨hl, hu⟩ := h
  have hp : (0 : Int) < (256 ^ k : Nat) := by positivity
  have hm := Int.emod_nonneg i (ne_of_gt hp)
  have hlt := Int.emod_lt_of_pos i hp
  have e : natOf (signedBytes k i) = (i % (256 ^ k : Nat)).toNat := natOf_bytesOf (by omega)
  unfold intOf
  rw [e, length_signedBytes]
  have hd : i % (256 ^ k : Nat) = if 0 ≤ i then i else i + (256 ^ k : Nat) := by
    split
    · exact Int.emod_eq_of_lt ‹_› (by omega)
    · rw [← Int.add_emod_right, Int.emod_eq_of_lt (by omega) (by omega)]
  rw [hd]
  split <;> split <;> omega

/-! ### Checks -/

/-- A chain frame that carries its check passes it (R215). -/
theorem crcGood_withCrc {bs : List Byte} (h : 1 ≤ bs.length) : crcGood (withCrc bs) = true := by
  have hl : (withCrc bs).length = bs.length + 2 := by simp [withCrc, u16]
  have ht : (withCrc bs).take bs.length = bs := by simp [withCrc]
  have hd : (withCrc bs).drop bs.length = u16 (crc16 bs).toNat := by simp [withCrc]
  simp only [crcGood, hl, Nat.add_sub_cancel, ht, hd, decide_true, Bool.and_true, decide_eq_true_eq]
  omega

/-- A field inside the bytes reads the same under their check. -/
theorem natAt_withCrc {bs : List Byte} {off len : Nat} (h : off + len ≤ bs.length) : natAt (withCrc bs) off len = natAt bs off len := by
  simp only [natAt, slice, withCrc]
  rw [List.drop_append_of_le_length (by omega), List.take_append_of_le_length (by simp; omega)]

/-- Bytes with their check byte sum to 0 modulo 256 (R206). -/
theorem sumsToZero_withCheck (bs : List Byte) : sumsToZero (withCheck bs) = true := by
  simp only [sumsToZero, withCheck, checkByte, List.map_append, List.sum_append, List.map_cons, List.map_nil, List.sum_cons,
    List.sum_nil, BitVec.toNat_ofNat, decide_eq_true_eq]
  omega

end Sys2Proof.Machine
end

