-- ==== Sys2Proof/Laws/State.lean ====
section
/-! SUPPORT. What each update of the state gives and leaves: one lemma per field per update, so that no proof unfolds a record
update. The ports, headers, phases and entries an update reaches are told by index. -/

namespace Sys2Proof.Machine

variable (s : State)

/-! ### modPort -/

@[simp] theorem modPort_headers (p : Fin 8) (g : Port → Port) : (modPort p g s).headers = s.headers := rfl
@[simp] theorem modPort_history (p : Fin 8) (g : Port → Port) : (modPort p g s).history = s.history := rfl
@[simp] theorem modPort_alloc (p : Fin 8) (g : Port → Port) : (modPort p g s).alloc = s.alloc := rfl
@[simp] theorem modPort_pool (p : Fin 8) (g : Port → Port) : (modPort p g s).pool = s.pool := rfl
@[simp] theorem modPort_prot (p : Fin 8) (g : Port → Port) : (modPort p g s).prot = s.prot := rfl
@[simp] theorem modPort_chain (p : Fin 8) (g : Port → Port) : (modPort p g s).chain = s.chain := rfl
@[simp] theorem modPort_cmd (p : Fin 8) (g : Port → Port) : (modPort p g s).cmd = s.cmd := rfl
@[simp] theorem modPort_sent (p : Fin 8) (g : Port → Port) : (modPort p g s).sent = s.sent := rfl
@[simp] theorem modPort_instants (p : Fin 8) (g : Port → Port) : (modPort p g s).instants = s.instants := rfl
@[simp] theorem modPort_pending (p : Fin 8) (g : Port → Port) : (modPort p g s).pending = s.pending := rfl

/-! ### modRun -/

@[simp] theorem modRun_headers (p : Fin 8) (g : RunContext → RunContext) : (modRun p g s).headers = s.headers := rfl
@[simp] theorem modRun_history (p : Fin 8) (g : RunContext → RunContext) : (modRun p g s).history = s.history := rfl
@[simp] theorem modRun_alloc (p : Fin 8) (g : RunContext → RunContext) : (modRun p g s).alloc = s.alloc := rfl
@[simp] theorem modRun_pool (p : Fin 8) (g : RunContext → RunContext) : (modRun p g s).pool = s.pool := rfl
@[simp] theorem modRun_prot (p : Fin 8) (g : RunContext → RunContext) : (modRun p g s).prot = s.prot := rfl
@[simp] theorem modRun_chain (p : Fin 8) (g : RunContext → RunContext) : (modRun p g s).chain = s.chain := rfl
@[simp] theorem modRun_cmd (p : Fin 8) (g : RunContext → RunContext) : (modRun p g s).cmd = s.cmd := rfl
@[simp] theorem modRun_sent (p : Fin 8) (g : RunContext → RunContext) : (modRun p g s).sent = s.sent := rfl
@[simp] theorem modRun_instants (p : Fin 8) (g : RunContext → RunContext) : (modRun p g s).instants = s.instants := rfl
@[simp] theorem modRun_pending (p : Fin 8) (g : RunContext → RunContext) : (modRun p g s).pending = s.pending := rfl

/-! ### modIntake -/

@[simp] theorem modIntake_headers (p : Fin 8) (g : Intake → Intake) : (modIntake p g s).headers = s.headers := rfl
@[simp] theorem modIntake_history (p : Fin 8) (g : Intake → Intake) : (modIntake p g s).history = s.history := rfl
@[simp] theorem modIntake_alloc (p : Fin 8) (g : Intake → Intake) : (modIntake p g s).alloc = s.alloc := rfl
@[simp] theorem modIntake_pool (p : Fin 8) (g : Intake → Intake) : (modIntake p g s).pool = s.pool := rfl
@[simp] theorem modIntake_prot (p : Fin 8) (g : Intake → Intake) : (modIntake p g s).prot = s.prot := rfl
@[simp] theorem modIntake_chain (p : Fin 8) (g : Intake → Intake) : (modIntake p g s).chain = s.chain := rfl
@[simp] theorem modIntake_cmd (p : Fin 8) (g : Intake → Intake) : (modIntake p g s).cmd = s.cmd := rfl
@[simp] theorem modIntake_sent (p : Fin 8) (g : Intake → Intake) : (modIntake p g s).sent = s.sent := rfl
@[simp] theorem modIntake_instants (p : Fin 8) (g : Intake → Intake) : (modIntake p g s).instants = s.instants := rfl
@[simp] theorem modIntake_pending (p : Fin 8) (g : Intake → Intake) : (modIntake p g s).pending = s.pending := rfl

/-! ### modAcct -/

@[simp] theorem modAcct_headers (p : Fin 8) (g : Accounts → Accounts) : (modAcct p g s).headers = s.headers := rfl
@[simp] theorem modAcct_history (p : Fin 8) (g : Accounts → Accounts) : (modAcct p g s).history = s.history := rfl
@[simp] theorem modAcct_alloc (p : Fin 8) (g : Accounts → Accounts) : (modAcct p g s).alloc = s.alloc := rfl
@[simp] theorem modAcct_pool (p : Fin 8) (g : Accounts → Accounts) : (modAcct p g s).pool = s.pool := rfl
@[simp] theorem modAcct_prot (p : Fin 8) (g : Accounts → Accounts) : (modAcct p g s).prot = s.prot := rfl
@[simp] theorem modAcct_chain (p : Fin 8) (g : Accounts → Accounts) : (modAcct p g s).chain = s.chain := rfl
@[simp] theorem modAcct_cmd (p : Fin 8) (g : Accounts → Accounts) : (modAcct p g s).cmd = s.cmd := rfl
@[simp] theorem modAcct_sent (p : Fin 8) (g : Accounts → Accounts) : (modAcct p g s).sent = s.sent := rfl
@[simp] theorem modAcct_instants (p : Fin 8) (g : Accounts → Accounts) : (modAcct p g s).instants = s.instants := rfl
@[simp] theorem modAcct_pending (p : Fin 8) (g : Accounts → Accounts) : (modAcct p g s).pending = s.pending := rfl

/-! ### modIdent -/

@[simp] theorem modIdent_headers (p : Fin 8) (g : Ident → Ident) : (modIdent p g s).headers = s.headers := rfl
@[simp] theorem modIdent_history (p : Fin 8) (g : Ident → Ident) : (modIdent p g s).history = s.history := rfl
@[simp] theorem modIdent_alloc (p : Fin 8) (g : Ident → Ident) : (modIdent p g s).alloc = s.alloc := rfl
@[simp] theorem modIdent_pool (p : Fin 8) (g : Ident → Ident) : (modIdent p g s).pool = s.pool := rfl
@[simp] theorem modIdent_prot (p : Fin 8) (g : Ident → Ident) : (modIdent p g s).prot = s.prot := rfl
@[simp] theorem modIdent_chain (p : Fin 8) (g : Ident → Ident) : (modIdent p g s).chain = s.chain := rfl
@[simp] theorem modIdent_cmd (p : Fin 8) (g : Ident → Ident) : (modIdent p g s).cmd = s.cmd := rfl
@[simp] theorem modIdent_sent (p : Fin 8) (g : Ident → Ident) : (modIdent p g s).sent = s.sent := rfl
@[simp] theorem modIdent_instants (p : Fin 8) (g : Ident → Ident) : (modIdent p g s).instants = s.instants := rfl
@[simp] theorem modIdent_pending (p : Fin 8) (g : Ident → Ident) : (modIdent p g s).pending = s.pending := rfl

/-! ### modGrant -/

@[simp] theorem modGrant_headers (p : Fin 8) (g : GrantEntry → GrantEntry) : (modGrant p g s).headers = s.headers := rfl
@[simp] theorem modGrant_history (p : Fin 8) (g : GrantEntry → GrantEntry) : (modGrant p g s).history = s.history := rfl
@[simp] theorem modGrant_alloc (p : Fin 8) (g : GrantEntry → GrantEntry) : (modGrant p g s).alloc = s.alloc := rfl
@[simp] theorem modGrant_pool (p : Fin 8) (g : GrantEntry → GrantEntry) : (modGrant p g s).pool = s.pool := rfl
@[simp] theorem modGrant_prot (p : Fin 8) (g : GrantEntry → GrantEntry) : (modGrant p g s).prot = s.prot := rfl
@[simp] theorem modGrant_chain (p : Fin 8) (g : GrantEntry → GrantEntry) : (modGrant p g s).chain = s.chain := rfl
@[simp] theorem modGrant_cmd (p : Fin 8) (g : GrantEntry → GrantEntry) : (modGrant p g s).cmd = s.cmd := rfl
@[simp] theorem modGrant_sent (p : Fin 8) (g : GrantEntry → GrantEntry) : (modGrant p g s).sent = s.sent := rfl
@[simp] theorem modGrant_instants (p : Fin 8) (g : GrantEntry → GrantEntry) : (modGrant p g s).instants = s.instants := rfl
@[simp] theorem modGrant_pending (p : Fin 8) (g : GrantEntry → GrantEntry) : (modGrant p g s).pending = s.pending := rfl

/-! ### modProt -/

@[simp] theorem modProt_headers (p : Fin 8) (g : PortProtection → PortProtection) : (modProt p g s).headers = s.headers := rfl
@[simp] theorem modProt_history (p : Fin 8) (g : PortProtection → PortProtection) : (modProt p g s).history = s.history := rfl
@[simp] theorem modProt_alloc (p : Fin 8) (g : PortProtection → PortProtection) : (modProt p g s).alloc = s.alloc := rfl
@[simp] theorem modProt_pool (p : Fin 8) (g : PortProtection → PortProtection) : (modProt p g s).pool = s.pool := rfl
@[simp] theorem modProt_prot (p : Fin 8) (g : PortProtection → PortProtection) : (modProt p g s).prot = s.prot := rfl
@[simp] theorem modProt_chain (p : Fin 8) (g : PortProtection → PortProtection) : (modProt p g s).chain = s.chain := rfl
@[simp] theorem modProt_cmd (p : Fin 8) (g : PortProtection → PortProtection) : (modProt p g s).cmd = s.cmd := rfl
@[simp] theorem modProt_sent (p : Fin 8) (g : PortProtection → PortProtection) : (modProt p g s).sent = s.sent := rfl
@[simp] theorem modProt_instants (p : Fin 8) (g : PortProtection → PortProtection) : (modProt p g s).instants = s.instants := rfl
@[simp] theorem modProt_pending (p : Fin 8) (g : PortProtection → PortProtection) : (modProt p g s).pending = s.pending := rfl

/-! ### modPhase -/

@[simp] theorem modPhase_ports (f : Fin 16) (g : Phase → Phase) : (modPhase f g s).ports = s.ports := rfl
@[simp] theorem modPhase_headers (f : Fin 16) (g : Phase → Phase) : (modPhase f g s).headers = s.headers := rfl
@[simp] theorem modPhase_history (f : Fin 16) (g : Phase → Phase) : (modPhase f g s).history = s.history := rfl
@[simp] theorem modPhase_alloc (f : Fin 16) (g : Phase → Phase) : (modPhase f g s).alloc = s.alloc := rfl
@[simp] theorem modPhase_prot (f : Fin 16) (g : Phase → Phase) : (modPhase f g s).prot = s.prot := rfl
@[simp] theorem modPhase_chain (f : Fin 16) (g : Phase → Phase) : (modPhase f g s).chain = s.chain := rfl
@[simp] theorem modPhase_cmd (f : Fin 16) (g : Phase → Phase) : (modPhase f g s).cmd = s.cmd := rfl
@[simp] theorem modPhase_sent (f : Fin 16) (g : Phase → Phase) : (modPhase f g s).sent = s.sent := rfl
@[simp] theorem modPhase_instants (f : Fin 16) (g : Phase → Phase) : (modPhase f g s).instants = s.instants := rfl
@[simp] theorem modPhase_pending (f : Fin 16) (g : Phase → Phase) : (modPhase f g s).pending = s.pending := rfl

/-! ### modHeader -/

@[simp] theorem modHeader_ports (n : Fin 32) (g : Header → Header) : (modHeader n g s).ports = s.ports := rfl
@[simp] theorem modHeader_history (n : Fin 32) (g : Header → Header) : (modHeader n g s).history = s.history := rfl
@[simp] theorem modHeader_alloc (n : Fin 32) (g : Header → Header) : (modHeader n g s).alloc = s.alloc := rfl
@[simp] theorem modHeader_pool (n : Fin 32) (g : Header → Header) : (modHeader n g s).pool = s.pool := rfl
@[simp] theorem modHeader_prot (n : Fin 32) (g : Header → Header) : (modHeader n g s).prot = s.prot := rfl
@[simp] theorem modHeader_chain (n : Fin 32) (g : Header → Header) : (modHeader n g s).chain = s.chain := rfl
@[simp] theorem modHeader_cmd (n : Fin 32) (g : Header → Header) : (modHeader n g s).cmd = s.cmd := rfl
@[simp] theorem modHeader_sent (n : Fin 32) (g : Header → Header) : (modHeader n g s).sent = s.sent := rfl
@[simp] theorem modHeader_instants (n : Fin 32) (g : Header → Header) : (modHeader n g s).instants = s.instants := rfl
@[simp] theorem modHeader_pending (n : Fin 32) (g : Header → Header) : (modHeader n g s).pending = s.pending := rfl

/-! ### modEntry -/

@[simp] theorem modEntry_ports (e : Fin 64) (g : Option Entry → Option Entry) : (modEntry e g s).ports = s.ports := rfl
@[simp] theorem modEntry_headers (e : Fin 64) (g : Option Entry → Option Entry) : (modEntry e g s).headers = s.headers := rfl
@[simp] theorem modEntry_alloc (e : Fin 64) (g : Option Entry → Option Entry) : (modEntry e g s).alloc = s.alloc := rfl
@[simp] theorem modEntry_pool (e : Fin 64) (g : Option Entry → Option Entry) : (modEntry e g s).pool = s.pool := rfl
@[simp] theorem modEntry_prot (e : Fin 64) (g : Option Entry → Option Entry) : (modEntry e g s).prot = s.prot := rfl
@[simp] theorem modEntry_chain (e : Fin 64) (g : Option Entry → Option Entry) : (modEntry e g s).chain = s.chain := rfl
@[simp] theorem modEntry_cmd (e : Fin 64) (g : Option Entry → Option Entry) : (modEntry e g s).cmd = s.cmd := rfl
@[simp] theorem modEntry_sent (e : Fin 64) (g : Option Entry → Option Entry) : (modEntry e g s).sent = s.sent := rfl
@[simp] theorem modEntry_instants (e : Fin 64) (g : Option Entry → Option Entry) : (modEntry e g s).instants = s.instants := rfl
@[simp] theorem modEntry_pending (e : Fin 64) (g : Option Entry → Option Entry) : (modEntry e g s).pending = s.pending := rfl

/-! ### modChain -/

@[simp] theorem modChain_ports (g : Chain → Chain) : (modChain g s).ports = s.ports := rfl
@[simp] theorem modChain_headers (g : Chain → Chain) : (modChain g s).headers = s.headers := rfl
@[simp] theorem modChain_history (g : Chain → Chain) : (modChain g s).history = s.history := rfl
@[simp] theorem modChain_alloc (g : Chain → Chain) : (modChain g s).alloc = s.alloc := rfl
@[simp] theorem modChain_pool (g : Chain → Chain) : (modChain g s).pool = s.pool := rfl
@[simp] theorem modChain_prot (g : Chain → Chain) : (modChain g s).prot = s.prot := rfl
@[simp] theorem modChain_cmd (g : Chain → Chain) : (modChain g s).cmd = s.cmd := rfl
@[simp] theorem modChain_sent (g : Chain → Chain) : (modChain g s).sent = s.sent := rfl
@[simp] theorem modChain_instants (g : Chain → Chain) : (modChain g s).instants = s.instants := rfl
@[simp] theorem modChain_pending (g : Chain → Chain) : (modChain g s).pending = s.pending := rfl

/-! ### send -/

@[simp] theorem send_ports (x : Sent) : (send x s).ports = s.ports := rfl
@[simp] theorem send_headers (x : Sent) : (send x s).headers = s.headers := rfl
@[simp] theorem send_history (x : Sent) : (send x s).history = s.history := rfl
@[simp] theorem send_alloc (x : Sent) : (send x s).alloc = s.alloc := rfl
@[simp] theorem send_pool (x : Sent) : (send x s).pool = s.pool := rfl
@[simp] theorem send_prot (x : Sent) : (send x s).prot = s.prot := rfl
@[simp] theorem send_chain (x : Sent) : (send x s).chain = s.chain := rfl
@[simp] theorem send_cmd (x : Sent) : (send x s).cmd = s.cmd := rfl
@[simp] theorem send_instants (x : Sent) : (send x s).instants = s.instants := rfl
@[simp] theorem send_pending (x : Sent) : (send x s).pending = s.pending := rfl

/-! ### raisePort -/

@[simp] theorem raisePort_ports (f : PortFlag) (p : Fin 8) : (raisePort f p s).ports = s.ports := rfl
@[simp] theorem raisePort_headers (f : PortFlag) (p : Fin 8) : (raisePort f p s).headers = s.headers := rfl
@[simp] theorem raisePort_history (f : PortFlag) (p : Fin 8) : (raisePort f p s).history = s.history := rfl
@[simp] theorem raisePort_alloc (f : PortFlag) (p : Fin 8) : (raisePort f p s).alloc = s.alloc := rfl
@[simp] theorem raisePort_pool (f : PortFlag) (p : Fin 8) : (raisePort f p s).pool = s.pool := rfl
@[simp] theorem raisePort_prot (f : PortFlag) (p : Fin 8) : (raisePort f p s).prot = s.prot := rfl
@[simp] theorem raisePort_chain (f : PortFlag) (p : Fin 8) : (raisePort f p s).chain = s.chain := rfl
@[simp] theorem raisePort_sent (f : PortFlag) (p : Fin 8) : (raisePort f p s).sent = s.sent := rfl
@[simp] theorem raisePort_instants (f : PortFlag) (p : Fin 8) : (raisePort f p s).instants = s.instants := rfl
@[simp] theorem raisePort_pending (f : PortFlag) (p : Fin 8) : (raisePort f p s).pending = s.pending := rfl

/-! ### raiseCabinet -/

@[simp] theorem raiseCabinet_ports (f : CabinetFlag) : (raiseCabinet f s).ports = s.ports := rfl
@[simp] theorem raiseCabinet_headers (f : CabinetFlag) : (raiseCabinet f s).headers = s.headers := rfl
@[simp] theorem raiseCabinet_history (f : CabinetFlag) : (raiseCabinet f s).history = s.history := rfl
@[simp] theorem raiseCabinet_alloc (f : CabinetFlag) : (raiseCabinet f s).alloc = s.alloc := rfl
@[simp] theorem raiseCabinet_pool (f : CabinetFlag) : (raiseCabinet f s).pool = s.pool := rfl
@[simp] theorem raiseCabinet_prot (f : CabinetFlag) : (raiseCabinet f s).prot = s.prot := rfl
@[simp] theorem raiseCabinet_chain (f : CabinetFlag) : (raiseCabinet f s).chain = s.chain := rfl
@[simp] theorem raiseCabinet_sent (f : CabinetFlag) : (raiseCabinet f s).sent = s.sent := rfl
@[simp] theorem raiseCabinet_instants (f : CabinetFlag) : (raiseCabinet f s).instants = s.instants := rfl
@[simp] theorem raiseCabinet_pending (f : CabinetFlag) : (raiseCabinet f s).pending = s.pending := rfl

/-! ### raisePortTaken -/

@[simp] theorem raisePortTaken_ports (p : Fin 8) : (raisePortTaken p s).ports = s.ports := rfl
@[simp] theorem raisePortTaken_headers (p : Fin 8) : (raisePortTaken p s).headers = s.headers := rfl
@[simp] theorem raisePortTaken_history (p : Fin 8) : (raisePortTaken p s).history = s.history := rfl
@[simp] theorem raisePortTaken_alloc (p : Fin 8) : (raisePortTaken p s).alloc = s.alloc := rfl
@[simp] theorem raisePortTaken_pool (p : Fin 8) : (raisePortTaken p s).pool = s.pool := rfl
@[simp] theorem raisePortTaken_prot (p : Fin 8) : (raisePortTaken p s).prot = s.prot := rfl
@[simp] theorem raisePortTaken_chain (p : Fin 8) : (raisePortTaken p s).chain = s.chain := rfl
@[simp] theorem raisePortTaken_sent (p : Fin 8) : (raisePortTaken p s).sent = s.sent := rfl
@[simp] theorem raisePortTaken_instants (p : Fin 8) : (raisePortTaken p s).instants = s.instants := rfl
@[simp] theorem raisePortTaken_pending (p : Fin 8) : (raisePortTaken p s).pending = s.pending := rfl

/-! ### stationReply -/

@[simp] theorem stationReply_ports (code : Nat) (r : Reply) : (stationReply code r s).ports = s.ports := rfl
@[simp] theorem stationReply_headers (code : Nat) (r : Reply) : (stationReply code r s).headers = s.headers := rfl
@[simp] theorem stationReply_history (code : Nat) (r : Reply) : (stationReply code r s).history = s.history := rfl
@[simp] theorem stationReply_alloc (code : Nat) (r : Reply) : (stationReply code r s).alloc = s.alloc := rfl
@[simp] theorem stationReply_pool (code : Nat) (r : Reply) : (stationReply code r s).pool = s.pool := rfl
@[simp] theorem stationReply_prot (code : Nat) (r : Reply) : (stationReply code r s).prot = s.prot := rfl
@[simp] theorem stationReply_chain (code : Nat) (r : Reply) : (stationReply code r s).chain = s.chain := rfl
@[simp] theorem stationReply_sent (code : Nat) (r : Reply) : (stationReply code r s).sent = s.sent := rfl
@[simp] theorem stationReply_instants (code : Nat) (r : Reply) : (stationReply code r s).instants = s.instants := rfl
@[simp] theorem stationReply_pending (code : Nat) (r : Reply) : (stationReply code r s).pending = s.pending := rfl

/-! ### hallReply -/

@[simp] theorem hallReply_ports (tag : Byte) (r : Reply) : (hallReply tag r s).ports = s.ports := rfl
@[simp] theorem hallReply_headers (tag : Byte) (r : Reply) : (hallReply tag r s).headers = s.headers := rfl
@[simp] theorem hallReply_history (tag : Byte) (r : Reply) : (hallReply tag r s).history = s.history := rfl
@[simp] theorem hallReply_alloc (tag : Byte) (r : Reply) : (hallReply tag r s).alloc = s.alloc := rfl
@[simp] theorem hallReply_pool (tag : Byte) (r : Reply) : (hallReply tag r s).pool = s.pool := rfl
@[simp] theorem hallReply_prot (tag : Byte) (r : Reply) : (hallReply tag r s).prot = s.prot := rfl
@[simp] theorem hallReply_cmd (tag : Byte) (r : Reply) : (hallReply tag r s).cmd = s.cmd := rfl
@[simp] theorem hallReply_sent (tag : Byte) (r : Reply) : (hallReply tag r s).sent = s.sent := rfl
@[simp] theorem hallReply_instants (tag : Byte) (r : Reply) : (hallReply tag r s).instants = s.instants := rfl
@[simp] theorem hallReply_pending (tag : Byte) (r : Reply) : (hallReply tag r s).pending = s.pending := rfl

/-! ### restartSettle -/

@[simp] theorem restartSettle_headers (p : Fin 8) : (restartSettle p s).headers = s.headers := rfl
@[simp] theorem restartSettle_history (p : Fin 8) : (restartSettle p s).history = s.history := rfl
@[simp] theorem restartSettle_alloc (p : Fin 8) : (restartSettle p s).alloc = s.alloc := rfl
@[simp] theorem restartSettle_pool (p : Fin 8) : (restartSettle p s).pool = s.pool := rfl
@[simp] theorem restartSettle_prot (p : Fin 8) : (restartSettle p s).prot = s.prot := rfl
@[simp] theorem restartSettle_chain (p : Fin 8) : (restartSettle p s).chain = s.chain := rfl
@[simp] theorem restartSettle_cmd (p : Fin 8) : (restartSettle p s).cmd = s.cmd := rfl
@[simp] theorem restartSettle_sent (p : Fin 8) : (restartSettle p s).sent = s.sent := rfl
@[simp] theorem restartSettle_instants (p : Fin 8) : (restartSettle p s).instants = s.instants := rfl
@[simp] theorem restartSettle_pending (p : Fin 8) : (restartSettle p s).pending = s.pending := rfl

/-! ### discardCapture -/

@[simp] theorem discardCapture_headers (p : Fin 8) : (discardCapture p s).headers = s.headers := rfl
@[simp] theorem discardCapture_history (p : Fin 8) : (discardCapture p s).history = s.history := rfl
@[simp] theorem discardCapture_alloc (p : Fin 8) : (discardCapture p s).alloc = s.alloc := rfl
@[simp] theorem discardCapture_pool (p : Fin 8) : (discardCapture p s).pool = s.pool := rfl
@[simp] theorem discardCapture_prot (p : Fin 8) : (discardCapture p s).prot = s.prot := rfl
@[simp] theorem discardCapture_chain (p : Fin 8) : (discardCapture p s).chain = s.chain := rfl
@[simp] theorem discardCapture_cmd (p : Fin 8) : (discardCapture p s).cmd = s.cmd := rfl
@[simp] theorem discardCapture_sent (p : Fin 8) : (discardCapture p s).sent = s.sent := rfl
@[simp] theorem discardCapture_instants (p : Fin 8) : (discardCapture p s).instants = s.instants := rfl
@[simp] theorem discardCapture_pending (p : Fin 8) : (discardCapture p s).pending = s.pending := rfl

/-! ### touch -/

@[simp] theorem touch_ports (e : Fin 64) : (touch e s).ports = s.ports := rfl
@[simp] theorem touch_headers (e : Fin 64) : (touch e s).headers = s.headers := rfl
@[simp] theorem touch_alloc (e : Fin 64) : (touch e s).alloc = s.alloc := rfl
@[simp] theorem touch_pool (e : Fin 64) : (touch e s).pool = s.pool := rfl
@[simp] theorem touch_prot (e : Fin 64) : (touch e s).prot = s.prot := rfl
@[simp] theorem touch_chain (e : Fin 64) : (touch e s).chain = s.chain := rfl
@[simp] theorem touch_cmd (e : Fin 64) : (touch e s).cmd = s.cmd := rfl
@[simp] theorem touch_sent (e : Fin 64) : (touch e s).sent = s.sent := rfl
@[simp] theorem touch_instants (e : Fin 64) : (touch e s).instants = s.instants := rfl
@[simp] theorem touch_pending (e : Fin 64) : (touch e s).pending = s.pending := rfl

/-! ### writeFault -/

@[simp] theorem writeFault_headers (p : Fin 8) (code : FaultCode) : (writeFault p code s).headers = s.headers := rfl
@[simp] theorem writeFault_history (p : Fin 8) (code : FaultCode) : (writeFault p code s).history = s.history := rfl
@[simp] theorem writeFault_alloc (p : Fin 8) (code : FaultCode) : (writeFault p code s).alloc = s.alloc := rfl
@[simp] theorem writeFault_pool (p : Fin 8) (code : FaultCode) : (writeFault p code s).pool = s.pool := rfl
@[simp] theorem writeFault_prot (p : Fin 8) (code : FaultCode) : (writeFault p code s).prot = s.prot := rfl
@[simp] theorem writeFault_chain (p : Fin 8) (code : FaultCode) : (writeFault p code s).chain = s.chain := rfl
@[simp] theorem writeFault_cmd (p : Fin 8) (code : FaultCode) : (writeFault p code s).cmd = s.cmd := rfl
@[simp] theorem writeFault_sent (p : Fin 8) (code : FaultCode) : (writeFault p code s).sent = s.sent := rfl
@[simp] theorem writeFault_instants (p : Fin 8) (code : FaultCode) : (writeFault p code s).instants = s.instants := rfl
@[simp] theorem writeFault_pending (p : Fin 8) (code : FaultCode) : (writeFault p code s).pending = s.pending := rfl

/-! ### startDrain -/

@[simp] theorem startDrain_headers (p : Fin 8) : (startDrain p s).headers = s.headers := rfl
@[simp] theorem startDrain_history (p : Fin 8) : (startDrain p s).history = s.history := rfl
@[simp] theorem startDrain_alloc (p : Fin 8) : (startDrain p s).alloc = s.alloc := rfl
@[simp] theorem startDrain_pool (p : Fin 8) : (startDrain p s).pool = s.pool := rfl
@[simp] theorem startDrain_prot (p : Fin 8) : (startDrain p s).prot = s.prot := rfl
@[simp] theorem startDrain_chain (p : Fin 8) : (startDrain p s).chain = s.chain := rfl
@[simp] theorem startDrain_cmd (p : Fin 8) : (startDrain p s).cmd = s.cmd := rfl
@[simp] theorem startDrain_sent (p : Fin 8) : (startDrain p s).sent = s.sent := rfl
@[simp] theorem startDrain_instants (p : Fin 8) : (startDrain p s).instants = s.instants := rfl
@[simp] theorem startDrain_pending (p : Fin 8) : (startDrain p s).pending = s.pending := rfl

/-! ### setBounds -/

@[simp] theorem setBounds_headers (p : Fin 8) (b : Bounds) : (setBounds p b s).headers = s.headers := rfl
@[simp] theorem setBounds_history (p : Fin 8) (b : Bounds) : (setBounds p b s).history = s.history := rfl
@[simp] theorem setBounds_alloc (p : Fin 8) (b : Bounds) : (setBounds p b s).alloc = s.alloc := rfl
@[simp] theorem setBounds_pool (p : Fin 8) (b : Bounds) : (setBounds p b s).pool = s.pool := rfl
@[simp] theorem setBounds_prot (p : Fin 8) (b : Bounds) : (setBounds p b s).prot = s.prot := rfl
@[simp] theorem setBounds_chain (p : Fin 8) (b : Bounds) : (setBounds p b s).chain = s.chain := rfl
@[simp] theorem setBounds_cmd (p : Fin 8) (b : Bounds) : (setBounds p b s).cmd = s.cmd := rfl
@[simp] theorem setBounds_sent (p : Fin 8) (b : Bounds) : (setBounds p b s).sent = s.sent := rfl
@[simp] theorem setBounds_instants (p : Fin 8) (b : Bounds) : (setBounds p b s).instants = s.instants := rfl
@[simp] theorem setBounds_pending (p : Fin 8) (b : Bounds) : (setBounds p b s).pending = s.pending := rfl

/-! ### accountSample -/

@[simp] theorem accountSample_headers (p : Fin 8) (v : Sample) : (accountSample p v s).headers = s.headers := rfl
@[simp] theorem accountSample_history (p : Fin 8) (v : Sample) : (accountSample p v s).history = s.history := rfl
@[simp] theorem accountSample_alloc (p : Fin 8) (v : Sample) : (accountSample p v s).alloc = s.alloc := rfl
@[simp] theorem accountSample_pool (p : Fin 8) (v : Sample) : (accountSample p v s).pool = s.pool := rfl
@[simp] theorem accountSample_prot (p : Fin 8) (v : Sample) : (accountSample p v s).prot = s.prot := rfl
@[simp] theorem accountSample_chain (p : Fin 8) (v : Sample) : (accountSample p v s).chain = s.chain := rfl
@[simp] theorem accountSample_cmd (p : Fin 8) (v : Sample) : (accountSample p v s).cmd = s.cmd := rfl
@[simp] theorem accountSample_sent (p : Fin 8) (v : Sample) : (accountSample p v s).sent = s.sent := rfl
@[simp] theorem accountSample_instants (p : Fin 8) (v : Sample) : (accountSample p v s).instants = s.instants := rfl
@[simp] theorem accountSample_pending (p : Fin 8) (v : Sample) : (accountSample p v s).pending = s.pending := rfl

/-! ### setOwner -/

@[simp] theorem setOwner_headers (p : Fin 8) (o : Owner) : (setOwner p o s).headers = s.headers := rfl
@[simp] theorem setOwner_history (p : Fin 8) (o : Owner) : (setOwner p o s).history = s.history := rfl
@[simp] theorem setOwner_alloc (p : Fin 8) (o : Owner) : (setOwner p o s).alloc = s.alloc := rfl
@[simp] theorem setOwner_pool (p : Fin 8) (o : Owner) : (setOwner p o s).pool = s.pool := rfl
@[simp] theorem setOwner_prot (p : Fin 8) (o : Owner) : (setOwner p o s).prot = s.prot := rfl
@[simp] theorem setOwner_chain (p : Fin 8) (o : Owner) : (setOwner p o s).chain = s.chain := rfl
@[simp] theorem setOwner_cmd (p : Fin 8) (o : Owner) : (setOwner p o s).cmd = s.cmd := rfl
@[simp] theorem setOwner_sent (p : Fin 8) (o : Owner) : (setOwner p o s).sent = s.sent := rfl
@[simp] theorem setOwner_instants (p : Fin 8) (o : Owner) : (setOwner p o s).instants = s.instants := rfl
@[simp] theorem setOwner_pending (p : Fin 8) (o : Owner) : (setOwner p o s).pending = s.pending := rfl

/-! ### toVacant -/

@[simp] theorem toVacant_headers (p : Fin 8) : (toVacant p s).headers = s.headers := rfl
@[simp] theorem toVacant_history (p : Fin 8) : (toVacant p s).history = s.history := rfl
@[simp] theorem toVacant_alloc (p : Fin 8) : (toVacant p s).alloc = s.alloc := rfl
@[simp] theorem toVacant_pool (p : Fin 8) : (toVacant p s).pool = s.pool := rfl
@[simp] theorem toVacant_prot (p : Fin 8) : (toVacant p s).prot = s.prot := rfl
@[simp] theorem toVacant_chain (p : Fin 8) : (toVacant p s).chain = s.chain := rfl
@[simp] theorem toVacant_cmd (p : Fin 8) : (toVacant p s).cmd = s.cmd := rfl
@[simp] theorem toVacant_sent (p : Fin 8) : (toVacant p s).sent = s.sent := rfl
@[simp] theorem toVacant_instants (p : Fin 8) : (toVacant p s).instants = s.instants := rfl
@[simp] theorem toVacant_pending (p : Fin 8) : (toVacant p s).pending = s.pending := rfl

/-! ### unidentified -/

@[simp] theorem unidentified_headers (p : Fin 8) (why : IdFailure) : (unidentified p why s).headers = s.headers := rfl
@[simp] theorem unidentified_history (p : Fin 8) (why : IdFailure) : (unidentified p why s).history = s.history := rfl
@[simp] theorem unidentified_alloc (p : Fin 8) (why : IdFailure) : (unidentified p why s).alloc = s.alloc := rfl
@[simp] theorem unidentified_pool (p : Fin 8) (why : IdFailure) : (unidentified p why s).pool = s.pool := rfl
@[simp] theorem unidentified_prot (p : Fin 8) (why : IdFailure) : (unidentified p why s).prot = s.prot := rfl
@[simp] theorem unidentified_chain (p : Fin 8) (why : IdFailure) : (unidentified p why s).chain = s.chain := rfl
@[simp] theorem unidentified_cmd (p : Fin 8) (why : IdFailure) : (unidentified p why s).cmd = s.cmd := rfl
@[simp] theorem unidentified_sent (p : Fin 8) (why : IdFailure) : (unidentified p why s).sent = s.sent := rfl
@[simp] theorem unidentified_instants (p : Fin 8) (why : IdFailure) : (unidentified p why s).instants = s.instants := rfl
@[simp] theorem unidentified_pending (p : Fin 8) (why : IdFailure) : (unidentified p why s).pending = s.pending := rfl

/-! ### disablePhase -/

@[simp] theorem disablePhase_ports (f : Fin 16) : (disablePhase f s).ports = s.ports := rfl
@[simp] theorem disablePhase_headers (f : Fin 16) : (disablePhase f s).headers = s.headers := rfl
@[simp] theorem disablePhase_history (f : Fin 16) : (disablePhase f s).history = s.history := rfl
@[simp] theorem disablePhase_alloc (f : Fin 16) : (disablePhase f s).alloc = s.alloc := rfl
@[simp] theorem disablePhase_prot (f : Fin 16) : (disablePhase f s).prot = s.prot := rfl
@[simp] theorem disablePhase_chain (f : Fin 16) : (disablePhase f s).chain = s.chain := rfl
@[simp] theorem disablePhase_cmd (f : Fin 16) : (disablePhase f s).cmd = s.cmd := rfl
@[simp] theorem disablePhase_sent (f : Fin 16) : (disablePhase f s).sent = s.sent := rfl
@[simp] theorem disablePhase_instants (f : Fin 16) : (disablePhase f s).instants = s.instants := rfl
@[simp] theorem disablePhase_pending (f : Fin 16) : (disablePhase f s).pending = s.pending := rfl

/-! ### meetNeed -/

@[simp] theorem meetNeed_headers (p : Fin 8) : (meetNeed p s).headers = s.headers := rfl
@[simp] theorem meetNeed_history (p : Fin 8) : (meetNeed p s).history = s.history := rfl
@[simp] theorem meetNeed_alloc (p : Fin 8) : (meetNeed p s).alloc = s.alloc := rfl
@[simp] theorem meetNeed_pool (p : Fin 8) : (meetNeed p s).pool = s.pool := rfl
@[simp] theorem meetNeed_prot (p : Fin 8) : (meetNeed p s).prot = s.prot := rfl
@[simp] theorem meetNeed_chain (p : Fin 8) : (meetNeed p s).chain = s.chain := rfl
@[simp] theorem meetNeed_cmd (p : Fin 8) : (meetNeed p s).cmd = s.cmd := rfl
@[simp] theorem meetNeed_sent (p : Fin 8) : (meetNeed p s).sent = s.sent := rfl
@[simp] theorem meetNeed_instants (p : Fin 8) : (meetNeed p s).instants = s.instants := rfl
@[simp] theorem meetNeed_pending (p : Fin 8) : (meetNeed p s).pending = s.pending := rfl

/-! ### appendLog -/

@[simp] theorem appendLog_ports (c : LogCause) (f : Option (Fin 16)) (x : LogEffect) : (appendLog c f x s).ports = s.ports := rfl
@[simp] theorem appendLog_headers (c : LogCause) (f : Option (Fin 16)) (x : LogEffect) : (appendLog c f x s).headers = s.headers := rfl
@[simp] theorem appendLog_history (c : LogCause) (f : Option (Fin 16)) (x : LogEffect) : (appendLog c f x s).history = s.history := rfl
@[simp] theorem appendLog_alloc (c : LogCause) (f : Option (Fin 16)) (x : LogEffect) : (appendLog c f x s).alloc = s.alloc := rfl
@[simp] theorem appendLog_pool (c : LogCause) (f : Option (Fin 16)) (x : LogEffect) : (appendLog c f x s).pool = s.pool := rfl
@[simp] theorem appendLog_chain (c : LogCause) (f : Option (Fin 16)) (x : LogEffect) : (appendLog c f x s).chain = s.chain := rfl
@[simp] theorem appendLog_cmd (c : LogCause) (f : Option (Fin 16)) (x : LogEffect) : (appendLog c f x s).cmd = s.cmd := rfl
@[simp] theorem appendLog_sent (c : LogCause) (f : Option (Fin 16)) (x : LogEffect) : (appendLog c f x s).sent = s.sent := rfl
@[simp] theorem appendLog_instants (c : LogCause) (f : Option (Fin 16)) (x : LogEffect) : (appendLog c f x s).instants = s.instants := rfl
@[simp] theorem appendLog_pending (c : LogCause) (f : Option (Fin 16)) (x : LogEffect) : (appendLog c f x s).pending = s.pending := rfl

/-! ### startCooldown -/

@[simp] theorem startCooldown_ports : (startCooldown s).ports = s.ports := rfl
@[simp] theorem startCooldown_headers : (startCooldown s).headers = s.headers := rfl
@[simp] theorem startCooldown_history : (startCooldown s).history = s.history := rfl
@[simp] theorem startCooldown_alloc : (startCooldown s).alloc = s.alloc := rfl
@[simp] theorem startCooldown_pool : (startCooldown s).pool = s.pool := rfl
@[simp] theorem startCooldown_chain : (startCooldown s).chain = s.chain := rfl
@[simp] theorem startCooldown_cmd : (startCooldown s).cmd = s.cmd := rfl
@[simp] theorem startCooldown_sent : (startCooldown s).sent = s.sent := rfl
@[simp] theorem startCooldown_instants : (startCooldown s).instants = s.instants := rfl
@[simp] theorem startCooldown_pending : (startCooldown s).pending = s.pending := rfl

/-! ### The port an update reaches -/

/-- The ports after an update of one port, by index. -/
@[simp] theorem modPort_getElem (p : Fin 8) (g : Port → Port) (k : Nat) (h : k < 8) :
    (modPort p g s).ports[k] = if k = p then g s.ports[p] else s.ports[k] := by
  simp only [modPort, Vector.getElem_set, eq_comm (a := k)]

@[simp] theorem modRun_getElem (p : Fin 8) (g : RunContext → RunContext) (k : Nat) (h : k < 8) : (modRun p g s).ports[k] =
    if k = p then { s.ports[p] with run := g s.ports[p].run } else s.ports[k] := modPort_getElem s p _ k h

@[simp] theorem modIntake_getElem (p : Fin 8) (g : Intake → Intake) (k : Nat) (h : k < 8) : (modIntake p g s).ports[k] =
    if k = p then { s.ports[p] with intake := g s.ports[p].intake } else s.ports[k] := modPort_getElem s p _ k h

@[simp] theorem modAcct_getElem (p : Fin 8) (g : Accounts → Accounts) (k : Nat) (h : k < 8) : (modAcct p g s).ports[k] =
    if k = p then { s.ports[p] with acct := g s.ports[p].acct } else s.ports[k] := modPort_getElem s p _ k h

@[simp] theorem modIdent_getElem (p : Fin 8) (g : Ident → Ident) (k : Nat) (h : k < 8) : (modIdent p g s).ports[k] =
    if k = p then { s.ports[p] with ident := g s.ports[p].ident } else s.ports[k] := modPort_getElem s p _ k h

@[simp] theorem modGrant_getElem (p : Fin 8) (g : GrantEntry → GrantEntry) (k : Nat) (h : k < 8) : (modGrant p g s).ports[k] =
    if k = p then { s.ports[p] with alloc := g s.ports[p].alloc } else s.ports[k] := modPort_getElem s p _ k h

@[simp] theorem modProt_getElem (p : Fin 8) (g : PortProtection → PortProtection) (k : Nat) (h : k < 8) : (modProt p g s).ports[k] =
    if k = p then { s.ports[p] with prot := g s.ports[p].prot } else s.ports[k] := modPort_getElem s p _ k h

@[simp] theorem restartSettle_getElem (p : Fin 8) (k : Nat) (h : k < 8) : (restartSettle p s).ports[k] =
    if k = p then { s.ports[p] with intake := { s.ports[p].intake with settle := .empty } }
    else s.ports[k] := modPort_getElem s p _ k h

@[simp] theorem discardCapture_getElem (p : Fin 8) (k : Nat) (h : k < 8) : (discardCapture p s).ports[k] =
    if k = p then { s.ports[p] with intake := { s.ports[p].intake with captureA := none } }
    else s.ports[k] := modPort_getElem s p _ k h

@[simp] theorem writeFault_getElem (p : Fin 8) (code : FaultCode) (k : Nat) (h : k < 8) : (writeFault p code s).ports[k] =
    if k = p then recordFault code s.prot.time s.ports[p]
    else s.ports[k] := modPort_getElem s p _ k h

@[simp] theorem startDrain_getElem (p : Fin 8) (k : Nat) (h : k < 8) : (startDrain p s).ports[k] =
    if k = p then { s.ports[p] with run := { s.ports[p].run with
      slew := some (drainFrom s.ports[p].run s.alloc.rampTime), throttled := false } }
    else s.ports[k] := modPort_getElem s p _ k h

@[simp] theorem setBounds_getElem (p : Fin 8) (b : Bounds) (k : Nat) (h : k < 8) : (setBounds p b s).ports[k] =
    if k = p then { s.ports[p] with run := { s.ports[p].run with bounds := b } }
    else s.ports[k] := modPort_getElem s p _ k h

@[simp] theorem accountSample_getElem (p : Fin 8) (v : Sample) (k : Nat) (h : k < 8) : (accountSample p v s).ports[k] =
    if k = p then account v s.ports[p]
    else s.ports[k] := modPort_getElem s p _ k h

@[simp] theorem setOwner_getElem (p : Fin 8) (o : Owner) (k : Nat) (h : k < 8) : (setOwner p o s).ports[k] =
    if k = p then { s.ports[p] with owner := o }
    else s.ports[k] := modPort_getElem s p _ k h

@[simp] theorem toVacant_getElem (p : Fin 8) (k : Nat) (h : k < 8) : (toVacant p s).ports[k] =
    if k = p then { s.ports[p] with run := { s.ports[p].run with state := .vacant } }
    else s.ports[k] := modPort_getElem s p _ k h

@[simp] theorem unidentified_getElem (p : Fin 8) (why : IdFailure) (k : Nat) (h : k < 8) : (unidentified p why s).ports[k] =
    if k = p then { s.ports[p] with
      ident := { s.ports[p].ident with lastFailure := why, attempt := none, serialRead := none }
      run := { s.ports[p].run with state := .unidentified } }
    else s.ports[k] := modPort_getElem s p _ k h

@[simp] theorem meetNeed_getElem (p : Fin 8) (k : Nat) (h : k < 8) : (meetNeed p s).ports[k] =
    if k = p then { s.ports[p] with
      run := { s.ports[p].run with
        stage := .ramping, slew := some ⟨0, (stepDirection s.ports[p].run).getD .charge, 0, s.alloc.rampTime⟩ }
      phases := { s.ports[p].phases with need := none } }
    else s.ports[k] := modPort_getElem s p _ k h

/-! ### The phase, header and entry an update reaches -/

@[simp] theorem modPhase_getElem (f : Fin 16) (g : Phase → Phase) (k : Nat) (h : k < 16) :
    (modPhase f g s).pool.phases[k] = if k = f then g s.pool.phases[f] else s.pool.phases[k] := by
  simp only [modPhase, Vector.getElem_set, eq_comm (a := k)]

@[simp] theorem modPhase_queue (f : Fin 16) (g : Phase → Phase) : (modPhase f g s).pool.queue = s.pool.queue := rfl

@[simp] theorem modHeader_getElem (n : Fin 32) (g : Header → Header) (k : Nat) (h : k < 32) :
    (modHeader n g s).headers[k] = if k = n then g s.headers[n] else s.headers[k] := by
  simp only [modHeader, Vector.getElem_set, eq_comm (a := k)]

@[simp] theorem modEntry_getElem (e : Fin 64) (g : Option Entry → Option Entry) (k : Nat) (h : k < 64) :
    (modEntry e g s).history.entries[k] = if k = e then g s.history.entries[e] else s.history.entries[k] := by
  simp only [modEntry, Vector.getElem_set, eq_comm (a := k)]

@[simp] theorem modEntry_recency (e : Fin 64) (g : Option Entry → Option Entry) :
    (modEntry e g s).history.recency = s.history.recency := rfl

@[simp] theorem modEntry_evictions (e : Fin 64) (g : Option Entry → Option Entry) :
    (modEntry e g s).history.evictions = s.history.evictions := rfl

@[simp] theorem modEntry_waiting (e : Fin 64) (g : Option Entry → Option Entry) :
    (modEntry e g s).history.waiting = s.history.waiting := rfl

@[simp] theorem touch_entries (e : Fin 64) : (touch e s).history.entries = s.history.entries := rfl
@[simp] theorem touch_recency (e : Fin 64) :
    (touch e s).history.recency = (s.history.recency.filter fun x => x ≠ e) ++ [e] := rfl
@[simp] theorem touch_evictions (e : Fin 64) : (touch e s).history.evictions = s.history.evictions := rfl
@[simp] theorem touch_waiting (e : Fin 64) : (touch e s).history.waiting = s.history.waiting := rfl

/-! ### What an update writes of a block -/

@[simp] theorem modChain_chain (g : Chain → Chain) : (modChain g s).chain = g s.chain := rfl
@[simp] theorem send_sent (x : Sent) : (send x s).sent = s.sent ++ [x] := rfl
@[simp] theorem startCooldown_prot : (startCooldown s).prot = { s.prot with cabinet := .cooldown 5000 } := rfl
@[simp] theorem appendLog_of_room (c : LogCause) (f : Option (Fin 16)) (x : LogEffect) (h : s.prot.log.length < 8) :
    (appendLog c f x s).prot = { s.prot with log := s.prot.log ++ [⟨c, f, s.prot.time, x⟩] } := by
  simp only [appendLog, if_pos h]
@[simp] theorem raisePort_stationSet (f : PortFlag) (p : Fin 8) :
    (raisePort f p s).cmd.stationSet = withPortFlag s.cmd.stationSet p f := rfl
@[simp] theorem raisePort_hallSet (f : PortFlag) (p : Fin 8) :
    (raisePort f p s).cmd.hallSet = withPortFlag s.cmd.hallSet p f := rfl
@[simp] theorem raiseCabinet_stationSet (f : CabinetFlag) :
    (raiseCabinet f s).cmd.stationSet = withCabinetFlag s.cmd.stationSet f := rfl
@[simp] theorem raiseCabinet_hallSet (f : CabinetFlag) :
    (raiseCabinet f s).cmd.hallSet = withCabinetFlag s.cmd.hallSet f := rfl

/-! ### Two updates of one place -/

/-- Two updates of one port are one. -/
theorem modPort_modPort (p : Fin 8) (g h : Port → Port) : modPort p h (modPort p g s) = modPort p (fun q => h (g q)) s := by
  simp [modPort]

/-- Two updates of one header are one. -/
theorem modHeader_modHeader (n : Fin 32) (g h : Header → Header) :
    modHeader n h (modHeader n g s) = modHeader n (fun x => h (g x)) s := by
  simp [modHeader]

/-- Two updates of one phase are one. -/
theorem modPhase_modPhase (f : Fin 16) (g h : Phase → Phase) :
    modPhase f h (modPhase f g s) = modPhase f (fun x => h (g x)) s := by
  simp [modPhase]

end Sys2Proof.Machine
end

