-- ==== Sys2Proof/Laws/Pool.lean ====
section
/-! SUPPORT. What the phase pool's operations can do: they move phases, the wait queue, and of a port its transfer stage, its
ramp and its need, and nothing else. -/

namespace Sys2Proof.Machine

/-! ### Flags only rise -/

/-- What an event's work leaves of the command unit: flags only rise in the two attention sets (R209), and the rest stands. -/
structure FlagsRise (a b : CommandUnit) : Prop where
  station : ∀ (p : Fin 8) (f : PortFlag), hasPortFlag a.stationSet p f = true → hasPortFlag b.stationSet p f = true
  hall : ∀ (p : Fin 8) (f : PortFlag), hasPortFlag a.hallSet p f = true → hasPortFlag b.hallSet p f = true
  stationCabinet : ∀ f : CabinetFlag, hasCabinetFlag a.stationSet f = true → hasCabinetFlag b.stationSet f = true
  hallCabinet : ∀ f : CabinetFlag, hasCabinetFlag a.hallSet f = true → hasCabinetFlag b.hallSet f = true
  stationMask : b.stationMask = a.stationMask
  hallMask : b.hallMask = a.hallMask
  response : b.response = a.response
  responseNumber : b.responseNumber = a.responseNumber
  transaction : b.transaction = a.transaction

theorem FlagsRise.refl (a : CommandUnit) : FlagsRise a a :=
  ⟨fun _ _ h => h, fun _ _ h => h, fun _ h => h, fun _ h => h, rfl, rfl, rfl, rfl, rfl⟩

theorem FlagsRise.trans {a b c : CommandUnit} (x : FlagsRise a b) (y : FlagsRise b c) : FlagsRise a c :=
  ⟨fun p f h => y.station p f (x.station p f h), fun p f h => y.hall p f (x.hall p f h),
    fun f h => y.stationCabinet f (x.stationCabinet f h), fun f h => y.hallCabinet f (x.hallCabinet f h),
    y.stationMask.trans x.stationMask, y.hallMask.trans x.hallMask, y.response.trans x.response,
    y.responseNumber.trans x.responseNumber, y.transaction.trans x.transaction⟩

/-- A flag bit stands after any flags are added to its byte. -/
theorem byte_or_keeps (a b c : Byte) (h : (a &&& c != 0) = true) : ((a ||| b) &&& c != 0) = true := by
  simp only [bne_iff_ne, ne_eq] at h ⊢
  refine fun hz => h ?_
  ext i hi
  have := congrArg (fun x : Byte => x.getLsbD i) hz
  simp at this ⊢
  exact fun ha => this (.inl ha)

/-- A flag bit that is added to a byte stands in it. -/
theorem byte_or_sets (a c : Byte) (h : c ≠ 0) : ((a ||| c) &&& c != 0) = true := by
  have : (a ||| c) &&& c = c := by ext i hi; simp; exact fun h => .inr h
  simpa [this] using h

theorem withPortFlag_keeps (a : Attention) (p q : Fin 8) (f g : PortFlag) (h : hasPortFlag a q g = true) :
    hasPortFlag (withPortFlag a p f) q g = true := by
  simp only [hasPortFlag, withPortFlag, Fin.getElem_fin, Vector.getElem_set] at h ⊢
  split
  · next e => simp only [e]; exact byte_or_keeps _ _ _ h
  · exact h

theorem withCabinetFlag_keeps (a : Attention) (f g : CabinetFlag) (h : hasCabinetFlag a g = true) :
    hasCabinetFlag (withCabinetFlag a f) g = true := byte_or_keeps _ _ _ h

/-- A flag that an event sets stands in both sets. -/
theorem flagged_raisePort (f : PortFlag) (p : Fin 8) (s : State) : flagged p f (raisePort f p s) := by
  constructor <;> simp only [raisePort_stationSet, raisePort_hallSet, hasPortFlag, withPortFlag, Fin.getElem_fin,
    Vector.getElem_set_self] <;> exact byte_or_sets _ _ (by cases f <;> decide)

/-- A cabinet flag that an event sets stands in both sets. -/
theorem cabinetFlagged_raiseCabinet (f : CabinetFlag) (s : State) : cabinetFlagged f (raiseCabinet f s) := by
  constructor <;> exact byte_or_sets _ _ (by cases f <;> decide)

theorem raisePort_flagsRise (f : PortFlag) (p : Fin 8) (s : State) : FlagsRise s.cmd (raisePort f p s).cmd :=
  ⟨fun _ _ h => withPortFlag_keeps _ _ _ _ _ h, fun _ _ h => withPortFlag_keeps _ _ _ _ _ h, fun _ h => h, fun _ h => h,
    rfl, rfl, rfl, rfl, rfl⟩

theorem raiseCabinet_flagsRise (f : CabinetFlag) (s : State) : FlagsRise s.cmd (raiseCabinet f s).cmd :=
  ⟨fun _ _ h => h, fun _ _ h => h, fun _ h => withCabinetFlag_keeps _ _ _ h, fun _ h => withCabinetFlag_keeps _ _ _ h,
    rfl, rfl, rfl, rfl, rfl⟩

theorem FlagsRise.flagged {s t : State} (h : FlagsRise s.cmd t.cmd) {p : Fin 8} {f : PortFlag} (x : flagged p f s) :
    flagged p f t := ⟨h.station _ _ x.1, h.hall _ _ x.2⟩

theorem FlagsRise.cabinetFlagged {s t : State} (h : FlagsRise s.cmd t.cmd) {f : CabinetFlag} (x : cabinetFlagged f s) :
    cabinetFlagged f t := ⟨h.stationCabinet _ x.1, h.hallCabinet _ x.2⟩

/-! ### The pool's work -/

/-- A port without what the pool's service may set in it. -/
def poolRest (q : Port) : Port :=
  { q with run := { q.run with stage := .draining, slew := none }, phases := { q.phases with need := none } }

/-- What the pool's operations can do to the state. -/
structure PoolWork (s t : State) : Prop where
  port : ∀ (k : Nat) (h : k < 8), poolRest t.ports[k] = poolRest s.ports[k]
  headers : t.headers = s.headers
  history : t.history = s.history
  alloc : t.alloc = s.alloc
  prot : t.prot = s.prot
  chain : t.chain = s.chain
  cmd : FlagsRise s.cmd t.cmd
  sent : t.sent = s.sent
  instants : t.instants = s.instants
  pending : t.pending = s.pending

theorem PoolWork.refl (s : State) : PoolWork s s := ⟨fun _ _ => rfl, rfl, rfl, rfl, rfl, rfl, .refl _, rfl, rfl, rfl⟩

theorem PoolWork.trans {s t u : State} (a : PoolWork s t) (b : PoolWork t u) : PoolWork s u :=
  ⟨fun k h => (b.port k h).trans (a.port k h), b.headers.trans a.headers, b.history.trans a.history, b.alloc.trans a.alloc,
    b.prot.trans a.prot, b.chain.trans a.chain, a.cmd.trans b.cmd, b.sent.trans a.sent, b.instants.trans a.instants,
    b.pending.trans a.pending⟩

/-- A change of the pool alone. -/
theorem PoolWork.ofPool (s : State) (x : Pool) : PoolWork s { s with pool := x } :=
  ⟨fun _ _ => rfl, rfl, rfl, rfl, rfl, rfl, .refl _, rfl, rfl, rfl⟩

/-- A run of pool operations over a list. -/
theorem PoolWork.foldl {α : Type} (f : State → α → State) (hf : ∀ s x, PoolWork s (f s x)) :
    ∀ (l : List α) (s : State), PoolWork s (l.foldl f s)
  | [], s => .refl s
  | x :: l, s => (hf s x).trans (PoolWork.foldl f hf l (f s x))

theorem modPhase_poolWork (f : Fin 16) (g : Phase → Phase) (s : State) : PoolWork s (modPhase f g s) := .ofPool s _

theorem disablePort_poolWork (p : Fin 8) (s : State) : PoolWork s (disablePort p s) :=
  .foldl _ (fun s f => modPhase_poolWork f _ s) _ s

theorem refreshEnables_poolWork (p : Fin 8) (s : State) : PoolWork s (refreshEnables p s) := by
  unfold refreshEnables; split
  · exact .foldl _ (fun s f => modPhase_poolWork f _ s) _ s
  · exact disablePort_poolWork p s

theorem takePhases_poolWork (p : Fin 8) (n : Nat) (s : State) : PoolWork s (takePhases p n s) :=
  .foldl _ (fun s f => modPhase_poolWork f _ s) _ s

theorem releaseBeyond_poolWork (p : Fin 8) (n : Nat) (s : State) : PoolWork s (releaseBeyond p n s) :=
  .foldl _ (fun s f => modPhase_poolWork f _ s) _ s

/-- An update of one port that leaves it the same but for what the pool may set. -/
theorem modPort_poolWork (p : Fin 8) (g : Port → Port) (hg : ∀ q, poolRest (g q) = poolRest q) (s : State) :
    PoolWork s (modPort p g s) := by
  refine ⟨fun k h => ?_, rfl, rfl, rfl, rfl, rfl, .refl _, rfl, rfl, rfl⟩
  rw [modPort_getElem]; split
  · next e => subst e; exact hg _
  · rfl

theorem meetNeed_poolWork (p : Fin 8) (s : State) : PoolWork s (meetNeed p s) := modPort_poolWork p _ (by intros; rfl) s

theorem serveList_poolWork : ∀ (l : List (Fin 8 × Nat)) (s : State), PoolWork s (serveList l s)
  | [], s => .ofPool s _
  | (p, n) :: rest, s => by
    unfold serveList; split
    · exact ((takePhases_poolWork p n s).trans (meetNeed_poolWork p _)).trans (serveList_poolWork rest _)
    · exact .ofPool s _

theorem serveQueue_poolWork (s : State) : PoolWork s (serveQueue s) := serveList_poolWork _ s

theorem leaveQueue_poolWork (p : Fin 8) (s : State) : PoolWork s (leaveQueue p s) := by
  have h : PoolWork s (modPort p (fun q => { q with phases := { q.phases with need := none } })
      { s with pool := { s.pool with queue := s.pool.queue.filter fun x => x.1 ≠ p } }) :=
    (PoolWork.ofPool s _).trans (modPort_poolWork p _ (by intros; rfl) _)
  unfold leaveQueue; dsimp only; split
  · exact h.trans (serveQueue_poolWork _)
  · exact h

theorem releaseAndServe_poolWork (p : Fin 8) (n : Nat) (s : State) : PoolWork s (releaseAndServe p n s) := by
  unfold releaseAndServe; split
  · exact (releaseBeyond_poolWork p n s).trans (serveQueue_poolWork _)
  · exact .refl s

theorem releaseUnreserved_poolWork (p : Fin 8) (s : State) : PoolWork s (releaseUnreserved p s) :=
  releaseAndServe_poolWork p _ s

theorem reformNeeds_poolWork (s : State) : PoolWork s (reformNeeds s) := by
  unfold reformNeeds
  exact (((PoolWork.foldl _ (fun u (x : Fin 8 × Nat) => modPort_poolWork x.1 _ (by intros; rfl) u) _ s).trans
    (.foldl _ (fun u (x : Fin 8 × Nat) => meetNeed_poolWork x.1 u) _ _)).trans (.ofPool _ _)).trans (serveQueue_poolWork _)

/-! ### The fields of a port and of the state after the pool's work -/

variable (s : State)

/-- A fold of updates of phases leaves the ports. -/
theorem foldl_ports {α : Type} (f : State → α → State) (hf : ∀ s x, (f s x).ports = s.ports) :
    ∀ (l : List α) (s : State), (l.foldl f s).ports = s.ports
  | [], _ => rfl
  | x :: l, s => (foldl_ports f hf l (f s x)).trans (hf s x)

/-- A fold of updates of phases leaves the wait queue. -/
theorem foldl_queue {α : Type} (f : State → α → State) (hf : ∀ s x, (f s x).pool.queue = s.pool.queue) :
    ∀ (l : List α) (s : State), (l.foldl f s).pool.queue = s.pool.queue
  | [], _ => rfl
  | x :: l, s => (foldl_queue f hf l (f s x)).trans (hf s x)

/-- A fold of operations that leave the command unit leaves it. -/
theorem foldl_cmd {α : Type} (f : State → α → State) (hf : ∀ s x, (f s x).cmd = s.cmd) :
    ∀ (l : List α) (s : State), (l.foldl f s).cmd = s.cmd
  | [], _ => rfl
  | x :: l, s => (foldl_cmd f hf l (f s x)).trans (hf s x)

@[simp] theorem disablePort_headers (p : Fin 8) : (disablePort p s).headers = s.headers := (disablePort_poolWork p s).headers
@[simp] theorem disablePort_history (p : Fin 8) : (disablePort p s).history = s.history := (disablePort_poolWork p s).history
@[simp] theorem disablePort_alloc (p : Fin 8) : (disablePort p s).alloc = s.alloc := (disablePort_poolWork p s).alloc
@[simp] theorem disablePort_prot (p : Fin 8) : (disablePort p s).prot = s.prot := (disablePort_poolWork p s).prot
@[simp] theorem disablePort_chain (p : Fin 8) : (disablePort p s).chain = s.chain := (disablePort_poolWork p s).chain
@[simp] theorem disablePort_sent (p : Fin 8) : (disablePort p s).sent = s.sent := (disablePort_poolWork p s).sent
@[simp] theorem disablePort_instants (p : Fin 8) : (disablePort p s).instants = s.instants := (disablePort_poolWork p s).instants
@[simp] theorem disablePort_pending (p : Fin 8) : (disablePort p s).pending = s.pending := (disablePort_poolWork p s).pending
@[simp] theorem disablePort_ports (p : Fin 8) : (disablePort p s).ports = s.ports := foldl_ports _ (by intros; rfl) _ s
@[simp] theorem disablePort_cmd (p : Fin 8) : (disablePort p s).cmd = s.cmd := foldl_cmd _ (by intros; rfl) _ s
@[simp] theorem disablePort_queue (p : Fin 8) : (disablePort p s).pool.queue = s.pool.queue := foldl_queue _ (by intros; rfl) _ s

@[simp] theorem refreshEnables_headers (p : Fin 8) : (refreshEnables p s).headers = s.headers := (refreshEnables_poolWork p s).headers
@[simp] theorem refreshEnables_history (p : Fin 8) : (refreshEnables p s).history = s.history := (refreshEnables_poolWork p s).history
@[simp] theorem refreshEnables_alloc (p : Fin 8) : (refreshEnables p s).alloc = s.alloc := (refreshEnables_poolWork p s).alloc
@[simp] theorem refreshEnables_prot (p : Fin 8) : (refreshEnables p s).prot = s.prot := (refreshEnables_poolWork p s).prot
@[simp] theorem refreshEnables_chain (p : Fin 8) : (refreshEnables p s).chain = s.chain := (refreshEnables_poolWork p s).chain
@[simp] theorem refreshEnables_sent (p : Fin 8) : (refreshEnables p s).sent = s.sent := (refreshEnables_poolWork p s).sent
@[simp] theorem refreshEnables_instants (p : Fin 8) : (refreshEnables p s).instants = s.instants := (refreshEnables_poolWork p s).instants
@[simp] theorem refreshEnables_pending (p : Fin 8) : (refreshEnables p s).pending = s.pending := (refreshEnables_poolWork p s).pending
@[simp] theorem refreshEnables_ports (p : Fin 8) : (refreshEnables p s).ports = s.ports := by
  unfold refreshEnables; split <;> exact foldl_ports _ (by intros; rfl) _ s
@[simp] theorem refreshEnables_cmd (p : Fin 8) : (refreshEnables p s).cmd = s.cmd := by
  unfold refreshEnables; split <;> exact foldl_cmd _ (by intros; rfl) _ s
@[simp] theorem refreshEnables_queue (p : Fin 8) : (refreshEnables p s).pool.queue = s.pool.queue := by
  unfold refreshEnables; split <;> exact foldl_queue _ (by intros; rfl) _ s

@[simp] theorem takePhases_headers (p : Fin 8) (n : Nat) : (takePhases p n s).headers = s.headers := (takePhases_poolWork p n s).headers
@[simp] theorem takePhases_history (p : Fin 8) (n : Nat) : (takePhases p n s).history = s.history := (takePhases_poolWork p n s).history
@[simp] theorem takePhases_alloc (p : Fin 8) (n : Nat) : (takePhases p n s).alloc = s.alloc := (takePhases_poolWork p n s).alloc
@[simp] theorem takePhases_prot (p : Fin 8) (n : Nat) : (takePhases p n s).prot = s.prot := (takePhases_poolWork p n s).prot
@[simp] theorem takePhases_chain (p : Fin 8) (n : Nat) : (takePhases p n s).chain = s.chain := (takePhases_poolWork p n s).chain
@[simp] theorem takePhases_sent (p : Fin 8) (n : Nat) : (takePhases p n s).sent = s.sent := (takePhases_poolWork p n s).sent
@[simp] theorem takePhases_instants (p : Fin 8) (n : Nat) : (takePhases p n s).instants = s.instants := (takePhases_poolWork p n s).instants
@[simp] theorem takePhases_pending (p : Fin 8) (n : Nat) : (takePhases p n s).pending = s.pending := (takePhases_poolWork p n s).pending
@[simp] theorem takePhases_ports (p : Fin 8) (n : Nat) : (takePhases p n s).ports = s.ports := foldl_ports _ (by intros; rfl) _ s
@[simp] theorem takePhases_cmd (p : Fin 8) (n : Nat) : (takePhases p n s).cmd = s.cmd := foldl_cmd _ (by intros; rfl) _ s
@[simp] theorem takePhases_queue (p : Fin 8) (n : Nat) : (takePhases p n s).pool.queue = s.pool.queue := foldl_queue _ (by intros; rfl) _ s

@[simp] theorem releaseBeyond_headers (p : Fin 8) (n : Nat) : (releaseBeyond p n s).headers = s.headers := (releaseBeyond_poolWork p n s).headers
@[simp] theorem releaseBeyond_history (p : Fin 8) (n : Nat) : (releaseBeyond p n s).history = s.history := (releaseBeyond_poolWork p n s).history
@[simp] theorem releaseBeyond_alloc (p : Fin 8) (n : Nat) : (releaseBeyond p n s).alloc = s.alloc := (releaseBeyond_poolWork p n s).alloc
@[simp] theorem releaseBeyond_prot (p : Fin 8) (n : Nat) : (releaseBeyond p n s).prot = s.prot := (releaseBeyond_poolWork p n s).prot
@[simp] theorem releaseBeyond_chain (p : Fin 8) (n : Nat) : (releaseBeyond p n s).chain = s.chain := (releaseBeyond_poolWork p n s).chain
@[simp] theorem releaseBeyond_sent (p : Fin 8) (n : Nat) : (releaseBeyond p n s).sent = s.sent := (releaseBeyond_poolWork p n s).sent
@[simp] theorem releaseBeyond_instants (p : Fin 8) (n : Nat) : (releaseBeyond p n s).instants = s.instants := (releaseBeyond_poolWork p n s).instants
@[simp] theorem releaseBeyond_pending (p : Fin 8) (n : Nat) : (releaseBeyond p n s).pending = s.pending := (releaseBeyond_poolWork p n s).pending
@[simp] theorem releaseBeyond_ports (p : Fin 8) (n : Nat) : (releaseBeyond p n s).ports = s.ports := foldl_ports _ (by intros; rfl) _ s
@[simp] theorem releaseBeyond_cmd (p : Fin 8) (n : Nat) : (releaseBeyond p n s).cmd = s.cmd := foldl_cmd _ (by intros; rfl) _ s
@[simp] theorem releaseBeyond_queue (p : Fin 8) (n : Nat) : (releaseBeyond p n s).pool.queue = s.pool.queue := foldl_queue _ (by intros; rfl) _ s

@[simp] theorem serveQueue_headers : (serveQueue s).headers = s.headers := (serveQueue_poolWork s).headers
@[simp] theorem serveQueue_history : (serveQueue s).history = s.history := (serveQueue_poolWork s).history
@[simp] theorem serveQueue_alloc : (serveQueue s).alloc = s.alloc := (serveQueue_poolWork s).alloc
@[simp] theorem serveQueue_prot : (serveQueue s).prot = s.prot := (serveQueue_poolWork s).prot
@[simp] theorem serveQueue_chain : (serveQueue s).chain = s.chain := (serveQueue_poolWork s).chain
@[simp] theorem serveQueue_sent : (serveQueue s).sent = s.sent := (serveQueue_poolWork s).sent
@[simp] theorem serveQueue_instants : (serveQueue s).instants = s.instants := (serveQueue_poolWork s).instants
@[simp] theorem serveQueue_pending : (serveQueue s).pending = s.pending := (serveQueue_poolWork s).pending
@[simp] theorem serveQueue_port_owner (k : Nat) (h : k < 8) :
    (serveQueue s).ports[k].owner = s.ports[k].owner :=
  have x := congrArg Port.owner ((serveQueue_poolWork s).port k h); x
@[simp] theorem serveQueue_port_results (k : Nat) (h : k < 8) :
    (serveQueue s).ports[k].results = s.ports[k].results :=
  have x := congrArg Port.results ((serveQueue_poolWork s).port k h); x
@[simp] theorem serveQueue_port_lost (k : Nat) (h : k < 8) :
    (serveQueue s).ports[k].lost = s.ports[k].lost :=
  have x := congrArg Port.lost ((serveQueue_poolWork s).port k h); x
@[simp] theorem serveQueue_port_intake (k : Nat) (h : k < 8) :
    (serveQueue s).ports[k].intake = s.ports[k].intake :=
  have x := congrArg Port.intake ((serveQueue_poolWork s).port k h); x
@[simp] theorem serveQueue_port_acct (k : Nat) (h : k < 8) :
    (serveQueue s).ports[k].acct = s.ports[k].acct :=
  have x := congrArg Port.acct ((serveQueue_poolWork s).port k h); x
@[simp] theorem serveQueue_port_ident (k : Nat) (h : k < 8) :
    (serveQueue s).ports[k].ident = s.ports[k].ident :=
  have x := congrArg Port.ident ((serveQueue_poolWork s).port k h); x
@[simp] theorem serveQueue_port_alloc (k : Nat) (h : k < 8) :
    (serveQueue s).ports[k].alloc = s.ports[k].alloc :=
  have x := congrArg Port.alloc ((serveQueue_poolWork s).port k h); x
@[simp] theorem serveQueue_port_prot (k : Nat) (h : k < 8) :
    (serveQueue s).ports[k].prot = s.ports[k].prot :=
  have x := congrArg Port.prot ((serveQueue_poolWork s).port k h); x
@[simp] theorem serveQueue_port_mask (k : Nat) (h : k < 8) :
    (serveQueue s).ports[k].mask = s.ports[k].mask :=
  have x := congrArg Port.mask ((serveQueue_poolWork s).port k h); x
@[simp] theorem serveQueue_port_reserved (k : Nat) (h : k < 8) :
    (serveQueue s).ports[k].phases.reserved = s.ports[k].phases.reserved :=
  have x := congrArg (fun q => q.phases.reserved) ((serveQueue_poolWork s).port k h); x
@[simp] theorem serveQueue_run_state (k : Nat) (h : k < 8) :
    (serveQueue s).ports[k].run.state = s.ports[k].run.state :=
  have x := congrArg (fun q => q.run.state) ((serveQueue_poolWork s).port k h); x
@[simp] theorem serveQueue_run_causes (k : Nat) (h : k < 8) :
    (serveQueue s).ports[k].run.causes = s.ports[k].run.causes :=
  have x := congrArg (fun q => q.run.causes) ((serveQueue_poolWork s).port k h); x
@[simp] theorem serveQueue_run_program (k : Nat) (h : k < 8) :
    (serveQueue s).ports[k].run.program = s.ports[k].run.program :=
  have x := congrArg (fun q => q.run.program) ((serveQueue_poolWork s).port k h); x
@[simp] theorem serveQueue_run_lastProgram (k : Nat) (h : k < 8) :
    (serveQueue s).ports[k].run.lastProgram = s.ports[k].run.lastProgram :=
  have x := congrArg (fun q => q.run.lastProgram) ((serveQueue_poolWork s).port k h); x
@[simp] theorem serveQueue_run_countersUsed (k : Nat) (h : k < 8) :
    (serveQueue s).ports[k].run.countersUsed = s.ports[k].run.countersUsed :=
  have x := congrArg (fun q => q.run.countersUsed) ((serveQueue_poolWork s).port k h); x
@[simp] theorem serveQueue_run_stepIndex (k : Nat) (h : k < 8) :
    (serveQueue s).ports[k].run.stepIndex = s.ports[k].run.stepIndex :=
  have x := congrArg (fun q => q.run.stepIndex) ((serveQueue_poolWork s).port k h); x
@[simp] theorem serveQueue_run_subPhase (k : Nat) (h : k < 8) :
    (serveQueue s).ports[k].run.subPhase = s.ports[k].run.subPhase :=
  have x := congrArg (fun q => q.run.subPhase) ((serveQueue_poolWork s).port k h); x
@[simp] theorem serveQueue_run_counters (k : Nat) (h : k < 8) :
    (serveQueue s).ports[k].run.counters = s.ports[k].run.counters :=
  have x := congrArg (fun q => q.run.counters) ((serveQueue_poolWork s).port k h); x
@[simp] theorem serveQueue_run_stepTimer (k : Nat) (h : k < 8) :
    (serveQueue s).ports[k].run.stepTimer = s.ports[k].run.stepTimer :=
  have x := congrArg (fun q => q.run.stepTimer) ((serveQueue_poolWork s).port k h); x
@[simp] theorem serveQueue_run_throttledTime (k : Nat) (h : k < 8) :
    (serveQueue s).ports[k].run.throttledTime = s.ports[k].run.throttledTime :=
  have x := congrArg (fun q => q.run.throttledTime) ((serveQueue_poolWork s).port k h); x
@[simp] theorem serveQueue_run_runCycles (k : Nat) (h : k < 8) :
    (serveQueue s).ports[k].run.runCycles = s.ports[k].run.runCycles :=
  have x := congrArg (fun q => q.run.runCycles) ((serveQueue_poolWork s).port k h); x
@[simp] theorem serveQueue_run_outcome (k : Nat) (h : k < 8) :
    (serveQueue s).ports[k].run.outcome = s.ports[k].run.outcome :=
  have x := congrArg (fun q => q.run.outcome) ((serveQueue_poolWork s).port k h); x
@[simp] theorem serveQueue_run_endingAs (k : Nat) (h : k < 8) :
    (serveQueue s).ports[k].run.endingAs = s.ports[k].run.endingAs :=
  have x := congrArg (fun q => q.run.endingAs) ((serveQueue_poolWork s).port k h); x
@[simp] theorem serveQueue_run_step (k : Nat) (h : k < 8) :
    (serveQueue s).ports[k].run.step = s.ports[k].run.step :=
  have x := congrArg (fun q => q.run.step) ((serveQueue_poolWork s).port k h); x
@[simp] theorem serveQueue_run_clamped (k : Nat) (h : k < 8) :
    (serveQueue s).ports[k].run.clamped = s.ports[k].run.clamped :=
  have x := congrArg (fun q => q.run.clamped) ((serveQueue_poolWork s).port k h); x
@[simp] theorem serveQueue_run_throttled (k : Nat) (h : k < 8) :
    (serveQueue s).ports[k].run.throttled = s.ports[k].run.throttled :=
  have x := congrArg (fun q => q.run.throttled) ((serveQueue_poolWork s).port k h); x
@[simp] theorem serveQueue_run_resistance (k : Nat) (h : k < 8) :
    (serveQueue s).ports[k].run.resistance = s.ports[k].run.resistance :=
  have x := congrArg (fun q => q.run.resistance) ((serveQueue_poolWork s).port k h); x
@[simp] theorem serveQueue_run_applied (k : Nat) (h : k < 8) :
    (serveQueue s).ports[k].run.applied = s.ports[k].run.applied :=
  have x := congrArg (fun q => q.run.applied) ((serveQueue_poolWork s).port k h); x
@[simp] theorem serveQueue_run_cvIntegrator (k : Nat) (h : k < 8) :
    (serveQueue s).ports[k].run.cvIntegrator = s.ports[k].run.cvIntegrator :=
  have x := congrArg (fun q => q.run.cvIntegrator) ((serveQueue_poolWork s).port k h); x
@[simp] theorem serveQueue_run_bounds (k : Nat) (h : k < 8) :
    (serveQueue s).ports[k].run.bounds = s.ports[k].run.bounds :=
  have x := congrArg (fun q => q.run.bounds) ((serveQueue_poolWork s).port k h); x

@[simp] theorem leaveQueue_headers (p : Fin 8) : (leaveQueue p s).headers = s.headers := (leaveQueue_poolWork p s).headers
@[simp] theorem leaveQueue_history (p : Fin 8) : (leaveQueue p s).history = s.history := (leaveQueue_poolWork p s).history
@[simp] theorem leaveQueue_alloc (p : Fin 8) : (leaveQueue p s).alloc = s.alloc := (leaveQueue_poolWork p s).alloc
@[simp] theorem leaveQueue_prot (p : Fin 8) : (leaveQueue p s).prot = s.prot := (leaveQueue_poolWork p s).prot
@[simp] theorem leaveQueue_chain (p : Fin 8) : (leaveQueue p s).chain = s.chain := (leaveQueue_poolWork p s).chain
@[simp] theorem leaveQueue_sent (p : Fin 8) : (leaveQueue p s).sent = s.sent := (leaveQueue_poolWork p s).sent
@[simp] theorem leaveQueue_instants (p : Fin 8) : (leaveQueue p s).instants = s.instants := (leaveQueue_poolWork p s).instants
@[simp] theorem leaveQueue_pending (p : Fin 8) : (leaveQueue p s).pending = s.pending := (leaveQueue_poolWork p s).pending
@[simp] theorem leaveQueue_port_owner (p : Fin 8) (k : Nat) (h : k < 8) :
    (leaveQueue p s).ports[k].owner = s.ports[k].owner :=
  have x := congrArg Port.owner ((leaveQueue_poolWork p s).port k h); x
@[simp] theorem leaveQueue_port_results (p : Fin 8) (k : Nat) (h : k < 8) :
    (leaveQueue p s).ports[k].results = s.ports[k].results :=
  have x := congrArg Port.results ((leaveQueue_poolWork p s).port k h); x
@[simp] theorem leaveQueue_port_lost (p : Fin 8) (k : Nat) (h : k < 8) :
    (leaveQueue p s).ports[k].lost = s.ports[k].lost :=
  have x := congrArg Port.lost ((leaveQueue_poolWork p s).port k h); x
@[simp] theorem leaveQueue_port_intake (p : Fin 8) (k : Nat) (h : k < 8) :
    (leaveQueue p s).ports[k].intake = s.ports[k].intake :=
  have x := congrArg Port.intake ((leaveQueue_poolWork p s).port k h); x
@[simp] theorem leaveQueue_port_acct (p : Fin 8) (k : Nat) (h : k < 8) :
    (leaveQueue p s).ports[k].acct = s.ports[k].acct :=
  have x := congrArg Port.acct ((leaveQueue_poolWork p s).port k h); x
@[simp] theorem leaveQueue_port_ident (p : Fin 8) (k : Nat) (h : k < 8) :
    (leaveQueue p s).ports[k].ident = s.ports[k].ident :=
  have x := congrArg Port.ident ((leaveQueue_poolWork p s).port k h); x
@[simp] theorem leaveQueue_port_alloc (p : Fin 8) (k : Nat) (h : k < 8) :
    (leaveQueue p s).ports[k].alloc = s.ports[k].alloc :=
  have x := congrArg Port.alloc ((leaveQueue_poolWork p s).port k h); x
@[simp] theorem leaveQueue_port_prot (p : Fin 8) (k : Nat) (h : k < 8) :
    (leaveQueue p s).ports[k].prot = s.ports[k].prot :=
  have x := congrArg Port.prot ((leaveQueue_poolWork p s).port k h); x
@[simp] theorem leaveQueue_port_mask (p : Fin 8) (k : Nat) (h : k < 8) :
    (leaveQueue p s).ports[k].mask = s.ports[k].mask :=
  have x := congrArg Port.mask ((leaveQueue_poolWork p s).port k h); x
@[simp] theorem leaveQueue_port_reserved (p : Fin 8) (k : Nat) (h : k < 8) :
    (leaveQueue p s).ports[k].phases.reserved = s.ports[k].phases.reserved :=
  have x := congrArg (fun q => q.phases.reserved) ((leaveQueue_poolWork p s).port k h); x
@[simp] theorem leaveQueue_run_state (p : Fin 8) (k : Nat) (h : k < 8) :
    (leaveQueue p s).ports[k].run.state = s.ports[k].run.state :=
  have x := congrArg (fun q => q.run.state) ((leaveQueue_poolWork p s).port k h); x
@[simp] theorem leaveQueue_run_causes (p : Fin 8) (k : Nat) (h : k < 8) :
    (leaveQueue p s).ports[k].run.causes = s.ports[k].run.causes :=
  have x := congrArg (fun q => q.run.causes) ((leaveQueue_poolWork p s).port k h); x
@[simp] theorem leaveQueue_run_program (p : Fin 8) (k : Nat) (h : k < 8) :
    (leaveQueue p s).ports[k].run.program = s.ports[k].run.program :=
  have x := congrArg (fun q => q.run.program) ((leaveQueue_poolWork p s).port k h); x
@[simp] theorem leaveQueue_run_lastProgram (p : Fin 8) (k : Nat) (h : k < 8) :
    (leaveQueue p s).ports[k].run.lastProgram = s.ports[k].run.lastProgram :=
  have x := congrArg (fun q => q.run.lastProgram) ((leaveQueue_poolWork p s).port k h); x
@[simp] theorem leaveQueue_run_countersUsed (p : Fin 8) (k : Nat) (h : k < 8) :
    (leaveQueue p s).ports[k].run.countersUsed = s.ports[k].run.countersUsed :=
  have x := congrArg (fun q => q.run.countersUsed) ((leaveQueue_poolWork p s).port k h); x
@[simp] theorem leaveQueue_run_stepIndex (p : Fin 8) (k : Nat) (h : k < 8) :
    (leaveQueue p s).ports[k].run.stepIndex = s.ports[k].run.stepIndex :=
  have x := congrArg (fun q => q.run.stepIndex) ((leaveQueue_poolWork p s).port k h); x
@[simp] theorem leaveQueue_run_subPhase (p : Fin 8) (k : Nat) (h : k < 8) :
    (leaveQueue p s).ports[k].run.subPhase = s.ports[k].run.subPhase :=
  have x := congrArg (fun q => q.run.subPhase) ((leaveQueue_poolWork p s).port k h); x
@[simp] theorem leaveQueue_run_counters (p : Fin 8) (k : Nat) (h : k < 8) :
    (leaveQueue p s).ports[k].run.counters = s.ports[k].run.counters :=
  have x := congrArg (fun q => q.run.counters) ((leaveQueue_poolWork p s).port k h); x
@[simp] theorem leaveQueue_run_stepTimer (p : Fin 8) (k : Nat) (h : k < 8) :
    (leaveQueue p s).ports[k].run.stepTimer = s.ports[k].run.stepTimer :=
  have x := congrArg (fun q => q.run.stepTimer) ((leaveQueue_poolWork p s).port k h); x
@[simp] theorem leaveQueue_run_throttledTime (p : Fin 8) (k : Nat) (h : k < 8) :
    (leaveQueue p s).ports[k].run.throttledTime = s.ports[k].run.throttledTime :=
  have x := congrArg (fun q => q.run.throttledTime) ((leaveQueue_poolWork p s).port k h); x
@[simp] theorem leaveQueue_run_runCycles (p : Fin 8) (k : Nat) (h : k < 8) :
    (leaveQueue p s).ports[k].run.runCycles = s.ports[k].run.runCycles :=
  have x := congrArg (fun q => q.run.runCycles) ((leaveQueue_poolWork p s).port k h); x
@[simp] theorem leaveQueue_run_outcome (p : Fin 8) (k : Nat) (h : k < 8) :
    (leaveQueue p s).ports[k].run.outcome = s.ports[k].run.outcome :=
  have x := congrArg (fun q => q.run.outcome) ((leaveQueue_poolWork p s).port k h); x
@[simp] theorem leaveQueue_run_endingAs (p : Fin 8) (k : Nat) (h : k < 8) :
    (leaveQueue p s).ports[k].run.endingAs = s.ports[k].run.endingAs :=
  have x := congrArg (fun q => q.run.endingAs) ((leaveQueue_poolWork p s).port k h); x
@[simp] theorem leaveQueue_run_step (p : Fin 8) (k : Nat) (h : k < 8) :
    (leaveQueue p s).ports[k].run.step = s.ports[k].run.step :=
  have x := congrArg (fun q => q.run.step) ((leaveQueue_poolWork p s).port k h); x
@[simp] theorem leaveQueue_run_clamped (p : Fin 8) (k : Nat) (h : k < 8) :
    (leaveQueue p s).ports[k].run.clamped = s.ports[k].run.clamped :=
  have x := congrArg (fun q => q.run.clamped) ((leaveQueue_poolWork p s).port k h); x
@[simp] theorem leaveQueue_run_throttled (p : Fin 8) (k : Nat) (h : k < 8) :
    (leaveQueue p s).ports[k].run.throttled = s.ports[k].run.throttled :=
  have x := congrArg (fun q => q.run.throttled) ((leaveQueue_poolWork p s).port k h); x
@[simp] theorem leaveQueue_run_resistance (p : Fin 8) (k : Nat) (h : k < 8) :
    (leaveQueue p s).ports[k].run.resistance = s.ports[k].run.resistance :=
  have x := congrArg (fun q => q.run.resistance) ((leaveQueue_poolWork p s).port k h); x
@[simp] theorem leaveQueue_run_applied (p : Fin 8) (k : Nat) (h : k < 8) :
    (leaveQueue p s).ports[k].run.applied = s.ports[k].run.applied :=
  have x := congrArg (fun q => q.run.applied) ((leaveQueue_poolWork p s).port k h); x
@[simp] theorem leaveQueue_run_cvIntegrator (p : Fin 8) (k : Nat) (h : k < 8) :
    (leaveQueue p s).ports[k].run.cvIntegrator = s.ports[k].run.cvIntegrator :=
  have x := congrArg (fun q => q.run.cvIntegrator) ((leaveQueue_poolWork p s).port k h); x
@[simp] theorem leaveQueue_run_bounds (p : Fin 8) (k : Nat) (h : k < 8) :
    (leaveQueue p s).ports[k].run.bounds = s.ports[k].run.bounds :=
  have x := congrArg (fun q => q.run.bounds) ((leaveQueue_poolWork p s).port k h); x

@[simp] theorem releaseUnreserved_headers (p : Fin 8) : (releaseUnreserved p s).headers = s.headers := (releaseUnreserved_poolWork p s).headers
@[simp] theorem releaseUnreserved_history (p : Fin 8) : (releaseUnreserved p s).history = s.history := (releaseUnreserved_poolWork p s).history
@[simp] theorem releaseUnreserved_alloc (p : Fin 8) : (releaseUnreserved p s).alloc = s.alloc := (releaseUnreserved_poolWork p s).alloc
@[simp] theorem releaseUnreserved_prot (p : Fin 8) : (releaseUnreserved p s).prot = s.prot := (releaseUnreserved_poolWork p s).prot
@[simp] theorem releaseUnreserved_chain (p : Fin 8) : (releaseUnreserved p s).chain = s.chain := (releaseUnreserved_poolWork p s).chain
@[simp] theorem releaseUnreserved_sent (p : Fin 8) : (releaseUnreserved p s).sent = s.sent := (releaseUnreserved_poolWork p s).sent
@[simp] theorem releaseUnreserved_instants (p : Fin 8) : (releaseUnreserved p s).instants = s.instants := (releaseUnreserved_poolWork p s).instants
@[simp] theorem releaseUnreserved_pending (p : Fin 8) : (releaseUnreserved p s).pending = s.pending := (releaseUnreserved_poolWork p s).pending
@[simp] theorem releaseUnreserved_port_owner (p : Fin 8) (k : Nat) (h : k < 8) :
    (releaseUnreserved p s).ports[k].owner = s.ports[k].owner :=
  have x := congrArg Port.owner ((releaseUnreserved_poolWork p s).port k h); x
@[simp] theorem releaseUnreserved_port_results (p : Fin 8) (k : Nat) (h : k < 8) :
    (releaseUnreserved p s).ports[k].results = s.ports[k].results :=
  have x := congrArg Port.results ((releaseUnreserved_poolWork p s).port k h); x
@[simp] theorem releaseUnreserved_port_lost (p : Fin 8) (k : Nat) (h : k < 8) :
    (releaseUnreserved p s).ports[k].lost = s.ports[k].lost :=
  have x := congrArg Port.lost ((releaseUnreserved_poolWork p s).port k h); x
@[simp] theorem releaseUnreserved_port_intake (p : Fin 8) (k : Nat) (h : k < 8) :
    (releaseUnreserved p s).ports[k].intake = s.ports[k].intake :=
  have x := congrArg Port.intake ((releaseUnreserved_poolWork p s).port k h); x
@[simp] theorem releaseUnreserved_port_acct (p : Fin 8) (k : Nat) (h : k < 8) :
    (releaseUnreserved p s).ports[k].acct = s.ports[k].acct :=
  have x := congrArg Port.acct ((releaseUnreserved_poolWork p s).port k h); x
@[simp] theorem releaseUnreserved_port_ident (p : Fin 8) (k : Nat) (h : k < 8) :
    (releaseUnreserved p s).ports[k].ident = s.ports[k].ident :=
  have x := congrArg Port.ident ((releaseUnreserved_poolWork p s).port k h); x
@[simp] theorem releaseUnreserved_port_alloc (p : Fin 8) (k : Nat) (h : k < 8) :
    (releaseUnreserved p s).ports[k].alloc = s.ports[k].alloc :=
  have x := congrArg Port.alloc ((releaseUnreserved_poolWork p s).port k h); x
@[simp] theorem releaseUnreserved_port_prot (p : Fin 8) (k : Nat) (h : k < 8) :
    (releaseUnreserved p s).ports[k].prot = s.ports[k].prot :=
  have x := congrArg Port.prot ((releaseUnreserved_poolWork p s).port k h); x
@[simp] theorem releaseUnreserved_port_mask (p : Fin 8) (k : Nat) (h : k < 8) :
    (releaseUnreserved p s).ports[k].mask = s.ports[k].mask :=
  have x := congrArg Port.mask ((releaseUnreserved_poolWork p s).port k h); x
@[simp] theorem releaseUnreserved_port_reserved (p : Fin 8) (k : Nat) (h : k < 8) :
    (releaseUnreserved p s).ports[k].phases.reserved = s.ports[k].phases.reserved :=
  have x := congrArg (fun q => q.phases.reserved) ((releaseUnreserved_poolWork p s).port k h); x
@[simp] theorem releaseUnreserved_run_state (p : Fin 8) (k : Nat) (h : k < 8) :
    (releaseUnreserved p s).ports[k].run.state = s.ports[k].run.state :=
  have x := congrArg (fun q => q.run.state) ((releaseUnreserved_poolWork p s).port k h); x
@[simp] theorem releaseUnreserved_run_causes (p : Fin 8) (k : Nat) (h : k < 8) :
    (releaseUnreserved p s).ports[k].run.causes = s.ports[k].run.causes :=
  have x := congrArg (fun q => q.run.causes) ((releaseUnreserved_poolWork p s).port k h); x
@[simp] theorem releaseUnreserved_run_program (p : Fin 8) (k : Nat) (h : k < 8) :
    (releaseUnreserved p s).ports[k].run.program = s.ports[k].run.program :=
  have x := congrArg (fun q => q.run.program) ((releaseUnreserved_poolWork p s).port k h); x
@[simp] theorem releaseUnreserved_run_lastProgram (p : Fin 8) (k : Nat) (h : k < 8) :
    (releaseUnreserved p s).ports[k].run.lastProgram = s.ports[k].run.lastProgram :=
  have x := congrArg (fun q => q.run.lastProgram) ((releaseUnreserved_poolWork p s).port k h); x
@[simp] theorem releaseUnreserved_run_countersUsed (p : Fin 8) (k : Nat) (h : k < 8) :
    (releaseUnreserved p s).ports[k].run.countersUsed = s.ports[k].run.countersUsed :=
  have x := congrArg (fun q => q.run.countersUsed) ((releaseUnreserved_poolWork p s).port k h); x
@[simp] theorem releaseUnreserved_run_stepIndex (p : Fin 8) (k : Nat) (h : k < 8) :
    (releaseUnreserved p s).ports[k].run.stepIndex = s.ports[k].run.stepIndex :=
  have x := congrArg (fun q => q.run.stepIndex) ((releaseUnreserved_poolWork p s).port k h); x
@[simp] theorem releaseUnreserved_run_subPhase (p : Fin 8) (k : Nat) (h : k < 8) :
    (releaseUnreserved p s).ports[k].run.subPhase = s.ports[k].run.subPhase :=
  have x := congrArg (fun q => q.run.subPhase) ((releaseUnreserved_poolWork p s).port k h); x
@[simp] theorem releaseUnreserved_run_counters (p : Fin 8) (k : Nat) (h : k < 8) :
    (releaseUnreserved p s).ports[k].run.counters = s.ports[k].run.counters :=
  have x := congrArg (fun q => q.run.counters) ((releaseUnreserved_poolWork p s).port k h); x
@[simp] theorem releaseUnreserved_run_stepTimer (p : Fin 8) (k : Nat) (h : k < 8) :
    (releaseUnreserved p s).ports[k].run.stepTimer = s.ports[k].run.stepTimer :=
  have x := congrArg (fun q => q.run.stepTimer) ((releaseUnreserved_poolWork p s).port k h); x
@[simp] theorem releaseUnreserved_run_throttledTime (p : Fin 8) (k : Nat) (h : k < 8) :
    (releaseUnreserved p s).ports[k].run.throttledTime = s.ports[k].run.throttledTime :=
  have x := congrArg (fun q => q.run.throttledTime) ((releaseUnreserved_poolWork p s).port k h); x
@[simp] theorem releaseUnreserved_run_runCycles (p : Fin 8) (k : Nat) (h : k < 8) :
    (releaseUnreserved p s).ports[k].run.runCycles = s.ports[k].run.runCycles :=
  have x := congrArg (fun q => q.run.runCycles) ((releaseUnreserved_poolWork p s).port k h); x
@[simp] theorem releaseUnreserved_run_outcome (p : Fin 8) (k : Nat) (h : k < 8) :
    (releaseUnreserved p s).ports[k].run.outcome = s.ports[k].run.outcome :=
  have x := congrArg (fun q => q.run.outcome) ((releaseUnreserved_poolWork p s).port k h); x
@[simp] theorem releaseUnreserved_run_endingAs (p : Fin 8) (k : Nat) (h : k < 8) :
    (releaseUnreserved p s).ports[k].run.endingAs = s.ports[k].run.endingAs :=
  have x := congrArg (fun q => q.run.endingAs) ((releaseUnreserved_poolWork p s).port k h); x
@[simp] theorem releaseUnreserved_run_step (p : Fin 8) (k : Nat) (h : k < 8) :
    (releaseUnreserved p s).ports[k].run.step = s.ports[k].run.step :=
  have x := congrArg (fun q => q.run.step) ((releaseUnreserved_poolWork p s).port k h); x
@[simp] theorem releaseUnreserved_run_clamped (p : Fin 8) (k : Nat) (h : k < 8) :
    (releaseUnreserved p s).ports[k].run.clamped = s.ports[k].run.clamped :=
  have x := congrArg (fun q => q.run.clamped) ((releaseUnreserved_poolWork p s).port k h); x
@[simp] theorem releaseUnreserved_run_throttled (p : Fin 8) (k : Nat) (h : k < 8) :
    (releaseUnreserved p s).ports[k].run.throttled = s.ports[k].run.throttled :=
  have x := congrArg (fun q => q.run.throttled) ((releaseUnreserved_poolWork p s).port k h); x
@[simp] theorem releaseUnreserved_run_resistance (p : Fin 8) (k : Nat) (h : k < 8) :
    (releaseUnreserved p s).ports[k].run.resistance = s.ports[k].run.resistance :=
  have x := congrArg (fun q => q.run.resistance) ((releaseUnreserved_poolWork p s).port k h); x
@[simp] theorem releaseUnreserved_run_applied (p : Fin 8) (k : Nat) (h : k < 8) :
    (releaseUnreserved p s).ports[k].run.applied = s.ports[k].run.applied :=
  have x := congrArg (fun q => q.run.applied) ((releaseUnreserved_poolWork p s).port k h); x
@[simp] theorem releaseUnreserved_run_cvIntegrator (p : Fin 8) (k : Nat) (h : k < 8) :
    (releaseUnreserved p s).ports[k].run.cvIntegrator = s.ports[k].run.cvIntegrator :=
  have x := congrArg (fun q => q.run.cvIntegrator) ((releaseUnreserved_poolWork p s).port k h); x
@[simp] theorem releaseUnreserved_run_bounds (p : Fin 8) (k : Nat) (h : k < 8) :
    (releaseUnreserved p s).ports[k].run.bounds = s.ports[k].run.bounds :=
  have x := congrArg (fun q => q.run.bounds) ((releaseUnreserved_poolWork p s).port k h); x

@[simp] theorem releaseAndServe_headers (p : Fin 8) (n : Nat) : (releaseAndServe p n s).headers = s.headers := (releaseAndServe_poolWork p n s).headers
@[simp] theorem releaseAndServe_history (p : Fin 8) (n : Nat) : (releaseAndServe p n s).history = s.history := (releaseAndServe_poolWork p n s).history
@[simp] theorem releaseAndServe_alloc (p : Fin 8) (n : Nat) : (releaseAndServe p n s).alloc = s.alloc := (releaseAndServe_poolWork p n s).alloc
@[simp] theorem releaseAndServe_prot (p : Fin 8) (n : Nat) : (releaseAndServe p n s).prot = s.prot := (releaseAndServe_poolWork p n s).prot
@[simp] theorem releaseAndServe_chain (p : Fin 8) (n : Nat) : (releaseAndServe p n s).chain = s.chain := (releaseAndServe_poolWork p n s).chain
@[simp] theorem releaseAndServe_sent (p : Fin 8) (n : Nat) : (releaseAndServe p n s).sent = s.sent := (releaseAndServe_poolWork p n s).sent
@[simp] theorem releaseAndServe_instants (p : Fin 8) (n : Nat) : (releaseAndServe p n s).instants = s.instants := (releaseAndServe_poolWork p n s).instants
@[simp] theorem releaseAndServe_pending (p : Fin 8) (n : Nat) : (releaseAndServe p n s).pending = s.pending := (releaseAndServe_poolWork p n s).pending
@[simp] theorem releaseAndServe_port_owner (p : Fin 8) (n : Nat) (k : Nat) (h : k < 8) :
    (releaseAndServe p n s).ports[k].owner = s.ports[k].owner :=
  have x := congrArg Port.owner ((releaseAndServe_poolWork p n s).port k h); x
@[simp] theorem releaseAndServe_port_results (p : Fin 8) (n : Nat) (k : Nat) (h : k < 8) :
    (releaseAndServe p n s).ports[k].results = s.ports[k].results :=
  have x := congrArg Port.results ((releaseAndServe_poolWork p n s).port k h); x
@[simp] theorem releaseAndServe_port_lost (p : Fin 8) (n : Nat) (k : Nat) (h : k < 8) :
    (releaseAndServe p n s).ports[k].lost = s.ports[k].lost :=
  have x := congrArg Port.lost ((releaseAndServe_poolWork p n s).port k h); x
@[simp] theorem releaseAndServe_port_intake (p : Fin 8) (n : Nat) (k : Nat) (h : k < 8) :
    (releaseAndServe p n s).ports[k].intake = s.ports[k].intake :=
  have x := congrArg Port.intake ((releaseAndServe_poolWork p n s).port k h); x
@[simp] theorem releaseAndServe_port_acct (p : Fin 8) (n : Nat) (k : Nat) (h : k < 8) :
    (releaseAndServe p n s).ports[k].acct = s.ports[k].acct :=
  have x := congrArg Port.acct ((releaseAndServe_poolWork p n s).port k h); x
@[simp] theorem releaseAndServe_port_ident (p : Fin 8) (n : Nat) (k : Nat) (h : k < 8) :
    (releaseAndServe p n s).ports[k].ident = s.ports[k].ident :=
  have x := congrArg Port.ident ((releaseAndServe_poolWork p n s).port k h); x
@[simp] theorem releaseAndServe_port_alloc (p : Fin 8) (n : Nat) (k : Nat) (h : k < 8) :
    (releaseAndServe p n s).ports[k].alloc = s.ports[k].alloc :=
  have x := congrArg Port.alloc ((releaseAndServe_poolWork p n s).port k h); x
@[simp] theorem releaseAndServe_port_prot (p : Fin 8) (n : Nat) (k : Nat) (h : k < 8) :
    (releaseAndServe p n s).ports[k].prot = s.ports[k].prot :=
  have x := congrArg Port.prot ((releaseAndServe_poolWork p n s).port k h); x
@[simp] theorem releaseAndServe_port_mask (p : Fin 8) (n : Nat) (k : Nat) (h : k < 8) :
    (releaseAndServe p n s).ports[k].mask = s.ports[k].mask :=
  have x := congrArg Port.mask ((releaseAndServe_poolWork p n s).port k h); x
@[simp] theorem releaseAndServe_port_reserved (p : Fin 8) (n : Nat) (k : Nat) (h : k < 8) :
    (releaseAndServe p n s).ports[k].phases.reserved = s.ports[k].phases.reserved :=
  have x := congrArg (fun q => q.phases.reserved) ((releaseAndServe_poolWork p n s).port k h); x
@[simp] theorem releaseAndServe_run_state (p : Fin 8) (n : Nat) (k : Nat) (h : k < 8) :
    (releaseAndServe p n s).ports[k].run.state = s.ports[k].run.state :=
  have x := congrArg (fun q => q.run.state) ((releaseAndServe_poolWork p n s).port k h); x
@[simp] theorem releaseAndServe_run_causes (p : Fin 8) (n : Nat) (k : Nat) (h : k < 8) :
    (releaseAndServe p n s).ports[k].run.causes = s.ports[k].run.causes :=
  have x := congrArg (fun q => q.run.causes) ((releaseAndServe_poolWork p n s).port k h); x
@[simp] theorem releaseAndServe_run_program (p : Fin 8) (n : Nat) (k : Nat) (h : k < 8) :
    (releaseAndServe p n s).ports[k].run.program = s.ports[k].run.program :=
  have x := congrArg (fun q => q.run.program) ((releaseAndServe_poolWork p n s).port k h); x
@[simp] theorem releaseAndServe_run_lastProgram (p : Fin 8) (n : Nat) (k : Nat) (h : k < 8) :
    (releaseAndServe p n s).ports[k].run.lastProgram = s.ports[k].run.lastProgram :=
  have x := congrArg (fun q => q.run.lastProgram) ((releaseAndServe_poolWork p n s).port k h); x
@[simp] theorem releaseAndServe_run_countersUsed (p : Fin 8) (n : Nat) (k : Nat) (h : k < 8) :
    (releaseAndServe p n s).ports[k].run.countersUsed = s.ports[k].run.countersUsed :=
  have x := congrArg (fun q => q.run.countersUsed) ((releaseAndServe_poolWork p n s).port k h); x
@[simp] theorem releaseAndServe_run_stepIndex (p : Fin 8) (n : Nat) (k : Nat) (h : k < 8) :
    (releaseAndServe p n s).ports[k].run.stepIndex = s.ports[k].run.stepIndex :=
  have x := congrArg (fun q => q.run.stepIndex) ((releaseAndServe_poolWork p n s).port k h); x
@[simp] theorem releaseAndServe_run_subPhase (p : Fin 8) (n : Nat) (k : Nat) (h : k < 8) :
    (releaseAndServe p n s).ports[k].run.subPhase = s.ports[k].run.subPhase :=
  have x := congrArg (fun q => q.run.subPhase) ((releaseAndServe_poolWork p n s).port k h); x
@[simp] theorem releaseAndServe_run_counters (p : Fin 8) (n : Nat) (k : Nat) (h : k < 8) :
    (releaseAndServe p n s).ports[k].run.counters = s.ports[k].run.counters :=
  have x := congrArg (fun q => q.run.counters) ((releaseAndServe_poolWork p n s).port k h); x
@[simp] theorem releaseAndServe_run_stepTimer (p : Fin 8) (n : Nat) (k : Nat) (h : k < 8) :
    (releaseAndServe p n s).ports[k].run.stepTimer = s.ports[k].run.stepTimer :=
  have x := congrArg (fun q => q.run.stepTimer) ((releaseAndServe_poolWork p n s).port k h); x
@[simp] theorem releaseAndServe_run_throttledTime (p : Fin 8) (n : Nat) (k : Nat) (h : k < 8) :
    (releaseAndServe p n s).ports[k].run.throttledTime = s.ports[k].run.throttledTime :=
  have x := congrArg (fun q => q.run.throttledTime) ((releaseAndServe_poolWork p n s).port k h); x
@[simp] theorem releaseAndServe_run_runCycles (p : Fin 8) (n : Nat) (k : Nat) (h : k < 8) :
    (releaseAndServe p n s).ports[k].run.runCycles = s.ports[k].run.runCycles :=
  have x := congrArg (fun q => q.run.runCycles) ((releaseAndServe_poolWork p n s).port k h); x
@[simp] theorem releaseAndServe_run_outcome (p : Fin 8) (n : Nat) (k : Nat) (h : k < 8) :
    (releaseAndServe p n s).ports[k].run.outcome = s.ports[k].run.outcome :=
  have x := congrArg (fun q => q.run.outcome) ((releaseAndServe_poolWork p n s).port k h); x
@[simp] theorem releaseAndServe_run_endingAs (p : Fin 8) (n : Nat) (k : Nat) (h : k < 8) :
    (releaseAndServe p n s).ports[k].run.endingAs = s.ports[k].run.endingAs :=
  have x := congrArg (fun q => q.run.endingAs) ((releaseAndServe_poolWork p n s).port k h); x
@[simp] theorem releaseAndServe_run_step (p : Fin 8) (n : Nat) (k : Nat) (h : k < 8) :
    (releaseAndServe p n s).ports[k].run.step = s.ports[k].run.step :=
  have x := congrArg (fun q => q.run.step) ((releaseAndServe_poolWork p n s).port k h); x
@[simp] theorem releaseAndServe_run_clamped (p : Fin 8) (n : Nat) (k : Nat) (h : k < 8) :
    (releaseAndServe p n s).ports[k].run.clamped = s.ports[k].run.clamped :=
  have x := congrArg (fun q => q.run.clamped) ((releaseAndServe_poolWork p n s).port k h); x
@[simp] theorem releaseAndServe_run_throttled (p : Fin 8) (n : Nat) (k : Nat) (h : k < 8) :
    (releaseAndServe p n s).ports[k].run.throttled = s.ports[k].run.throttled :=
  have x := congrArg (fun q => q.run.throttled) ((releaseAndServe_poolWork p n s).port k h); x
@[simp] theorem releaseAndServe_run_resistance (p : Fin 8) (n : Nat) (k : Nat) (h : k < 8) :
    (releaseAndServe p n s).ports[k].run.resistance = s.ports[k].run.resistance :=
  have x := congrArg (fun q => q.run.resistance) ((releaseAndServe_poolWork p n s).port k h); x
@[simp] theorem releaseAndServe_run_applied (p : Fin 8) (n : Nat) (k : Nat) (h : k < 8) :
    (releaseAndServe p n s).ports[k].run.applied = s.ports[k].run.applied :=
  have x := congrArg (fun q => q.run.applied) ((releaseAndServe_poolWork p n s).port k h); x
@[simp] theorem releaseAndServe_run_cvIntegrator (p : Fin 8) (n : Nat) (k : Nat) (h : k < 8) :
    (releaseAndServe p n s).ports[k].run.cvIntegrator = s.ports[k].run.cvIntegrator :=
  have x := congrArg (fun q => q.run.cvIntegrator) ((releaseAndServe_poolWork p n s).port k h); x
@[simp] theorem releaseAndServe_run_bounds (p : Fin 8) (n : Nat) (k : Nat) (h : k < 8) :
    (releaseAndServe p n s).ports[k].run.bounds = s.ports[k].run.bounds :=
  have x := congrArg (fun q => q.run.bounds) ((releaseAndServe_poolWork p n s).port k h); x

@[simp] theorem reformNeeds_headers : (reformNeeds s).headers = s.headers := (reformNeeds_poolWork s).headers
@[simp] theorem reformNeeds_history : (reformNeeds s).history = s.history := (reformNeeds_poolWork s).history
@[simp] theorem reformNeeds_alloc : (reformNeeds s).alloc = s.alloc := (reformNeeds_poolWork s).alloc
@[simp] theorem reformNeeds_prot : (reformNeeds s).prot = s.prot := (reformNeeds_poolWork s).prot
@[simp] theorem reformNeeds_chain : (reformNeeds s).chain = s.chain := (reformNeeds_poolWork s).chain
@[simp] theorem reformNeeds_sent : (reformNeeds s).sent = s.sent := (reformNeeds_poolWork s).sent
@[simp] theorem reformNeeds_instants : (reformNeeds s).instants = s.instants := (reformNeeds_poolWork s).instants
@[simp] theorem reformNeeds_pending : (reformNeeds s).pending = s.pending := (reformNeeds_poolWork s).pending
@[simp] theorem reformNeeds_port_owner (k : Nat) (h : k < 8) :
    (reformNeeds s).ports[k].owner = s.ports[k].owner :=
  have x := congrArg Port.owner ((reformNeeds_poolWork s).port k h); x
@[simp] theorem reformNeeds_port_results (k : Nat) (h : k < 8) :
    (reformNeeds s).ports[k].results = s.ports[k].results :=
  have x := congrArg Port.results ((reformNeeds_poolWork s).port k h); x
@[simp] theorem reformNeeds_port_lost (k : Nat) (h : k < 8) :
    (reformNeeds s).ports[k].lost = s.ports[k].lost :=
  have x := congrArg Port.lost ((reformNeeds_poolWork s).port k h); x
@[simp] theorem reformNeeds_port_intake (k : Nat) (h : k < 8) :
    (reformNeeds s).ports[k].intake = s.ports[k].intake :=
  have x := congrArg Port.intake ((reformNeeds_poolWork s).port k h); x
@[simp] theorem reformNeeds_port_acct (k : Nat) (h : k < 8) :
    (reformNeeds s).ports[k].acct = s.ports[k].acct :=
  have x := congrArg Port.acct ((reformNeeds_poolWork s).port k h); x
@[simp] theorem reformNeeds_port_ident (k : Nat) (h : k < 8) :
    (reformNeeds s).ports[k].ident = s.ports[k].ident :=
  have x := congrArg Port.ident ((reformNeeds_poolWork s).port k h); x
@[simp] theorem reformNeeds_port_alloc (k : Nat) (h : k < 8) :
    (reformNeeds s).ports[k].alloc = s.ports[k].alloc :=
  have x := congrArg Port.alloc ((reformNeeds_poolWork s).port k h); x
@[simp] theorem reformNeeds_port_prot (k : Nat) (h : k < 8) :
    (reformNeeds s).ports[k].prot = s.ports[k].prot :=
  have x := congrArg Port.prot ((reformNeeds_poolWork s).port k h); x
@[simp] theorem reformNeeds_port_mask (k : Nat) (h : k < 8) :
    (reformNeeds s).ports[k].mask = s.ports[k].mask :=
  have x := congrArg Port.mask ((reformNeeds_poolWork s).port k h); x
@[simp] theorem reformNeeds_port_reserved (k : Nat) (h : k < 8) :
    (reformNeeds s).ports[k].phases.reserved = s.ports[k].phases.reserved :=
  have x := congrArg (fun q => q.phases.reserved) ((reformNeeds_poolWork s).port k h); x
@[simp] theorem reformNeeds_run_state (k : Nat) (h : k < 8) :
    (reformNeeds s).ports[k].run.state = s.ports[k].run.state :=
  have x := congrArg (fun q => q.run.state) ((reformNeeds_poolWork s).port k h); x
@[simp] theorem reformNeeds_run_causes (k : Nat) (h : k < 8) :
    (reformNeeds s).ports[k].run.causes = s.ports[k].run.causes :=
  have x := congrArg (fun q => q.run.causes) ((reformNeeds_poolWork s).port k h); x
@[simp] theorem reformNeeds_run_program (k : Nat) (h : k < 8) :
    (reformNeeds s).ports[k].run.program = s.ports[k].run.program :=
  have x := congrArg (fun q => q.run.program) ((reformNeeds_poolWork s).port k h); x
@[simp] theorem reformNeeds_run_lastProgram (k : Nat) (h : k < 8) :
    (reformNeeds s).ports[k].run.lastProgram = s.ports[k].run.lastProgram :=
  have x := congrArg (fun q => q.run.lastProgram) ((reformNeeds_poolWork s).port k h); x
@[simp] theorem reformNeeds_run_countersUsed (k : Nat) (h : k < 8) :
    (reformNeeds s).ports[k].run.countersUsed = s.ports[k].run.countersUsed :=
  have x := congrArg (fun q => q.run.countersUsed) ((reformNeeds_poolWork s).port k h); x
@[simp] theorem reformNeeds_run_stepIndex (k : Nat) (h : k < 8) :
    (reformNeeds s).ports[k].run.stepIndex = s.ports[k].run.stepIndex :=
  have x := congrArg (fun q => q.run.stepIndex) ((reformNeeds_poolWork s).port k h); x
@[simp] theorem reformNeeds_run_subPhase (k : Nat) (h : k < 8) :
    (reformNeeds s).ports[k].run.subPhase = s.ports[k].run.subPhase :=
  have x := congrArg (fun q => q.run.subPhase) ((reformNeeds_poolWork s).port k h); x
@[simp] theorem reformNeeds_run_counters (k : Nat) (h : k < 8) :
    (reformNeeds s).ports[k].run.counters = s.ports[k].run.counters :=
  have x := congrArg (fun q => q.run.counters) ((reformNeeds_poolWork s).port k h); x
@[simp] theorem reformNeeds_run_stepTimer (k : Nat) (h : k < 8) :
    (reformNeeds s).ports[k].run.stepTimer = s.ports[k].run.stepTimer :=
  have x := congrArg (fun q => q.run.stepTimer) ((reformNeeds_poolWork s).port k h); x
@[simp] theorem reformNeeds_run_throttledTime (k : Nat) (h : k < 8) :
    (reformNeeds s).ports[k].run.throttledTime = s.ports[k].run.throttledTime :=
  have x := congrArg (fun q => q.run.throttledTime) ((reformNeeds_poolWork s).port k h); x
@[simp] theorem reformNeeds_run_runCycles (k : Nat) (h : k < 8) :
    (reformNeeds s).ports[k].run.runCycles = s.ports[k].run.runCycles :=
  have x := congrArg (fun q => q.run.runCycles) ((reformNeeds_poolWork s).port k h); x
@[simp] theorem reformNeeds_run_outcome (k : Nat) (h : k < 8) :
    (reformNeeds s).ports[k].run.outcome = s.ports[k].run.outcome :=
  have x := congrArg (fun q => q.run.outcome) ((reformNeeds_poolWork s).port k h); x
@[simp] theorem reformNeeds_run_endingAs (k : Nat) (h : k < 8) :
    (reformNeeds s).ports[k].run.endingAs = s.ports[k].run.endingAs :=
  have x := congrArg (fun q => q.run.endingAs) ((reformNeeds_poolWork s).port k h); x
@[simp] theorem reformNeeds_run_step (k : Nat) (h : k < 8) :
    (reformNeeds s).ports[k].run.step = s.ports[k].run.step :=
  have x := congrArg (fun q => q.run.step) ((reformNeeds_poolWork s).port k h); x
@[simp] theorem reformNeeds_run_clamped (k : Nat) (h : k < 8) :
    (reformNeeds s).ports[k].run.clamped = s.ports[k].run.clamped :=
  have x := congrArg (fun q => q.run.clamped) ((reformNeeds_poolWork s).port k h); x
@[simp] theorem reformNeeds_run_throttled (k : Nat) (h : k < 8) :
    (reformNeeds s).ports[k].run.throttled = s.ports[k].run.throttled :=
  have x := congrArg (fun q => q.run.throttled) ((reformNeeds_poolWork s).port k h); x
@[simp] theorem reformNeeds_run_resistance (k : Nat) (h : k < 8) :
    (reformNeeds s).ports[k].run.resistance = s.ports[k].run.resistance :=
  have x := congrArg (fun q => q.run.resistance) ((reformNeeds_poolWork s).port k h); x
@[simp] theorem reformNeeds_run_applied (k : Nat) (h : k < 8) :
    (reformNeeds s).ports[k].run.applied = s.ports[k].run.applied :=
  have x := congrArg (fun q => q.run.applied) ((reformNeeds_poolWork s).port k h); x
@[simp] theorem reformNeeds_run_cvIntegrator (k : Nat) (h : k < 8) :
    (reformNeeds s).ports[k].run.cvIntegrator = s.ports[k].run.cvIntegrator :=
  have x := congrArg (fun q => q.run.cvIntegrator) ((reformNeeds_poolWork s).port k h); x
@[simp] theorem reformNeeds_run_bounds (k : Nat) (h : k < 8) :
    (reformNeeds s).ports[k].run.bounds = s.ports[k].run.bounds :=
  have x := congrArg (fun q => q.run.bounds) ((reformNeeds_poolWork s).port k h); x

@[simp] theorem serveList_cmd : ∀ (l : List (Fin 8 × Nat)) (s : State), (serveList l s).cmd = s.cmd
  | [], _ => rfl
  | (p, n) :: rest, s => by
    unfold serveList; split
    · rw [serveList_cmd rest]; simp
    · rfl

@[simp] theorem serveQueue_cmd : (serveQueue s).cmd = s.cmd := serveList_cmd _ s

@[simp] theorem leaveQueue_cmd (p : Fin 8) : (leaveQueue p s).cmd = s.cmd := by
  unfold leaveQueue; dsimp only; split <;> simp

@[simp] theorem releaseAndServe_cmd (p : Fin 8) (n : Nat) : (releaseAndServe p n s).cmd = s.cmd := by
  unfold releaseAndServe; split <;> simp

@[simp] theorem releaseUnreserved_cmd (p : Fin 8) : (releaseUnreserved p s).cmd = s.cmd := releaseAndServe_cmd s p _

@[simp] theorem reformNeeds_cmd : (reformNeeds s).cmd = s.cmd := by
  unfold reformNeeds
  simp only [serveQueue_cmd]
  exact (foldl_cmd _ (by intros; rfl) _ _).trans (foldl_cmd _ (by intros; rfl) _ _)

end Sys2Proof.Machine
end

