-- ==== Sys2Proof/Laws/Ops.lean ====
section
/-! SUPPORT. What the shared operations can do: the allocator's rounds and basis events, folds, result records, fault records,
the release of a program and the current command. Each operation is told once, by what it leaves and what it sets. -/

namespace Sys2Proof.Machine

variable (s : State)

/-! ### Delivery of a reply -/

@[simp] theorem deliver_ports (iss : Issuer) (code : Nat) (x : State × Reply) : (deliver iss code x).ports = x.1.ports := by
  cases iss <;> rfl
@[simp] theorem deliver_headers (iss : Issuer) (code : Nat) (x : State × Reply) : (deliver iss code x).headers = x.1.headers := by
  cases iss <;> rfl
@[simp] theorem deliver_history (iss : Issuer) (code : Nat) (x : State × Reply) : (deliver iss code x).history = x.1.history := by
  cases iss <;> rfl
@[simp] theorem deliver_alloc (iss : Issuer) (code : Nat) (x : State × Reply) : (deliver iss code x).alloc = x.1.alloc := by
  cases iss <;> rfl
@[simp] theorem deliver_pool (iss : Issuer) (code : Nat) (x : State × Reply) : (deliver iss code x).pool = x.1.pool := by
  cases iss <;> rfl
@[simp] theorem deliver_prot (iss : Issuer) (code : Nat) (x : State × Reply) : (deliver iss code x).prot = x.1.prot := by
  cases iss <;> rfl
@[simp] theorem deliver_sent (iss : Issuer) (code : Nat) (x : State × Reply) : (deliver iss code x).sent = x.1.sent := by
  cases iss <;> rfl
@[simp] theorem deliver_instants (iss : Issuer) (code : Nat) (x : State × Reply) : (deliver iss code x).instants = x.1.instants := by
  cases iss <;> rfl
@[simp] theorem deliver_pending (iss : Issuer) (code : Nat) (x : State × Reply) : (deliver iss code x).pending = x.1.pending := by
  cases iss <;> rfl

/-- A reply touches no attention set. -/
@[simp] theorem deliver_stationSet (iss : Issuer) (code : Nat) (x : State × Reply) :
    (deliver iss code x).cmd.stationSet = x.1.cmd.stationSet := by cases iss <;> rfl

@[simp] theorem deliver_hallSet (iss : Issuer) (code : Nat) (x : State × Reply) :
    (deliver iss code x).cmd.hallSet = x.1.cmd.hallSet := by cases iss <;> rfl

@[simp] theorem flagged_deliver (p : Fin 8) (f : PortFlag) (iss : Issuer) (code : Nat) (x : State × Reply) :
    flagged p f (deliver iss code x) ↔ flagged p f x.1 := by cases iss <;> rfl

@[simp] theorem cabinetFlagged_deliver (f : CabinetFlag) (iss : Issuer) (code : Nat) (x : State × Reply) :
    cabinetFlagged f (deliver iss code x) ↔ cabinetFlagged f x.1 := by cases iss <;> rfl

/-! ### Rounds (R127 to R131) -/

@[simp] theorem round_headers : (round s).headers = s.headers := rfl
@[simp] theorem round_history : (round s).history = s.history := rfl
@[simp] theorem round_pool : (round s).pool = s.pool := rfl
@[simp] theorem round_prot : (round s).prot = s.prot := rfl
@[simp] theorem round_chain : (round s).chain = s.chain := rfl
@[simp] theorem round_cmd : (round s).cmd = s.cmd := rfl
@[simp] theorem round_sent : (round s).sent = s.sent := rfl
@[simp] theorem round_instants : (round s).instants = s.instants := rfl
@[simp] theorem round_pending : (round s).pending = s.pending := rfl
@[simp] theorem round_alloc_source : (round s).alloc.source = s.alloc.source := rfl
@[simp] theorem round_alloc_inForce : (round s).alloc.inForce = s.alloc.inForce := rfl
@[simp] theorem round_alloc_standalone : (round s).alloc.standalone = s.alloc.standalone := rfl
@[simp] theorem round_alloc_fallback : (round s).alloc.fallback = s.alloc.fallback := rfl
@[simp] theorem round_alloc_rampTime : (round s).alloc.rampTime = s.alloc.rampTime := rfl

/-- A round sets the eight grants of the ports' lines and nothing else of a port (R127). -/
@[simp] theorem round_getElem (k : Nat) (h : k < 8) : (round s).ports[k] =
    { s.ports[k] with alloc := { s.ports[k].alloc with
        grant := (allocate s.alloc.inForce (requests s)).1.getD k 0 } } := by
  simp only [round, Vector.getElem_ofFn, Fin.getElem_fin]

/-! ### Basis events (R123, R126) -/

/-- A basis event sets one port's line and runs a round: the other fields of the ports stand. -/
theorem setBasis_eq (p : Fin 8) (b : Option Basis) : setBasis p b s =
    round (modPort p (fun q => formRequest s.prot.limits.maxPower { q with alloc := { q.alloc with basis := b } }) s) := rfl

@[simp] theorem setBasis_headers (p : Fin 8) (b : Option Basis) : (setBasis p b s).headers = s.headers := rfl
@[simp] theorem setBasis_history (p : Fin 8) (b : Option Basis) : (setBasis p b s).history = s.history := rfl
@[simp] theorem setBasis_pool (p : Fin 8) (b : Option Basis) : (setBasis p b s).pool = s.pool := rfl
@[simp] theorem setBasis_prot (p : Fin 8) (b : Option Basis) : (setBasis p b s).prot = s.prot := rfl
@[simp] theorem setBasis_chain (p : Fin 8) (b : Option Basis) : (setBasis p b s).chain = s.chain := rfl
@[simp] theorem setBasis_cmd (p : Fin 8) (b : Option Basis) : (setBasis p b s).cmd = s.cmd := rfl
@[simp] theorem setBasis_sent (p : Fin 8) (b : Option Basis) : (setBasis p b s).sent = s.sent := rfl
@[simp] theorem setBasis_instants (p : Fin 8) (b : Option Basis) : (setBasis p b s).instants = s.instants := rfl
@[simp] theorem setBasis_pending (p : Fin 8) (b : Option Basis) : (setBasis p b s).pending = s.pending := rfl
@[simp] theorem setBasis_alloc_source (p : Fin 8) (b : Option Basis) : (setBasis p b s).alloc.source = s.alloc.source := rfl
@[simp] theorem setBasis_alloc_inForce (p : Fin 8) (b : Option Basis) : (setBasis p b s).alloc.inForce = s.alloc.inForce := rfl
@[simp] theorem setBasis_alloc_standalone (p : Fin 8) (b : Option Basis) : (setBasis p b s).alloc.standalone = s.alloc.standalone := rfl
@[simp] theorem setBasis_alloc_fallback (p : Fin 8) (b : Option Basis) : (setBasis p b s).alloc.fallback = s.alloc.fallback := rfl
@[simp] theorem setBasis_alloc_rampTime (p : Fin 8) (b : Option Basis) : (setBasis p b s).alloc.rampTime = s.alloc.rampTime := rfl
@[simp] theorem setBasis_port_run (p : Fin 8) (b : Option Basis) (k : Nat) (h : k < 8) :
    (setBasis p b s).ports[k].run = s.ports[k].run := by
  rw [setBasis_eq, round_getElem]; simp only [modPort_getElem]; split
  · next e => subst e; rfl
  · rfl

@[simp] theorem setBasis_port_owner (p : Fin 8) (b : Option Basis) (k : Nat) (h : k < 8) :
    (setBasis p b s).ports[k].owner = s.ports[k].owner := by
  rw [setBasis_eq, round_getElem]; simp only [modPort_getElem]; split
  · next e => subst e; rfl
  · rfl

@[simp] theorem setBasis_port_results (p : Fin 8) (b : Option Basis) (k : Nat) (h : k < 8) :
    (setBasis p b s).ports[k].results = s.ports[k].results := by
  rw [setBasis_eq, round_getElem]; simp only [modPort_getElem]; split
  · next e => subst e; rfl
  · rfl

@[simp] theorem setBasis_port_lost (p : Fin 8) (b : Option Basis) (k : Nat) (h : k < 8) :
    (setBasis p b s).ports[k].lost = s.ports[k].lost := by
  rw [setBasis_eq, round_getElem]; simp only [modPort_getElem]; split
  · next e => subst e; rfl
  · rfl

@[simp] theorem setBasis_port_intake (p : Fin 8) (b : Option Basis) (k : Nat) (h : k < 8) :
    (setBasis p b s).ports[k].intake = s.ports[k].intake := by
  rw [setBasis_eq, round_getElem]; simp only [modPort_getElem]; split
  · next e => subst e; rfl
  · rfl

@[simp] theorem setBasis_port_acct (p : Fin 8) (b : Option Basis) (k : Nat) (h : k < 8) :
    (setBasis p b s).ports[k].acct = s.ports[k].acct := by
  rw [setBasis_eq, round_getElem]; simp only [modPort_getElem]; split
  · next e => subst e; rfl
  · rfl

@[simp] theorem setBasis_port_ident (p : Fin 8) (b : Option Basis) (k : Nat) (h : k < 8) :
    (setBasis p b s).ports[k].ident = s.ports[k].ident := by
  rw [setBasis_eq, round_getElem]; simp only [modPort_getElem]; split
  · next e => subst e; rfl
  · rfl

@[simp] theorem setBasis_port_phases (p : Fin 8) (b : Option Basis) (k : Nat) (h : k < 8) :
    (setBasis p b s).ports[k].phases = s.ports[k].phases := by
  rw [setBasis_eq, round_getElem]; simp only [modPort_getElem]; split
  · next e => subst e; rfl
  · rfl

@[simp] theorem setBasis_port_prot (p : Fin 8) (b : Option Basis) (k : Nat) (h : k < 8) :
    (setBasis p b s).ports[k].prot = s.ports[k].prot := by
  rw [setBasis_eq, round_getElem]; simp only [modPort_getElem]; split
  · next e => subst e; rfl
  · rfl

@[simp] theorem setBasis_port_mask (p : Fin 8) (b : Option Basis) (k : Nat) (h : k < 8) :
    (setBasis p b s).ports[k].mask = s.ports[k].mask := by
  rw [setBasis_eq, round_getElem]; simp only [modPort_getElem]; split
  · next e => subst e; rfl
  · rfl

@[simp] theorem setBasis_basis (p : Fin 8) (b : Option Basis) (k : Nat) (h : k < 8) :
    (setBasis p b s).ports[k].alloc.basis = if k = p then b else s.ports[k].alloc.basis := by
  rw [setBasis_eq, round_getElem]; simp only [modPort_getElem]; split <;> rfl

/-- With no basis a port asks for 0 W (R124, R125). -/
@[simp] theorem setBasis_none_request (p : Fin 8) : (setBasis p none s).ports[p.val].alloc.request = 0 := by
  rw [setBasis_eq, round_getElem]; simp [formRequest, formula, clampRequest]

/-! ### Folds (R86) -/

@[simp] theorem fold_headers (p : Fin 8) : (fold p s).headers = s.headers := by unfold fold; split <;> rfl
@[simp] theorem fold_alloc (p : Fin 8) : (fold p s).alloc = s.alloc := by unfold fold; split <;> rfl
@[simp] theorem fold_pool (p : Fin 8) : (fold p s).pool = s.pool := by unfold fold; split <;> rfl
@[simp] theorem fold_prot (p : Fin 8) : (fold p s).prot = s.prot := by unfold fold; split <;> rfl
@[simp] theorem fold_chain (p : Fin 8) : (fold p s).chain = s.chain := by unfold fold; split <;> rfl
@[simp] theorem fold_cmd (p : Fin 8) : (fold p s).cmd = s.cmd := by unfold fold; split <;> rfl
@[simp] theorem fold_sent (p : Fin 8) : (fold p s).sent = s.sent := by unfold fold; split <;> rfl
@[simp] theorem fold_instants (p : Fin 8) : (fold p s).instants = s.instants := by unfold fold; split <;> rfl
@[simp] theorem fold_pending (p : Fin 8) : (fold p s).pending = s.pending := by unfold fold; split <;> rfl
@[simp] theorem fold_port_run (p : Fin 8) (k : Nat) (h : k < 8) : (fold p s).ports[k].run = s.ports[k].run := by
  unfold fold; split
  · rfl
  · rw [modAcct_getElem]; split
    · next e => subst e; rfl
    · rfl

@[simp] theorem fold_port_owner (p : Fin 8) (k : Nat) (h : k < 8) : (fold p s).ports[k].owner = s.ports[k].owner := by
  unfold fold; split
  · rfl
  · rw [modAcct_getElem]; split
    · next e => subst e; rfl
    · rfl

@[simp] theorem fold_port_results (p : Fin 8) (k : Nat) (h : k < 8) : (fold p s).ports[k].results = s.ports[k].results := by
  unfold fold; split
  · rfl
  · rw [modAcct_getElem]; split
    · next e => subst e; rfl
    · rfl

@[simp] theorem fold_port_lost (p : Fin 8) (k : Nat) (h : k < 8) : (fold p s).ports[k].lost = s.ports[k].lost := by
  unfold fold; split
  · rfl
  · rw [modAcct_getElem]; split
    · next e => subst e; rfl
    · rfl

@[simp] theorem fold_port_intake (p : Fin 8) (k : Nat) (h : k < 8) : (fold p s).ports[k].intake = s.ports[k].intake := by
  unfold fold; split
  · rfl
  · rw [modAcct_getElem]; split
    · next e => subst e; rfl
    · rfl

@[simp] theorem fold_port_ident (p : Fin 8) (k : Nat) (h : k < 8) : (fold p s).ports[k].ident = s.ports[k].ident := by
  unfold fold; split
  · rfl
  · rw [modAcct_getElem]; split
    · next e => subst e; rfl
    · rfl

@[simp] theorem fold_port_alloc (p : Fin 8) (k : Nat) (h : k < 8) : (fold p s).ports[k].alloc = s.ports[k].alloc := by
  unfold fold; split
  · rfl
  · rw [modAcct_getElem]; split
    · next e => subst e; rfl
    · rfl

@[simp] theorem fold_port_phases (p : Fin 8) (k : Nat) (h : k < 8) : (fold p s).ports[k].phases = s.ports[k].phases := by
  unfold fold; split
  · rfl
  · rw [modAcct_getElem]; split
    · next e => subst e; rfl
    · rfl

@[simp] theorem fold_port_prot (p : Fin 8) (k : Nat) (h : k < 8) : (fold p s).ports[k].prot = s.ports[k].prot := by
  unfold fold; split
  · rfl
  · rw [modAcct_getElem]; split
    · next e => subst e; rfl
    · rfl

@[simp] theorem fold_port_mask (p : Fin 8) (k : Nat) (h : k < 8) : (fold p s).ports[k].mask = s.ports[k].mask := by
  unfold fold; split
  · rfl
  · rw [modAcct_getElem]; split
    · next e => subst e; rfl
    · rfl

/-- A fold clears the unfolded set of a port with an entry bound and touches no other account (R86). -/
theorem fold_acct (p : Fin 8) (k : Nat) (h : k < 8) : (fold p s).ports[k].acct =
    if k = p ∧ s.ports[k].ident.bound ≠ none then { s.ports[k].acct with unfolded := .cleared } else s.ports[k].acct := by
  unfold fold; split
  · next e => rw [if_neg]; rintro ⟨rfl, x⟩; exact x e
  · next e he =>
    rw [modAcct_getElem]; split
    · next x => subst x; rw [if_pos ⟨rfl, by rw [← Fin.getElem_fin, he]; simp⟩]; rfl
    · next x => rw [if_neg (fun y => x y.1)]; rfl

/-- A fold moves no entry, and touches none but the bound one (R87). -/
theorem fold_history (p : Fin 8) : (fold p s).history.recency = s.history.recency ∧
    (fold p s).history.evictions = s.history.evictions ∧ (fold p s).history.waiting = s.history.waiting ∧
    ∀ (k : Nat) (h : k < 64), (fold p s).history.entries[k] = s.history.entries[k] ∨
      (s.ports[p].ident.bound.map Fin.val = some k ∧
        (fold p s).history.entries[k] = s.history.entries[k].map (foldEntry s.ports[p].acct.unfolded)) := by
  unfold fold; split
  · exact ⟨rfl, rfl, rfl, fun _ _ => .inl rfl⟩
  · next e he =>
    refine ⟨rfl, rfl, rfl, fun k h => ?_⟩
    simp only [modAcct_history, modEntry_getElem]; split
    · next x => subst x; exact .inr ⟨by rw [he]; rfl, rfl⟩
    · exact .inl rfl

@[simp] theorem fold_recency (p : Fin 8) : (fold p s).history.recency = s.history.recency := (fold_history s p).1
@[simp] theorem fold_evictions (p : Fin 8) : (fold p s).history.evictions = s.history.evictions := (fold_history s p).2.1
@[simp] theorem fold_waiting (p : Fin 8) : (fold p s).history.waiting = s.history.waiting := (fold_history s p).2.2.1

/-! ### Result records (R41, R52) -/

@[simp] theorem pushResult_run (r : ResultRecord) (q : Port) : (pushResult r q).run = q.run := by
  unfold pushResult; split <;> rfl
@[simp] theorem pushResult_owner (r : ResultRecord) (q : Port) : (pushResult r q).owner = q.owner := by
  unfold pushResult; split <;> rfl
@[simp] theorem pushResult_intake (r : ResultRecord) (q : Port) : (pushResult r q).intake = q.intake := by
  unfold pushResult; split <;> rfl
@[simp] theorem pushResult_acct (r : ResultRecord) (q : Port) : (pushResult r q).acct = q.acct := by
  unfold pushResult; split <;> rfl
@[simp] theorem pushResult_ident (r : ResultRecord) (q : Port) : (pushResult r q).ident = q.ident := by
  unfold pushResult; split <;> rfl
@[simp] theorem pushResult_alloc (r : ResultRecord) (q : Port) : (pushResult r q).alloc = q.alloc := by
  unfold pushResult; split <;> rfl
@[simp] theorem pushResult_phases (r : ResultRecord) (q : Port) : (pushResult r q).phases = q.phases := by
  unfold pushResult; split <;> rfl
@[simp] theorem pushResult_prot (r : ResultRecord) (q : Port) : (pushResult r q).prot = q.prot := by
  unfold pushResult; split <;> rfl
@[simp] theorem pushResult_mask (r : ResultRecord) (q : Port) : (pushResult r q).mask = q.mask := by
  unfold pushResult; split <;> rfl

/-- A record joins the tail of a queue (R52). -/
@[simp] theorem pushResult_getLast (r : ResultRecord) (q : Port) : (pushResult r q).results.getLast? = some r := by
  unfold pushResult; split <;> simp

/-- A queue that holds no more than 32 records holds no more after another joins (R52). -/
theorem pushResult_length (r : ResultRecord) (q : Port) (h : q.results.length ≤ 32) :
    (pushResult r q).results.length ≤ 32 := by
  unfold pushResult; split <;> simp <;> omega

@[simp] theorem queueResult_headers (p : Fin 8) (r : EndReason) : (queueResult p r s).headers = s.headers := rfl
@[simp] theorem queueResult_history (p : Fin 8) (r : EndReason) : (queueResult p r s).history = s.history := rfl
@[simp] theorem queueResult_alloc (p : Fin 8) (r : EndReason) : (queueResult p r s).alloc = s.alloc := rfl
@[simp] theorem queueResult_pool (p : Fin 8) (r : EndReason) : (queueResult p r s).pool = s.pool := rfl
@[simp] theorem queueResult_prot (p : Fin 8) (r : EndReason) : (queueResult p r s).prot = s.prot := rfl
@[simp] theorem queueResult_chain (p : Fin 8) (r : EndReason) : (queueResult p r s).chain = s.chain := rfl
@[simp] theorem queueResult_sent (p : Fin 8) (r : EndReason) : (queueResult p r s).sent = s.sent := rfl
@[simp] theorem queueResult_instants (p : Fin 8) (r : EndReason) : (queueResult p r s).instants = s.instants := rfl
@[simp] theorem queueResult_pending (p : Fin 8) (r : EndReason) : (queueResult p r s).pending = s.pending := rfl

@[simp] theorem queueResult_getElem (p : Fin 8) (r : EndReason) (k : Nat) (h : k < 8) : (queueResult p r s).ports[k] =
    if k = p then pushResult (resultRecord s.ports[p] r) s.ports[p] else s.ports[k] := modPort_getElem s p _ k h

theorem queueResult_flagged (p : Fin 8) (r : EndReason) : flagged p .stepEnd (queueResult p r s) := flagged_raisePort _ _ _

/-! ### Fault records (R174) -/

@[simp] theorem recordFault_run (c : FaultCode) (t : Nat) (q : Port) : (recordFault c t q).run = q.run := by
  unfold recordFault; split <;> rfl
@[simp] theorem recordFault_owner (c : FaultCode) (t : Nat) (q : Port) : (recordFault c t q).owner = q.owner := by
  unfold recordFault; split <;> rfl
@[simp] theorem recordFault_results (c : FaultCode) (t : Nat) (q : Port) : (recordFault c t q).results = q.results := by
  unfold recordFault; split <;> rfl
@[simp] theorem recordFault_lost (c : FaultCode) (t : Nat) (q : Port) : (recordFault c t q).lost = q.lost := by
  unfold recordFault; split <;> rfl
@[simp] theorem recordFault_intake (c : FaultCode) (t : Nat) (q : Port) : (recordFault c t q).intake = q.intake := by
  unfold recordFault; split <;> rfl
@[simp] theorem recordFault_ident (c : FaultCode) (t : Nat) (q : Port) : (recordFault c t q).ident = q.ident := by
  unfold recordFault; split <;> rfl
@[simp] theorem recordFault_alloc (c : FaultCode) (t : Nat) (q : Port) : (recordFault c t q).alloc = q.alloc := by
  unfold recordFault; split <;> rfl
@[simp] theorem recordFault_phases (c : FaultCode) (t : Nat) (q : Port) : (recordFault c t q).phases = q.phases := by
  unfold recordFault; split <;> rfl
@[simp] theorem recordFault_mask (c : FaultCode) (t : Nat) (q : Port) : (recordFault c t q).mask = q.mask := by
  unfold recordFault; split <;> rfl
@[simp] theorem recordFault_prot_requested (c : FaultCode) (t : Nat) (q : Port) :
    (recordFault c t q).prot.requested = q.prot.requested := by unfold recordFault; split <;> rfl
@[simp] theorem recordFault_prot_effective (c : FaultCode) (t : Nat) (q : Port) :
    (recordFault c t q).prot.effective = q.prot.effective := by unfold recordFault; split <;> rfl
@[simp] theorem recordFault_prot_clamped (c : FaultCode) (t : Nat) (q : Port) :
    (recordFault c t q).prot.clamped = q.prot.clamped := by unfold recordFault; split <;> rfl
@[simp] theorem recordFault_prot_filters (c : FaultCode) (t : Nat) (q : Port) :
    (recordFault c t q).prot.filters = q.prot.filters := by unfold recordFault; split <;> rfl
@[simp] theorem recordFault_prot_thermalOpen (c : FaultCode) (t : Nat) (q : Port) :
    (recordFault c t q).prot.thermalOpen = q.prot.thermalOpen := by unfold recordFault; split <;> rfl
@[simp] theorem recordFault_prot_thermalLatch (c : FaultCode) (t : Nat) (q : Port) :
    (recordFault c t q).prot.thermalLatch = q.prot.thermalLatch := by unfold recordFault; split <;> rfl

/-- The first fault of a port writes its record (R174). -/
theorem recordFault_first (c : FaultCode) (t : Nat) (q : Port) (h : q.prot.fault = none) : (recordFault c t q).prot.fault =
    some ⟨c, t, q.run.state, runMark q.run, (latestSample q).voltage, (latestSample q).current,
      (latestSample q).temperature, 0⟩ := by
  unfold recordFault; rw [h]

/-- A further fault only raises the additional-fault count (R174). -/
theorem recordFault_further (c : FaultCode) (t : Nat) (q : Port) (r : FaultRecord) (h : q.prot.fault = some r) :
    (recordFault c t q).prot.fault = some { r with additional := min 255 (r.additional + 1) } ∧
      (recordFault c t q).acct = q.acct := by
  unfold recordFault; rw [h]; exact ⟨rfl, rfl⟩

/-! ### The release of a program (R4) -/

@[simp] theorem releaseProgram_ports (n : Option (Fin 32)) : (releaseProgram n s).ports = s.ports := by
  unfold releaseProgram; split <;> rfl
@[simp] theorem releaseProgram_history (n : Option (Fin 32)) : (releaseProgram n s).history = s.history := by
  unfold releaseProgram; split <;> rfl
@[simp] theorem releaseProgram_alloc (n : Option (Fin 32)) : (releaseProgram n s).alloc = s.alloc := by
  unfold releaseProgram; split <;> rfl
@[simp] theorem releaseProgram_pool (n : Option (Fin 32)) : (releaseProgram n s).pool = s.pool := by
  unfold releaseProgram; split <;> rfl
@[simp] theorem releaseProgram_prot (n : Option (Fin 32)) : (releaseProgram n s).prot = s.prot := by
  unfold releaseProgram; split <;> rfl
@[simp] theorem releaseProgram_chain (n : Option (Fin 32)) : (releaseProgram n s).chain = s.chain := by
  unfold releaseProgram; split <;> rfl
@[simp] theorem releaseProgram_cmd (n : Option (Fin 32)) : (releaseProgram n s).cmd = s.cmd := by
  unfold releaseProgram; split <;> rfl
@[simp] theorem releaseProgram_sent (n : Option (Fin 32)) : (releaseProgram n s).sent = s.sent := by
  unfold releaseProgram; split <;> rfl
@[simp] theorem releaseProgram_instants (n : Option (Fin 32)) : (releaseProgram n s).instants = s.instants := by
  unfold releaseProgram; split <;> rfl
@[simp] theorem releaseProgram_pending (n : Option (Fin 32)) : (releaseProgram n s).pending = s.pending := by
  unfold releaseProgram; split <;> rfl

/-- A release lowers one use count (R4). -/
theorem releaseProgram_getElem (n : Option (Fin 32)) (k : Nat) (h : k < 32) : (releaseProgram n s).headers[k] =
    if n.map Fin.val = some k then { s.headers[k] with useCount := s.headers[k].useCount - 1 } else s.headers[k] := by
  unfold releaseProgram; split
  · next n => 
    rw [modHeader_getElem]
    by_cases e : k = n.val
    · subst e; simp
    · rw [if_neg e, if_neg (by simpa using Ne.symm e)]
  · rfl

@[simp] theorem releaseProgram_content (n : Option (Fin 32)) (k : Nat) (h : k < 32) :
    programContent (releaseProgram n s).headers[k] = programContent s.headers[k] := by
  rw [releaseProgram_getElem]; split <;> rfl

/-! ### The current command (R135, R153) -/

/-- A command is split over phases, and changes no port but in its applied command. -/
theorem command_poolWork (p : Fin 8) (c : Int) : PoolWork (modRun p (fun r => { r with applied := c }) s) (command p c s) :=
  .foldl _ (fun t (x : Fin 16 × Nat) => modPhase_poolWork x.1 _ t) _ _

@[simp] theorem command_ports (p : Fin 8) (c : Int) :
    (command p c s).ports = (modRun p (fun r => { r with applied := c }) s).ports := foldl_ports _ (by intros; rfl) _ _

@[simp] theorem command_queue (p : Fin 8) (c : Int) : (command p c s).pool.queue = s.pool.queue :=
  foldl_queue _ (by intros; rfl) _ _

@[simp] theorem command_cmd (p : Fin 8) (c : Int) : (command p c s).cmd = s.cmd := foldl_cmd _ (by intros; rfl) _ _

@[simp] theorem command_headers (p : Fin 8) (c : Int) : (command p c s).headers = s.headers := (command_poolWork s p c).headers
@[simp] theorem command_history (p : Fin 8) (c : Int) : (command p c s).history = s.history := (command_poolWork s p c).history
@[simp] theorem command_alloc (p : Fin 8) (c : Int) : (command p c s).alloc = s.alloc := (command_poolWork s p c).alloc
@[simp] theorem command_prot (p : Fin 8) (c : Int) : (command p c s).prot = s.prot := (command_poolWork s p c).prot
@[simp] theorem command_chain (p : Fin 8) (c : Int) : (command p c s).chain = s.chain := (command_poolWork s p c).chain
@[simp] theorem command_sent (p : Fin 8) (c : Int) : (command p c s).sent = s.sent := (command_poolWork s p c).sent
@[simp] theorem command_instants (p : Fin 8) (c : Int) : (command p c s).instants = s.instants := (command_poolWork s p c).instants
@[simp] theorem command_pending (p : Fin 8) (c : Int) : (command p c s).pending = s.pending := (command_poolWork s p c).pending

/-! ### The grant bound (R132) and the contactor (R178) -/

/-- A command opposite to its grant is bounded to 0 mA. -/
theorem grantBound_opposed {g : Int} {d : Option Direction} (v : Nat) (h : opposed g d = true) : grantBound g v d = 0 := by
  simp [grantBound, h]

/-- Every other command has the bound of the grant's own direction. -/
theorem grantBound_own {g : Int} {d : Option Direction} (v : Nat) (h : opposed g d = false) : grantBound g v d = ownBound g v := by
  simp [grantBound, h]

/-- A command of 0 mA is opposite to no grant. -/
@[simp] theorem opposed_none (g : Int) : opposed g none = false := rfl

@[simp] theorem openLink_contactor (x : Protection) : (openLink x).contactor = .opened := rfl
@[simp] theorem openLink_drive (x : Protection) : (openLink x).drive = false := rfl
@[simp] theorem openLink_closingWatch (x : Protection) : (openLink x).closingWatch = none := rfl
@[simp] theorem openLink_openingWatch (x : Protection) :
    (openLink x).openingWatch = if x.feedbackClosed then some 0 else none := rfl
@[simp] theorem openLink_limits (x : Protection) : (openLink x).limits = x.limits := rfl
@[simp] theorem openLink_locked (x : Protection) : (openLink x).locked = x.locked := rfl
@[simp] theorem openLink_policy (x : Protection) : (openLink x).policy = x.policy := rfl
@[simp] theorem openLink_cabinet (x : Protection) : (openLink x).cabinet = x.cabinet := rfl
@[simp] theorem openLink_feedbackClosed (x : Protection) : (openLink x).feedbackClosed = x.feedbackClosed := rfl
@[simp] theorem openLink_closingExpired (x : Protection) : (openLink x).closingExpired = x.closingExpired := rfl
@[simp] theorem openLink_doorOpen (x : Protection) : (openLink x).doorOpen = x.doorOpen := rfl
@[simp] theorem openLink_log (x : Protection) : (openLink x).log = x.log := rfl
@[simp] theorem openLink_overflow (x : Protection) : (openLink x).overflow = x.overflow := rfl
@[simp] theorem openLink_time (x : Protection) : (openLink x).time = x.time := rfl

end Sys2Proof.Machine
end

