-- ==== Sys2Proof/Laws/Work.lean ====
section
/-! SUPPORT. What the work of one port's sequencer, intake, accounts, protection and identification can do: a port's own items
are its own, and the blocks that its work does not name stand. -/

namespace Sys2Proof.Machine

/-- What the work of port `p` can do: another port keeps its own items (its grant, its stage, its ramp and its need apart), the
port keeps its owner and settings, programs keep their content, and protection, chain, budgets, waiting commands and the
replies stand; flags only rise. With `talks` false nothing goes out on a line. -/
structure PortWork (talks : Bool) (p : Fin 8) (s t : State) : Prop where
  others : ∀ q : Fin 8, q ≠ p → sameOwnItems s.ports[q] t.ports[q]
  own : ∀ q : Fin 8, settings t.ports[q] = settings s.ports[q]
  content : ∀ n : Fin 32, programContent t.headers[n] = programContent s.headers[n]
  budgets : budgets t = budgets s
  rampTime : t.alloc.rampTime = s.alloc.rampTime
  prot : t.prot = s.prot
  chain : t.chain = s.chain
  cmd : FlagsRise s.cmd t.cmd
  sent : talks = false → t.sent = s.sent
  pending : t.pending = s.pending

theorem sameOwnItems.refl (q : Port) : sameOwnItems q q :=
  ⟨rfl, rfl, rfl, rfl, rfl, rfl, rfl, rfl, rfl, rfl, rfl, rfl, rfl, rfl, rfl⟩

theorem sameOwnItems.trans {a b c : Port} (x : sameOwnItems a b) (y : sameOwnItems b c) : sameOwnItems a c := by
  obtain ⟨x1, x2, x3, x4, x5, x6, x7, x8, x9, x10, x11, x12, x13, x14, x15⟩ := x
  obtain ⟨y1, y2, y3, y4, y5, y6, y7, y8, y9, y10, y11, y12, y13, y14, y15⟩ := y
  exact ⟨y1.trans x1, y2.trans x2, y3.trans x3, y4.trans x4, y5.trans x5, y6.trans x6, y7.trans x7, y8.trans x8, y9.trans x9,
    y10.trans x10, y11.trans x11, y12.trans x12, y13.trans x13, y14.trans x14, y15.trans x15⟩

theorem PortWork.refl (talks : Bool) (p : Fin 8) (s : State) : PortWork talks p s s :=
  ⟨fun _ _ => .refl _, fun _ => rfl, fun _ => rfl, rfl, rfl, rfl, rfl, .refl _, fun _ => rfl, rfl⟩

theorem PortWork.trans {b : Bool} {p : Fin 8} {s t u : State} (x : PortWork b p s t) (y : PortWork b p t u) :
    PortWork b p s u :=
  ⟨fun q h => (x.others q h).trans (y.others q h), fun q => (y.own q).trans (x.own q),
    fun n => (y.content n).trans (x.content n), y.budgets.trans x.budgets, y.rampTime.trans x.rampTime,
    y.prot.trans x.prot, y.chain.trans x.chain, x.cmd.trans y.cmd, fun h => (y.sent h).trans (x.sent h),
    y.pending.trans x.pending⟩

/-- Silent work is work. -/
theorem PortWork.loud {p : Fin 8} {s t : State} (b : Bool) (x : PortWork false p s t) : PortWork b p s t :=
  { x with sent := fun _ => x.sent rfl }

variable {b : Bool} {p : Fin 8} {s t : State}

/-- An update of the port itself that keeps its owner and settings. -/
theorem modPort_portWork (g : Port → Port) (hg : ∀ q, settings (g q) = settings q) : PortWork b p s (modPort p g s) := by
  refine ⟨fun q h => ?_, fun q => ?_, fun _ => rfl, rfl, rfl, rfl, rfl, .refl _, fun _ => rfl, rfl⟩
  · simp only [Fin.getElem_fin, modPort_getElem, Fin.val_inj, if_neg h, sameOwnItems.refl]
  · simp only [Fin.getElem_fin, modPort_getElem]; split
    · next e => rw [hg, Fin.val_inj.mp e]
    · rfl

/-- The pool's work is any port's work: it sets no other port's own items. -/
theorem PoolWork.portWork (h : PoolWork s t) : PortWork b p s t := by
  have own : ∀ q : Fin 8, poolRest t.ports[q] = poolRest s.ports[q] := fun q => h.port q q.2
  have f {α : Type} (g : Port → α) (q : Fin 8) := congrArg g (own q)
  refine ⟨fun q _ => ⟨f (·.run.state) q, f (·.run.program) q, f (·.run.stepIndex) q, f (·.run.stepTimer) q, f (·.run.causes) q,
    f (·.run.applied) q, f (·.owner) q, f (·.results) q, f (·.lost) q, f (·.intake) q, f (·.acct) q, f (·.ident) q,
    f (·.prot) q, f (·.mask) q, f (·.phases.reserved) q⟩, fun q => ?_, fun n => by rw [h.headers], ?_, by rw [h.alloc],
    h.prot, h.chain, h.cmd, fun _ => h.sent, h.pending⟩
  · exact f settings q
  · unfold Machine.budgets; rw [h.alloc]

/-- A change of flags alone. -/
theorem raisePort_portWork (f : PortFlag) (q : Fin 8) : PortWork b p s (raisePort f q s) :=
  ⟨fun _ _ => .refl _, fun _ => rfl, fun _ => rfl, rfl, rfl, rfl, rfl, raisePort_flagsRise f q s, fun _ => rfl, rfl⟩

theorem raiseCabinet_portWork (f : CabinetFlag) : PortWork b p s (raiseCabinet f s) :=
  ⟨fun _ _ => .refl _, fun _ => rfl, fun _ => rfl, rfl, rfl, rfl, rfl, raiseCabinet_flagsRise f s, fun _ => rfl, rfl⟩

/-- A change of the history alone. -/
theorem history_portWork (x : History) : PortWork b p s { s with history := x } :=
  ⟨fun _ _ => .refl _, fun _ => rfl, fun _ => rfl, rfl, rfl, rfl, rfl, .refl _, fun _ => rfl, rfl⟩

theorem modEntry_portWork (e : Fin 64) (g : Option Entry → Option Entry) : PortWork b p s (modEntry e g s) :=
  history_portWork _

theorem touch_portWork (e : Fin 64) : PortWork b p s (touch e s) := history_portWork _

/-- A round sets grants alone. -/
theorem round_portWork : PortWork b p s (round s) := by
  refine ⟨fun q _ => ?_, fun q => ?_, fun _ => rfl, rfl, rfl, rfl, rfl, .refl _, fun _ => rfl, rfl⟩
  · simp only [Fin.getElem_fin, round_getElem]; exact .refl _
  · simp only [Fin.getElem_fin, round_getElem]; rfl

theorem setBasis_portWork (x : Option Basis) : PortWork b p s (setBasis p x s) :=
  (modPort_portWork _ (by intros; rfl)).trans round_portWork

theorem fold_portWork : PortWork b p s (fold p s) := by
  unfold fold; split
  · exact .refl _ _ _
  · exact (modEntry_portWork _ _).trans (modPort_portWork _ (by intros; rfl))

theorem queueResult_portWork (r : EndReason) : PortWork b p s (queueResult p r s) := by
  refine (modPort_portWork _ fun q => ?_).trans (raisePort_portWork _ _)
  simp [settings]

theorem writeFault_portWork (c : FaultCode) : PortWork b p s (writeFault p c s) :=
  modPort_portWork _ fun q => by simp [settings]

theorem releaseProgram_portWork (n : Option (Fin 32)) : PortWork b p s (releaseProgram n s) := by
  refine ⟨fun q _ => ?_, fun q => ?_, fun n => ?_, ?_, ?_, ?_, ?_, ?_, fun _ => ?_, ?_⟩ <;>
    simp [sameOwnItems.refl, Machine.budgets, FlagsRise.refl]

theorem command_portWork (c : Int) : PortWork b p s (command p c s) :=
  (modPort_portWork _ (by intros; rfl)).trans (command_poolWork s p c).portWork

/-- The counting of free values is any port's work. -/
theorem instants_portWork (n : Nat) : PortWork b p s { s with instants := n } :=
  ⟨fun _ _ => .refl _, fun _ => rfl, fun _ => rfl, rfl, rfl, rfl, rfl, .refl _, fun _ => rfl, rfl⟩

/-- A use count raised is any port's work. -/
theorem modHeader_portWork (n : Fin 32) (g : Header → Header) (hg : ∀ h, programContent (g h) = programContent h) :
    PortWork b p s (modHeader n g s) := by
  refine ⟨fun _ _ => .refl _, fun _ => rfl, fun k => ?_, rfl, rfl, rfl, rfl, .refl _, fun _ => rfl, rfl⟩
  simp only [Fin.getElem_fin, modHeader_getElem]; split
  · next e => rw [hg, Fin.val_inj.mp e]
  · rfl

/-! ### The sequencer -/

theorem restartSettle_portWork : PortWork b p s (restartSettle p s) := by
  unfold restartSettle modIntake; exact modPort_portWork _ (by intros; rfl)
theorem discardCapture_portWork : PortWork b p s (discardCapture p s) := by
  unfold discardCapture modIntake; exact modPort_portWork _ (by intros; rfl)
theorem startDrain_portWork : PortWork b p s (startDrain p s) := by
  unfold startDrain modRun; exact modPort_portWork _ (by intros; rfl)
theorem modRun_portWork (g : RunContext → RunContext) : PortWork b p s (modRun p g s) := modPort_portWork _ (by intros; rfl)

/-- Settling and capture begin anew. -/
theorem restart_portWork : PortWork b p s (restartSettle p (discardCapture p s)) :=
  discardCapture_portWork.trans restartSettle_portWork

theorem leaveQueue_portWork : PortWork b p s (leaveQueue p s) := (leaveQueue_poolWork p s).portWork
theorem releaseUnreserved_portWork : PortWork b p s (releaseUnreserved p s) := (releaseUnreserved_poolWork p s).portWork
theorem disablePort_portWork : PortWork b p s (disablePort p s) := (disablePort_poolWork p s).portWork
theorem refreshEnables_portWork : PortWork b p s (refreshEnables p s) := (refreshEnables_poolWork p s).portWork

theorem acquire_portWork : PortWork b p s (acquire p s) := by
  have h (x : Port → Port) (hx : ∀ q, settings (x q) = settings q) := modPort_portWork (b := b) (p := p) (s := s) x hx
  unfold acquire; dsimp only; split
  · exact ((h _ (by intros; rfl)).trans (meetNeed_poolWork p _).portWork).trans (releaseAndServe_poolWork p _ _).portWork
  · split
    · exact ((h _ (by intros; rfl)).trans (takePhases_poolWork p _ _).portWork).trans (meetNeed_poolWork p _).portWork
    · refine PortWork.trans ?_ (serveQueue_poolWork _).portWork
      refine PortWork.trans ?_ (raisePort_portWork _ _)
      exact ((h _ (by intros; rfl)).trans (releaseBeyond_poolWork p _ _).portWork).trans (PoolWork.ofPool _ _).portWork

theorem enterHeld_portWork : PortWork b p s (enterHeld p s) :=
  ((((((((modRun_portWork _).trans restart_portWork).trans (setBasis_portWork _)).trans leaveQueue_portWork).trans
    disablePort_portWork).trans releaseUnreserved_portWork).trans fold_portWork).trans (raisePort_portWork _ _))

theorem holdPort_portWork (c : HoldCauses) : PortWork b p s (holdPort c p s) := by
  unfold holdPort; dsimp only; split
  · split
    · exact (modRun_portWork _).trans enterHeld_portWork
    · exact (((modRun_portWork _).trans (modRun_portWork _)).trans startDrain_portWork).trans restart_portWork
  · exact modRun_portWork _

theorem handInterlock_portWork (x y : Bool) : PortWork b p s (handInterlock x y p s) := by
  unfold handInterlock; split
  · split
    · exact holdPort_portWork _
    · exact .refl _ _ _
  · split
    · exact modRun_portWork _
    · exact .refl _ _ _

theorem completeEnding_portWork : PortWork b p s (completeEnding p s) :=
  ((((((((modRun_portWork _).trans (setBasis_portWork _)).trans releaseUnreserved_portWork).trans fold_portWork).trans
    (releaseProgram_portWork _)).trans (modRun_portWork _)).trans disablePort_portWork).trans (raisePort_portWork _ _))

theorem enterEnding_portWork (o : RunOutcome) : PortWork b p s (enterEnding o p s) := by
  unfold enterEnding; dsimp only; split
  · exact ((modRun_portWork _).trans restart_portWork).trans completeEnding_portWork
  · exact ((modRun_portWork _).trans restart_portWork).trans startDrain_portWork

theorem completeDrain_portWork : PortWork b p s (completeDrain p s) := by
  unfold completeDrain; dsimp only; split
  · exact (((modRun_portWork _).trans (modRun_portWork _)).trans (setBasis_portWork _)).trans acquire_portWork
  · exact (((modRun_portWork _).trans (setBasis_portWork _)).trans releaseUnreserved_portWork).trans (modRun_portWork _)

theorem enterTransfer_portWork (i : Nat) (r : StepRecord) : PortWork b p s (enterTransfer p i r s) := by
  unfold enterTransfer; dsimp only; split
  · exact (((modPort_portWork _ (by intros; rfl)).trans restart_portWork).trans refreshEnables_portWork).trans
      completeDrain_portWork
  · exact (((modPort_portWork _ (by intros; rfl)).trans restart_portWork).trans refreshEnables_portWork).trans
      startDrain_portWork

theorem takeLoop_portWork (n : Fin 32) (i : Nat) (r : StepRecord) : PortWork b p s (takeLoop p n i r s).2 := by
  unfold takeLoop; dsimp only; split
  · exact ((modRun_portWork _).trans (modPort_portWork _ (by intros; rfl))).trans fold_portWork
  · exact modRun_portWork _

theorem enterIndex_portWork : ∀ (fuel i : Nat) (s : State), PortWork b p s (enterIndex p fuel i s)
  | 0, _, _ => enterEnding_portWork _
  | fuel + 1, i, s => by
    unfold enterIndex; split
    · exact enterEnding_portWork _
    · split
      · exact enterEnding_portWork _
      · split
        · exact enterEnding_portWork _
        · exact (takeLoop_portWork _ _ _).trans (enterIndex_portWork fuel _ _)
        · exact enterTransfer_portWork _ _

/-! ### Faults and step ends -/

theorem faultBound_portWork (c : FaultCode) : PortWork b p s (faultBound p c s) := by
  unfold faultBound; dsimp only
  refine PortWork.trans ?_ (raisePort_portWork _ _)
  refine PortWork.trans ?_ (modRun_portWork _)
  refine PortWork.trans ?_ (releaseProgram_portWork _)
  refine PortWork.trans ?_ fold_portWork
  refine PortWork.trans ?_ (setBasis_portWork _)
  refine PortWork.trans ?_ releaseUnreserved_portWork
  refine PortWork.trans ?_ restart_portWork
  refine PortWork.trans ?_ (modRun_portWork _)
  refine PortWork.trans ?_ leaveQueue_portWork
  refine PortWork.trans ?_ (modRun_portWork _)
  have h : PortWork b p s (writeFault p c (disablePort p s)) := disablePort_portWork.trans (writeFault_portWork _)
  split
  · exact h.trans (queueResult_portWork _)
  · exact h

theorem faultIdle_portWork (c : FaultCode) : PortWork b p s (faultIdle p c s) :=
  ((((((writeFault_portWork _).trans fold_portWork).trans disablePort_portWork).trans (modRun_portWork _)).trans
    restartSettle_portWork).trans (raisePort_portWork _ _))

theorem faultPort_portWork (c : FaultCode) : PortWork b p s (faultPort p c s) := by
  unfold faultPort; split
  iterate 5 exact faultBound_portWork c
  · exact faultIdle_portWork c
  · exact faultIdle_portWork c
  · exact ((modPort_portWork _ (by intros; rfl)).trans (history_portWork _)).trans (faultIdle_portWork c)
  · exact writeFault_portWork c
  · exact .refl _ _ _

theorem endStep_portWork (r : EndReason) (a : Action) : PortWork b p s (endStep p r a s) := by
  have h : PortWork b p s (restartSettle p (discardCapture p (fold p (queueResult p r s)))) :=
    ((queueResult_portWork _).trans fold_portWork).trans restart_portWork
  unfold endStep; dsimp only; split
  · exact h.trans (enterIndex_portWork _ _ _)
  · exact h.trans (enterIndex_portWork _ _ _)
  · exact h.trans (enterEnding_portWork _)
  · exact h.trans (faultPort_portWork _)

/-! ### Sample instants -/

theorem settleUpdate_portWork (v : Sample) : PortWork b p s (settleUpdate p v s) := by
  unfold settleUpdate; dsimp only; split
  · split
    · split
      · split
        · exact (modPort_portWork _ (by intros; rfl)).trans (raisePort_portWork _ _)
        · exact modPort_portWork _ (by intros; rfl)
      · exact .refl _ _ _
    · exact .refl _ _ _
  · exact .refl _ _ _

theorem takeCaptureA_portWork (v : Sample) (held : Bool) : PortWork b p s (takeCaptureA p v held s) := by
  unfold takeCaptureA; split
  · exact modPort_portWork _ (by intros; rfl)
  · exact .refl _ _ _

theorem takeCaptureB_portWork (v : Sample) : PortWork b p s (takeCaptureB p v s) := by
  unfold takeCaptureB; split
  · split
    · exact (modPort_portWork _ (by intros; rfl)).trans (raisePort_portWork _ _)
    · exact .refl _ _ _
  · exact .refl _ _ _

theorem intakeArrival_portWork (v : Sample) : PortWork b p s (intakeArrival p v s) :=
  (((modPort_portWork _ (by intros; rfl)).trans (settleUpdate_portWork v)).trans (takeCaptureA_portWork v _)).trans
    (takeCaptureB_portWork v)

theorem intakeMissed_portWork : PortWork b p s (intakeMissed p s) :=
  (modPort_portWork _ (by intros; rfl)).trans (takeCaptureA_portWork _ _)

theorem drainSample_portWork (v : Sample) : PortWork b p s (drainSample p v s) :=
  ((modRun_portWork _).trans (modRun_portWork _)).trans (command_portWork _)

theorem idleSample_portWork (v : Sample) : PortWork b p s (idleSample p v s) :=
  ((modRun_portWork _).trans (modRun_portWork _)).trans (command_portWork _)

theorem subPhaseTests_portWork (r : StepRecord) (v : Sample) (c : Option Nat) : PortWork b p s (subPhaseTests p r v c s) := by
  unfold subPhaseTests; split
  · exact ((modRun_portWork _).trans (setBasis_portWork _)).trans restartSettle_portWork
  · split
    · unfold updateCv; exact modRun_portWork _
    · split
      · exact (modRun_portWork _).trans restartSettle_portWork
      · exact .refl _ _ _

theorem applyStep_portWork (r : StepRecord) (v : Sample) (c : Option Nat) : PortWork b p s (applyStep p r v c s) :=
  (modRun_portWork _).trans (command_portWork _)

theorem rampSample_portWork (v : Sample) : PortWork b p s (rampSample p v s) := by
  unfold rampSample; dsimp only
  exact ((subPhaseTests_portWork _ _ _).trans (applyStep_portWork _ _ _)).trans (modRun_portWork _)

theorem runningCount_portWork (v : Sample) : PortWork b p s (runningCount p v s) := by
  unfold runningCount; dsimp only
  exact ((subPhaseTests_portWork _ _ _).trans (applyStep_portWork _ _ _)).trans (modRun_portWork _)

theorem runningSample_portWork (v : Sample) : PortWork b p s (runningSample p v s) := by
  unfold runningSample; dsimp only; split
  · exact (runningCount_portWork v).trans (endStep_portWork _ _)
  · exact runningCount_portWork v

theorem sequencerSample_portWork (v : Sample) : PortWork b p s (sequencerSample p v s) := by
  unfold sequencerSample; dsimp only; split
  · split
    · split
      · exact (drainSample_portWork v).trans completeDrain_portWork
      · exact drainSample_portWork v
    · exact idleSample_portWork _
    · exact rampSample_portWork v
  · exact runningSample_portWork v
  · split
    · exact (drainSample_portWork v).trans enterHeld_portWork
    · exact drainSample_portWork v
  · split
    · exact (drainSample_portWork v).trans completeEnding_portWork
    · exact drainSample_portWork v
  iterate 6 exact idleSample_portWork _

theorem accountSample_portWork (v : Sample) : PortWork b p s (accountSample p v s) := modPort_portWork _ (by intros; rfl)

/-- Work over a list is work. -/
theorem PortWork.foldl {α : Type} (f : State → α → State) (hf : ∀ s x, PortWork b p s (f s x)) :
    ∀ (l : List α) (s : State), PortWork b p s (l.foldl f s)
  | [], s => .refl _ _ s
  | x :: l, s => (hf s x).trans (PortWork.foldl f hf l (f s x))

theorem protectArrival_portWork (v : Sample) : PortWork b p s (protectArrival p v s) :=
  (modPort_portWork _ (by intros; rfl)).trans (.foldl _ (fun _ c => faultPort_portWork c) _ _)

theorem protectMissed_portWork : PortWork b p s (protectMissed p s) := by
  unfold protectMissed; split
  · exact faultPort_portWork _
  · exact .refl _ _ _

theorem consume_portWork (arrived : Bool) (v : Sample) (c : Config.Consumer) : PortWork b p s (consume p arrived v s c) := by
  unfold consume; split
  · exact accountSample_portWork v
  · exact sequencerSample_portWork v
  · split
    · exact protectArrival_portWork v
    · exact protectMissed_portWork

theorem consumeIn_portWork (o : Config.ConsumerOrder) (arrived : Bool) (v : Sample) :
    PortWork b p s (consumeIn o p arrived v s) := .foldl _ (fun _ c => consume_portWork arrived v c) _ _

theorem handOn_portWork (arrived : Bool) (v : Sample) : PortWork b p s (handOn p arrived v s) :=
  (instants_portWork _).trans (consumeIn_portWork _ _ _)

theorem arrivalInstant_portWork (codes : Int × Int × Int) : PortWork b p s (arrivalInstant p codes s) :=
  (intakeArrival_portWork _).trans (handOn_portWork _ _)

theorem missedInstant_portWork : PortWork b p s (missedInstant p s) :=
  intakeMissed_portWork.trans (handOn_portWork _ _)

theorem receiveReply_portWork (reply : List Byte) : PortWork b p s (receiveReply p reply s) := by
  unfold receiveReply; split
  · exact .refl _ _ _
  · split
    · exact modPort_portWork _ (by intros; rfl)
    · exact arrivalInstant_portWork _

theorem send_portWork (x : Sent) : PortWork true p s (send x s) :=
  ⟨fun _ _ => .refl _, fun _ => rfl, fun _ => rfl, rfl, rfl, rfl, rfl, .refl _, nofun, rfl⟩

theorem strobe_portWork : PortWork true p s (strobe p s) := by
  unfold strobe; dsimp only
  refine PortWork.trans ?_ (send_portWork _)
  refine PortWork.trans ?_ (modPort_portWork _ (by intros; rfl))
  split
  · exact missedInstant_portWork
  · exact .refl _ _ _

theorem namedInstant_portWork (rd : Reading) (due : Port → Sample → Bool) : PortWork true p s (namedInstant p rd due s) := by
  unfold namedInstant; split
  · split
    · cases rd
      · exact receiveReply_portWork _
      · exact strobe_portWork
    · exact .refl _ _ _
  · exact .refl _ _ _

/-! ### Identification -/

theorem unmount_portWork : PortWork b p s (unmount p s) := by
  unfold unmount; split
  · exact .refl _ _ _
  · exact ((modEntry_portWork _ _).trans (touch_portWork _)).trans (modPort_portWork _ (by intros; rfl))

theorem mount_portWork (e : Fin 64) : PortWork b p s (mount p e s) := by
  unfold mount; dsimp only
  exact ((modEntry_portWork _ _).trans (touch_portWork _)).trans (modPort_portWork _ (by intros; rfl))

theorem evict_portWork (e : Fin 64) : PortWork b p s (evict e s) := by
  unfold evict; split
  · exact .refl _ _ _
  · exact ((history_portWork _).trans ((history_portWork _).trans (modEntry_portWork _ _))).trans (raiseCabinet_portWork _)

theorem makeEntry_portWork (x : Entry) {e : Fin 64} (h : makeEntry x s = some (e, t)) : PortWork b p s t := by
  unfold makeEntry at h; split at h
  · cases h; exact modEntry_portWork _ _
  · split at h
    · split at h
      · cases h; exact (evict_portWork _).trans (modEntry_portWork _ _)
      · cases h
    · cases h

theorem unidentified_portWork (why : IdFailure) : PortWork b p s (unidentified p why s) := modPort_portWork _ (by intros; rfl)

theorem lookup_portWork (serial : Nat) (h : lookup p serial s = some t) : PortWork b p s t := by
  unfold lookup at h; split at h
  · cases h; exact unidentified_portWork _
  · split at h
    · cases h; exact mount_portWork _
    · simp only [Option.map_eq_some_iff] at h
      obtain ⟨⟨e, u⟩, hu, rfl⟩ := h
      exact (makeEntry_portWork _ hu).trans (mount_portWork _)

theorem beginAttempt_portWork (n : Nat) : PortWork true p s (beginAttempt p n s) :=
  (modPort_portWork _ (by intros; rfl)).trans (send_portWork _)

theorem startIdentify_portWork : PortWork true p s (startIdentify p s) :=
  (modPort_portWork _ (by intros; rfl)).trans (beginAttempt_portWork _)

theorem failAttempt_portWork (n : Nat) (why : IdFailure) : PortWork true p s (failAttempt p n why s) := by
  unfold failAttempt; split
  · exact (modPort_portWork _ (by intros; rfl)).trans (beginAttempt_portWork _)
  · exact modPort_portWork _ (by intros; rfl)

theorem succeedAttempt_portWork (serial : Nat) : PortWork b p s (succeedAttempt p serial s) := by
  unfold succeedAttempt; dsimp only; split
  · next h => exact (modPort_portWork _ (by intros; rfl)).trans (lookup_portWork _ h)
  · exact (modPort_portWork _ (by intros; rfl)).trans (history_portWork _)

theorem receiveId_portWork (x : IdSource) (reply : List Byte) : PortWork true p s (receiveId p x reply s) := by
  unfold receiveId; split
  · exact .refl _ _ _
  · split
    · exact .refl _ _ _
    · split
      · exact failAttempt_portWork _ _
      · split
        · exact failAttempt_portWork _ _
        · exact succeedAttempt_portWork _

theorem expireAttempt_portWork : PortWork true p s (expireAttempt p s) := by
  unfold expireAttempt; split
  · split
    · exact failAttempt_portWork _ _
    · exact .refl _ _ _
  · exact .refl _ _ _

theorem thermalTrip_portWork : PortWork b p s (thermalTrip p s) :=
  (modPort_portWork _ (by intros; rfl)).trans (faultPort_portWork _)

theorem packArrives_portWork : PortWork true p s (packArrives p s) := by
  have h : PortWork true p s (if s.ports[p].run.state = .vacant then startIdentify p s else s) := by
    split
    · exact startIdentify_portWork
    · exact .refl _ _ _
  unfold packArrives; dsimp only; split
  · exact h.trans thermalTrip_portWork
  · exact h

theorem closePresence_portWork : PortWork true p s (closePresence p s) := by
  unfold closePresence; split
  · exact .refl _ _ _
  · exact (modPort_portWork _ (by intros; rfl)).trans packArrives_portWork

theorem openPresence_portWork : PortWork b p s (openPresence p s) := by
  have h : PortWork b p s (modIdent p (fun i => { i with present := false }) s) := modPort_portWork _ (by intros; rfl)
  have v {u : State} : PortWork b p u (toVacant p u) := modRun_portWork _
  unfold openPresence; dsimp only; split
  · exact .refl _ _ _
  · split
    · exact h
    · exact ((h.trans (history_portWork _)).trans (modPort_portWork _ (by intros; rfl))).trans v
    · exact h.trans v
    · exact ((h.trans fold_portWork).trans unmount_portWork).trans v
    · exact (h.trans fold_portWork).trans unmount_portWork
    iterate 5 exact (h.trans (faultPort_portWork _)).trans unmount_portWork

theorem openThermal_portWork : PortWork b p s (openThermal p s) := by
  have h : PortWork b p s (modProt p (fun x => { x with thermalOpen := true }) s) := modPort_portWork _ (by intros; rfl)
  unfold openThermal; dsimp only; split
  · exact .refl _ _ _
  · split
    · exact h.trans thermalTrip_portWork
    · exact h

theorem closeThermal_portWork : PortWork b p s (closeThermal p s) := by
  unfold closeThermal modProt; exact modPort_portWork _ (by intros; rfl)

end Sys2Proof.Machine
end

