-- ==== Sys2Proof/Laws/Checks.lean ====
section
/-! SUPPORT. The checks that commands share (R28, R207), told as one case split each, and the port commands whose effect is the
work of their port. -/

namespace Sys2Proof.Machine

variable {P : State × Reply → Prop} {s : State}

/-- A port-number check refuses or runs the command on the port (R28). -/
theorem onPort_cases {port : Nat} {k : Fin 8 → State × Reply} (hr : P (refuse .badField s)) (hk : ∀ p, P (k p)) :
    P (onPort port s k) := by
  unfold onPort; split
  · exact hk _
  · exact hr

/-- The port-number check of a port there is. -/
@[simp] theorem onPort_fin (p : Fin 8) (k : Fin 8 → State × Reply) : onPort p.val s k = k p := by simp [onPort]

/-- The port-number check of a port there is not (R28). -/
theorem onPort_beyond {port : Nat} (h : 8 ≤ port) (k : Fin 8 → State × Reply) : onPort port s k = refuse .badField s := by
  simp [onPort, Nat.not_lt.mpr h]

/-- The checks of R28 refuse, or run the command on a port of the issuer. -/
theorem onOwnPort_cases {m : Master} {port : Nat} {k : Fin 8 → State × Reply} (hb : P (refuse .badField s))
    (hn : P (refuse .notOwner s)) (hk : ∀ p, s.ports[p].owner = ownerOf m → P (k p)) : P (onOwnPort m port s k) := by
  refine onPort_cases hb fun p => ?_
  split
  · next h => exact hk p h
  · exact hn

/-- The owner passes the checks of R28. -/
theorem onOwnPort_owner {m : Master} {p : Fin 8} (h : s.ports[p].owner = ownerOf m) (k : Fin 8 → State × Reply) :
    onOwnPort m p.val s k = k p := by
  unfold onOwnPort; rw [onPort_fin, if_pos h]

/-- Another master than the owner fails them. -/
theorem onOwnPort_other {m : Master} {p : Fin 8} (h : s.ports[p].owner ≠ ownerOf m) (k : Fin 8 → State × Reply) :
    onOwnPort m p.val s k = refuse .notOwner s := by
  unfold onOwnPort; rw [onPort_fin, if_neg h]

/-- The program-number check refuses or runs the command on the header (R5). -/
theorem onProgram_cases {number : Nat} {k : Fin 32 → State × Reply} (hr : P (refuse .badField s)) (hk : ∀ n, P (k n)) :
    P (onProgram number s k) := by
  unfold onProgram; split
  · exact hk _
  · exact hr

@[simp] theorem onProgram_fin (n : Fin 32) (k : Fin 32 → State × Reply) : onProgram n.val s k = k n := by simp [onProgram]

/-- A selector names an entry, or its command is refused without effect (R109). -/
theorem onEntry_cases {sel : Selector} {k : Fin 64 → Entry → State × Reply} (hr : ∀ c, P (refuse c s))
    (hk : ∀ e x, s.history.entries[e] = some x → P (k e x)) : P (onEntry sel s k) := by
  unfold onEntry
  split
  · split
    · split
      · next h x hx => exact hk _ x hx
      · exact hr _
    · exact hr _
  · split
    · split
      · exact hr _
      · split
        · split
          · next x hx => exact hk _ x hx
          · exact hr _
        · exact hr _
    · exact hr _

/-- A selector by the number of an occupied entry names that entry (R109). -/
theorem onEntry_number {e : Fin 64} {x : Entry} (h : s.history.entries[e] = some x) (k : Fin 64 → Entry → State × Reply) :
    onEntry ⟨0, e.val⟩ s k = k e x := by
  have h' : s.history.entries[e.val] = some x := h
  simp [onEntry, h']

/-! ### Commands whose effect is the work of their port -/

variable {b : Bool} {p : Fin 8}

theorem startRun_portWork (n i : Nat) : PortWork b p s (startRun p n i s).1 := by
  unfold startRun
  refine onProgram_cases (P := fun x => PortWork b p s x.1) (.refl _ _ _) fun n => ?_
  iterate 7 (split; · exact .refl _ _ _)
  exact ((modHeader_portWork _ _ (by intros; rfl)).trans (modPort_portWork _ (by intros; rfl))).trans (enterIndex_portWork _ _ _)

theorem holdCommand_portWork : PortWork b p s (holdCommand p s).1 := by
  unfold holdCommand; split
  · exact holdPort_portWork _
  · exact .refl _ _ _

theorem resumeCommand_portWork : PortWork b p s (resumeCommand p s).1 := by
  unfold resumeCommand; dsimp only
  iterate 3 (split; · exact .refl _ _ _)
  split
  · exact ((((modRun_portWork _).trans restartSettle_portWork).trans ((modRun_portWork _).trans refreshEnables_portWork)).trans
      (setBasis_portWork _)).trans acquire_portWork
  · exact (((modRun_portWork _).trans restartSettle_portWork).trans ((modRun_portWork _).trans refreshEnables_portWork)).trans
      (setBasis_portWork _)

theorem abortCommand_portWork : PortWork b p s (abortCommand p s).1 := by
  unfold abortCommand; split
  · exact ((queueResult_portWork _).trans leaveQueue_portWork).trans (enterEnding_portWork _)
  · exact .refl _ _ _

theorem readResult_portWork : PortWork b p s (readResult p s).1 := by
  unfold readResult; split
  · exact .refl _ _ _
  · unfold answer; dsimp only; exact modPort_portWork _ (by intros; rfl)

theorem readCapture_portWork : PortWork b p s (readCapture p s).1 := by
  unfold readCapture; dsimp only; split
  · exact .refl _ _ _
  · unfold answer modIntake; dsimp only; exact modPort_portWork _ (by intros; rfl)

/-! ### What a refused command leaves (R207) -/

@[simp] theorem refuse_state (c : ReplyCode) (s : State) : (refuse c s).1 = s := rfl
@[simp] theorem refuseWith_state (c : ReplyCode) (d : List Byte) (s : State) : (refuseWith c d s).1 = s := rfl
@[simp] theorem done_state (s : State) : (done s).1 = s := rfl
@[simp] theorem answer_state (d : List Byte) (s : State) : (answer d s).1 = s := rfl
@[simp] theorem doneClamped_state (c : Bool) (s : State) : (doneClamped c s).1 = s := rfl

end Sys2Proof.Machine
end

