-- ==== Sys2Proof/Laws/PerInstr.lean ====
section
/-! SUPPORT. No statement of this model is made per constructor (LAWS.json names no family). What holds of every row follows from
its command (RowsRunTheirCommand), so here stand the two facts about a row's syntax that the proofs cite. -/

namespace Sys2Proof.Laws

/-- A row that is a command is well formed just when its command's arguments fit their bytes. -/
theorem wf_of_command {i : Instr} {iss : Issuer} {c : Command} (h : i.command = some (iss, c)) : i.wf = (c.wf : Bool) := by
  cases i <;> simp [Instr.command] at h <;> obtain ⟨rfl, rfl⟩ := h <;> rfl

/-- A row that is no command is well formed just when its event is. -/
theorem wf_of_event {i : Instr} (h : i.command = none) : i.wf = i.eventWf := by
  simp [Instr.wf, h]

end Sys2Proof.Laws
end

