-- ==== Sys2Proof/Tests/Slice0.lean ====
section
/-! SUPPORT. Tests: what WellFormed refuses, the manual's own numbers, and for each statement of Obligations.lean a state and
operands that meet its hypotheses, at the bounds of their ranges. Expected values are the manual's, or worked out from it by
hand. -/

namespace Sys2Proof.Tests

-- One theorem after another: each kernel evaluation otherwise takes a thread with a large stack of its own.
set_option Elab.async false

open Sys2Proof.Machine

/-! ### Small states -/

/-- Reset with port 0 the station's and changed. -/
def port0 (g : Port → Port) : State := modPort 0 (fun q => g { q with owner := .station }) State.reset

/-- Reset with port 0 the station's and its run context changed. -/
def run0 (g : RunContext → RunContext) : State := port0 fun q => { q with run := g q.run }

/-- A CC_CHARGE of 1,000 mA for 1,000 ms. -/
def ccStep : StepRecord := { (default : StepRecord) with kind := .ccCharge, current := 1000, duration := 1000 }

/-- A REST of 1,000 ms. -/
def restStep : StepRecord := { (default : StepRecord) with kind := .rest, duration := 1000 }

/-- A LOOP back to index 0. -/
def loopStep : StepRecord := { (default : StepRecord) with kind := .loop, repeatCount := 2 }

/-- An END. -/
def endStep : StepRecord := { (default : StepRecord) with kind := .endRun }

/-- The PULSE of the manual's capture example (chapter 3). -/
def pulseStep : StepRecord :=
  { (default : StepRecord) with
    kind := .pulse, pulseCurrent := -200000, baseTime := 10000, pulseTime := 10000, captureDelay := 100, duration := 60000 }

/-- A converter reply with three codes and its check byte (R55). -/
def reply (v i t : Int) : List Byte :=
  let b := signedBytes 3 v ++ signedBytes 3 i ++ signedBytes 3 t
  b ++ [checkByte b]

/-- Port 0 runs a step, its strobe awaiting a reply. -/
def running (r : StepRecord) (timer : Nat) (g : Port → Port) : State :=
  port0 fun q => g { q with
    run := { q.run with state := .running, step := some r, stepTimer := timer, program := some 0 }
    intake := { q.intake with strobe := .awaited } }

/-- Reset with a link ready for a run: program 0 READY with the given steps, port 0 READY, the contactor CLOSED. -/
def ready (steps : List (Option StepRecord)) : State :=
  let s := modHeader 0 (fun _ => ⟨.ready, .station, steps, 0, assignLoops steps⟩) (run0 fun r => { r with state := .ready })
  { s with prot := { s.prot with contactor := .closed } }

/-- Reset with history entry 5 occupied. -/
def withEntry (x : Entry) : State := modEntry 5 (fun _ => some x) State.reset

/-- An entry with serial 77 and nothing else. -/
def entry77 : Entry := freshEntry 77

/-- Port 0 with a pack whose entry 5 is bound, in a state. -/
def packed (st : PortState) : State :=
  modEntry 5 (fun _ => some { entry77 with mounted := some 0 })
    (port0 fun q => { q with run := { q.run with state := st }, ident := { q.ident with present := true, bound := some 5 } })

/-! ### WellFormed refuses -/

theorem test_wf_refuses_numbers :
    (Instr.openProgram .station 256 1).wf = false ∧ (Instr.openProgram .station 0 256).wf = false ∧
    (Instr.closeProgram .station 256).wf = false ∧ (Instr.deleteProgram .station 256).wf = false ∧
    (Instr.readStep .station 0 256).wf = false ∧ (Instr.claimPort .station 256).wf = false ∧
    (Instr.releasePort .station 256).wf = false ∧ (Instr.takePort .station 256).wf = false ∧
    (Instr.startRun .station 0 0 256).wf = false ∧ (Instr.holdPort .station 256).wf = false ∧
    (Instr.setReservedPhases .station 0 256).wf = false ∧ (Instr.setInterlockMask .station 256 0).wf = false ∧
    (Instr.setSettleEdges .station 0 256).wf = false ∧ (Instr.readCapture .station 256).wf = false ∧
    (Instr.setRampTime .station 4294967296).wf = false ∧ (Instr.setLockoutPolicy .station 256).wf = false ∧
    (Instr.setPhaseService .station 256).wf = false := by decide

theorem test_wf_refuses_records :
    (Instr.writeStep .station 0 0 (List.replicate 73 0)).wf = false ∧
    (Instr.importEntry .station (List.replicate 79 0)).wf = false ∧
    (Instr.readHistory .station ⟨0, 18446744073709551616⟩).wf = false ∧ (Instr.pinEntry .station ⟨256, 0⟩).wf = false ∧
    (Instr.setEnvelope .station 0 ⟨4294967296, 0, 0, 0, 0⟩).wf = false ∧
    (Instr.setEnvelope .station 0 ⟨0, 0, 0, 0, 2147483648⟩).wf = false ∧
    (Instr.setLimits .station ⟨0, 0, 0, -2147483649, 0⟩).wf = false ∧
    (Instr.setStandaloneBudget .station ⟨4294967296, 0⟩).wf = false ∧
    (Instr.setCalibration .station 0 0 2147483648 0).wf = false ∧
    (Instr.setPortDefaults .station 0 ⟨65536, 0, 0, 0⟩).wf = false ∧
    (Instr.setAttentionMask .station ⟨Vector.replicate 8 0, 0x40⟩).wf = false := by decide

theorem test_wf_refuses_frames :
    (Instr.sampleArrival 0 []).wf = false ∧ (Instr.pulseEdge 0 (.arrival [])).wf = false ∧
    (Instr.idReply 0 .presentAttempt []).wf = false ∧ (Instr.discover []).wf = false ∧ (Instr.renumber []).wf = false ∧
    (Instr.cycleFrame []).wf = false ∧ (Instr.answerFrame []).wf = false := by decide

theorem test_wf_accepts_bounds :
    (Instr.openProgram .station 255 255).wf = true ∧ (Instr.setCalibration .station 255 255 (-2147483648) 4294967295).wf = true ∧
    (Instr.setEnvelope (.hall 7) 0 ⟨4294967295, 0, 0, 0, -2147483648⟩).wf = true ∧
    (Instr.writeStep .station 0 0 (List.replicate 74 0)).wf = true := by decide

/-! ### The manual's numbers -/

/-- R56's table. -/
theorem test_convert_examples : convert ⟨-150, 32800⟩ 390210 = 390741 ∧ convert ⟨0, 16384⟩ (-81921) = -40961 := by decide

/-- Chapter 3, "a discharge pulse". -/
theorem test_resistance_example : resistanceOf ⟨390000, -12, false, 10000⟩ ⟨386600, -199950, false, 10100⟩ = some 17005 := by
  decide

/-- R154's table. -/
theorem test_duty_table : ([0, 750, 30000, 37500, 40000].map fun c => duty ⟨.free, true, .charge, c, none, false, false⟩) =
    [50, 67, 725, 894, 950] := by decide

/-- Chapter 6, "an import-throttled round". -/
theorem test_round_example :
    allocate ⟨60000, 40000⟩ [(41000, 2), (31160, 1), (-19500, 1), (21525, 1), (0, 0), (0, 0), (0, 0), (0, 0)] =
      ([41000, 22771, -19500, 15729, 0, 0, 0, 0], .importThrottled 1) := by decide +kernel

/-- Chapter 6, requests and grant bounds of the same example, and of "the first samples in CV". -/
theorem test_request_example :
    importRequest 400000 100000 = 41000 ∧ importRequest 403200 99986 = 41323 ∧ importRequest 403200 100000 = 41328 ∧
    exportRequest 390000 51282 = 19499 ∧ grantBound 22771 380000 (some .charge) = 59923 ∧
    grantBound 41323 403300 (some .charge) = 102462 ∧
    grantBound (-19500) 390000 (some .discharge) = 51284 := by decide +kernel

/-- R132: only a command of the direction opposite to the grant has bound 0, and a command of 0 mA is opposite to none. -/
theorem test_opposed_bounds : grantBound (-19500) 390000 (some .charge) = 0 ∧ grantBound 22771 380000 (some .discharge) = 0 ∧
    grantBound (-19500) 390000 none = 51284 ∧ grantBound 22771 380000 none = 59923 := by decide +kernel

/-- R157: the pulses of a gang of four start at 0, 12.5, 25 and 37.5 µs, and last 25 µs, the last of them into the next period. -/
theorem test_sync_example :
    let s := [1, 4, 6, 11].foldl (fun (x : State) (f : Fin 16) =>
      modPhase f (fun ph => { ph with state := .assigned 0, enabled := true }) x) State.reset
    ([1, 4, 6, 11].map fun f : Fin 16 => syncOffset f s) = [some 0, some 10500, some 21000, some 31500] ∧ syncOffset 0 s = none ∧
    ([84000, 94500, 105000, 115499, 115500, 136499].map fun x => syncHighFrom 2 31500 x) =
      [false, false, false, false, true, true] ∧
    (syncLine none (some 0) 83999 = false ∧ syncLine none (some 0) 84000 = true) ∧
    (syncLine (some 31500) (some 0) 83999 = true ∧ syncLine (some 31500) none 83999 = false) := by decide +kernel

/-- R93, R143, R214: in an empty port the attempt, the wait position, the bound entry and the raw need are "None", 255. -/
theorem test_none_bytes :
    identStatus 0 State.reset = [0, 255, 0] ++ List.replicate 9 0 ++ [255, 255] ++ List.replicate 9 0 ∧
    phaseStatus 0 State.reset = [0, 0, 0, 255, 0, 255, 255] := by decide +kernel

/-- Chapter 4, "carries, a held sample and a fold", sample 1. -/
theorem test_account_example :
    integrate ⟨380000, 59923, 318, false⟩
        ⟨⟨12982, 3560000⟩, ⟨0, 0⟩, ⟨4933, 3580000000000⟩, ⟨0, 0⟩, ⟨779, 998⟩, false⟩ =
      ⟨⟨12983, 19923⟩, ⟨0, 0⟩, ⟨4934, 2770740000⟩, ⟨0, 0⟩, ⟨779, 999⟩, false⟩ := by decide +kernel

/-- The same example's fold. -/
theorem test_fold_example :
    foldTally ⟨⟨918400, 3500000⟩, ⟨0, 0⟩, ⟨340120, 3550000000000⟩, ⟨0, 0⟩, ⟨6400200, 995⟩, false⟩
        ⟨⟨12983, 199689⟩, ⟨0, 0⟩, ⟨4934, 71082778744⟩, ⟨0, 0⟩, ⟨780, 2⟩, false⟩ =
      ⟨⟨931384, 99689⟩, ⟨0, 0⟩, ⟨345055, 21082778744⟩, ⟨0, 0⟩, ⟨6400980, 997⟩, false⟩ := by decide +kernel

/-- Chapter 4, "a saturated run count". -/
theorem test_saturation_example : addTo chargeDivisor 90000 ⟨4294967294, 3540000⟩ = (⟨4294967295, 0⟩, true) := by
  decide +kernel

/-- Chapter 3, "a window disturbed and recovered", samples 64, 70 and 80. -/
theorem test_settle_example :
    windowCheck (countSample 100000 100000 200 ⟨63, false, 100000, 200, true, false⟩) = ⟨0, false, 100000, 200, true, true⟩ ∧
    windowCheck (countSample 100260 100000 200 ⟨5, false, 100000, 200, true, true⟩) = ⟨1, true, 100000, 200, true, false⟩ ∧
    windowCheck (countSample 99750 100000 200 ⟨10, true, 100000, 200, true, false⟩) = ⟨11, true, 100000, 200, true, false⟩ := by
  decide +kernel

/-- Chapter 1, "building a program": the second close fails on the power setpoint of step 2, by the offset of R214. -/
theorem test_close_example :
    validate [some { ccStep with kind := .cccvCharge }, some restStep,
        some { ccStep with kind := .cpDischarge, current := 0, power := 350000 }, some { loopStep with repeatCount := 100 }] =
      some (2, ⟨.fieldRange, none, some 6⟩) ∧
    validate [some ccStep, some restStep, none, some loopStep] = some (2, ⟨.unwritten, none, none⟩) := by decide +kernel

/-- R215: the frames that number a chain, with their CRC (initial value 65,535, polynomial 0x1021, by hand). -/
theorem test_chain_frames :
    numberAnswer 2 = [4, 1, 2, 3, 47] ∧ discoverBytes 3 false = [1, 3, 0, 174, 255] ∧ passAnswer = [4, 0, 0, 16, 92] := by
  decide +kernel

/-- R206: the empty response frame of a part that has taken no command, and a claim of port 2 by its bytes. -/
theorem test_station_frames :
    emptyFrame 0 = [166, 0, 0, 0, 2, 0, 0, 88] ∧ commandFrame (.claimPort 2) = [90, 6, 1, 2, 157] ∧
    decodeCommand 6 [2] = .command (.claimPort 2) ∧ decodeCommand 6 [] = .wrongLength ∧ decodeCommand 47 [] = .unknown := by
  decide +kernel

/-- R54, R62, R214: an empty port's status is 405 bytes long; VACANT 0, the step index 0, program and kind none, an offset of 0 and the
gain of R58 for the voltage at byte 45. -/
theorem test_port_status :
    let b := portStatus 0 State.reset
    b.length = 405 ∧ b.take 8 = [0, 0, 0, 0, 255, 0, 255, 0] ∧ slice b 45 8 = [0, 0, 0, 0, 0, 0, 128, 0] := by decide +kernel

/-- R208: the cabinet's status after reset is 364 bytes long; ramp time 50, NORMAL, the contactor OPEN, no number, UNLINKED, no
owner, and the attention line asserted. -/
theorem test_cabinet_status :
    let b := cabinetStatus State.reset
    b.length = 364 ∧ slice b 52 4 = [0, 0, 0, 50] ∧ slice b 293 1 = [0] ∧ slice b 301 1 = [0] ∧ slice b 318 2 = [255, 0] ∧
    slice b 355 9 = [0, 0, 0, 0, 0, 0, 0, 0, 1] := by decide +kernel

/-- No row of the table gives a word's bits, so no word spells a command. -/
theorem test_no_words : decodeTableWord 16 5 = none ∧ State.reset.withFetchWord 16 5 = State.reset := by
  exact ⟨rfl, rfl⟩

/-! ### States that meet the hypotheses of the statements -/

theorem test_meets_StepTakesFront : ({ State.reset with pending := [.doorOpen] } : State).pending = .doorOpen :: [] := rfl

/-- Times one ms below their ends, and times at their ends. -/
theorem test_meets_EmptyQueueTicks :
    let s : State := { modPhase 4 (fun ph => { ph with watch := some 2 }) (modPhase 3 (fun ph => { ph with watch := some 1 })
        (modIdent 1 (fun i => { i with attempt := some ⟨3, 50⟩ })
          (modIdent 0 (fun i => { i with attempt := some ⟨1, 49⟩ }) State.reset))) with
      prot := { State.reset.prot with cabinet := .cooldown 0, closingWatch := some 199, openingWatch := some 200 }
      chain := { State.reset.chain with silence := some 99, answerWatch := some 10, uplink := some ⟨[], 6⟩ } }
    s.pending = [] ∧ s.prot.cabinet = .cooldown 0 ∧ (s.pool.phases[(3 : Fin 16)].watch = some 1 ∧
      s.pool.phases[(4 : Fin 16)].watch = some 2) ∧ s.prot.closingWatch = some 199 ∧ s.prot.openingWatch = some 200 ∧
      (s.ports[(0 : Fin 8)].ident.attempt = some ⟨1, 49⟩ ∧ s.ports[(1 : Fin 8)].ident.attempt = some ⟨3, 50⟩) ∧
      s.chain.silence = some 99 ∧ s.chain.answerWatch = some 10 ∧ s.chain.uplink = some ⟨[], 6⟩ ∧
    (∀ r, State.reset.prot.cabinet ≠ .cooldown r) ∧ State.reset.pending = [] := by
  refine ⟨rfl, rfl, ⟨by decide +kernel, by decide +kernel⟩, rfl, rfl, ⟨by decide +kernel, by decide +kernel⟩, rfl, rfl, rfl, ?_, rfl⟩
  rintro r ⟨⟩

theorem test_meets_BlocksKept : ∃ t, exec .allocationTick State.reset = .next t ∧ takesFrame .allocationTick = false ∧
    writesPrograms .allocationTick = false ∧ writesProtection .allocationTick = false ∧
    writesBudgets .allocationTick = false ∧ writesRampTime .allocationTick = false ∧
    writesSettings .allocationTick = false ∧ writesMasks .allocationTick = false ∧ writesChain .allocationTick = false ∧
    (Instr.allocationTick.command.map fun x => x.1.master) ≠ some .station ∧
    (Instr.allocationTick.command.map fun x => x.1.master) ≠ some .hall ∧ Instr.allocationTick ≠ .transactionStart :=
  ⟨_, rfl, by decide⟩

theorem test_meets_RowsRunTheirCommand :
    (Instr.claimPort (.hall 255) 2).command = some (.hall 255, .claimPort 2) := rfl

theorem test_meets_RefusedChangesNothing :
    (Instr.claimPort .station 8).command = some (.station, .claimPort 8) ∧
    (runCommand .station (.claimPort 8) State.reset).2.code ≠ .ok ∧
    (Instr.claimPort (.hall 0) 8).command = some (.hall 0, .claimPort 8) ∧
    (runCommand .hall (.claimPort 8) State.reset).2.code ≠ .ok := by decide +kernel

theorem test_meets_CommandBytesRoundTrip :
    (Command.setCalibration 255 255 (-2147483648) 4294967295).wf = true ∧
    (Command.clearAttention ⟨Vector.replicate 8 0xFF, 0x3F⟩).wf = true ∧
    (Command.readHistory ⟨255, 18446744073709551615⟩).wf = true ∧ (Command.importEntry (List.replicate 78 0xFF)).wf = true ∧
    Command.lockLimits.wf = true := by decide

/-- The port numbers 7 and 8 where the clauses meet. -/
theorem test_meets_OwnershipChecked :
    (ownedPort (.holdPort 8) = some 8 ∧ 8 ≤ 8) ∧
    (ownedPort (.holdPort 7) = some (7 : Fin 8).val ∧ State.reset.ports[(7 : Fin 8)].owner ≠ ownerOf .station) ∧
    ((port0 id).ports[(0 : Fin 8)].owner ≠ ownerOf .hall ∧ (port0 id).ports[(0 : Fin 8)].owner ≠ .none) := by decide +kernel

/-- The short frames are one byte below a header and one below their length; the codes are those beside 1 to 46. -/
theorem test_meets_StationTransaction :
    let s : State := { State.reset with cmd := { State.reset.cmd with transaction := some [] } }
    (State.reset.cmd.transaction = none ∧ s.cmd.transaction = some [] ∧ (∀ b, ([] : List Byte).head? = some b → b ≠ 90) ∧
      (∀ b, ([89] : List Byte).head? = some b → b ≠ 90) ∧ (Command.claimPort 2).wf = true) ∧
    (([90, 6] : List Byte).head? = some 90 ∧ ([90, 6] : List Byte).length < 3) ∧
    (([90, 6, 1, 2] : List Byte).head? = some 90 ∧ ([90, 6, 1, 2] : List Byte).length < natAt [90, 6, 1, 2] 2 1 + 4) ∧
    (([90, 6, 1, 2, 158] : List Byte).head? = some 90 ∧
      sumsToZero (([90, 6, 1, 2, 158] : List Byte).take (natAt [90, 6, 1, 2, 158] 2 1 + 4)) = false) ∧
    ((0 < 256 ∧ ([] : List Byte).length < 256) ∧ 47 ≤ 47 ∧ 47 ≤ 255) ∧ decodeCommand 6 [] = .wrongLength := by
  refine ⟨⟨rfl, rfl, nofun, ?_, by decide⟩, by decide +kernel⟩
  rintro b ⟨⟩; decide

/-! #### Programs -/

theorem test_reset_StoreFormed : StoreFormed State.reset := by unfold StoreFormed; decide +kernel

theorem test_meets_ProgramBuilt :
    (StoreFormed State.reset ∧ State.reset.headers[(31 : Fin 32)].state = .empty ∧ 1 ≤ 64 ∧ 64 ≤ 64 ∧
      64 ≤ freeSlots State.reset) ∧
    let s := modHeader 0 (fun _ => ⟨.building, .station, [none, some ccStep], 0, []⟩) State.reset
    s.headers[(0 : Fin 32)].state = .building ∧ s.headers[(0 : Fin 32)].author = Issuer.station.master ∧
      1 < s.headers[(0 : Fin 32)].steps.length ∧ (parseStep (List.replicate 74 0)).isSome :=
  ⟨⟨test_reset_StoreFormed, by decide +kernel⟩, by decide +kernel⟩

/-- A program with each kind of step that validation looks at, and one that it fails at its last index. -/
def goodSteps : List (Option StepRecord) :=
  [some { ccStep with conditions := [⟨.settleGrade, .atOrAbove, 2, .goto 3⟩] }, some pulseStep, some loopStep, some endStep]

theorem test_meets_CloseProgramJudges :
    let s (x : List (Option StepRecord)) := modHeader 0 (fun _ => ⟨.building, .hall, x, 0, []⟩) State.reset
    ((s goodSteps).headers[(0 : Fin 32)].state = .building ∧ (s goodSteps).headers[(0 : Fin 32)].author = (Issuer.hall 9).master ∧
      validate (s goodSteps).headers[(0 : Fin 32)].steps = none) ∧
    validate (s [some ccStep, none]).headers[(0 : Fin 32)].steps = some (1, ⟨.unwritten, none, none⟩) ∧
    validate goodSteps = none ∧ goodSteps.length = 4 ∧ assignLoops goodSteps = [none, none, some 0, none] ∧
    validate [some ccStep, some loopStep, some loopStep, some endStep] = none ∧
    assignLoops [some ccStep, some loopStep, some loopStep, some endStep] = [none, some 0, some 1, none] := by decide +kernel

theorem test_meets_InstantChainBounded :
    let s := modRun 0 (fun r => { r with program := some 0 }) (ready goodSteps)
    s.ports[(0 : Fin 8)].run.program = some 0 ∧ validate s.headers[(0 : Fin 32)].steps = none := by decide +kernel

theorem test_meets_DeleteProgramFrees :
    let s (m : Master) (n : Nat) := modHeader 0 (fun _ => ⟨.ready, m, goodSteps, n, []⟩) State.reset
    (32 ≤ 32 ∧ State.reset.headers[(31 : Fin 32)].state = .empty) ∧
    ((s .hall 0).headers[(0 : Fin 32)].state ≠ .empty ∧ (s .hall 0).headers[(0 : Fin 32)].author ≠ .station) ∧
    (StoreFormed (s .station 0) ∧ (s .station 0).headers[(0 : Fin 32)].state ≠ .empty ∧
      (s .station 0).headers[(0 : Fin 32)].author = .station ∧ (s .station 0).headers[(0 : Fin 32)].useCount = 0) ∧
    StoreFormed (s .station 1) ∧ (Issuer.hall 3).master = .hall ∧ 0 < (s .station 1).headers[(0 : Fin 32)].useCount := by
  unfold StoreFormed; decide +kernel

theorem test_meets_StoreFormedKept : ∃ t, StoreFormed State.reset ∧ step State.reset = .next t := ⟨_, test_reset_StoreFormed, rfl⟩

/-! #### Ports -/

/-- Port 8; a port without an owner, the station's own, and the hall's. -/
theorem test_meets_OwnersChange :
    8 ≤ 8 ∧ State.reset.ports[(7 : Fin 8)].owner = .none ∧
    ((port0 id).ports[(0 : Fin 8)].owner = .station ∧ (port0 id).ports[(0 : Fin 8)].owner = ownerOf Issuer.station.master) ∧
    (modPort 0 (fun q => { q with owner := .hall }) State.reset).ports[(0 : Fin 8)].owner = ownerOf (Issuer.hall 0).master := by
  decide +kernel

theorem test_meets_PortSettingsReplaced : (port0 id).ports[(0 : Fin 8)].owner = ownerOf Issuer.station.master := by decide +kernel

/-- An envelope at the bounds of its ranges, and one whose V_min is above its V_max. -/
theorem test_meets_EnvelopeSet : (port0 id).ports[(0 : Fin 8)].owner = ownerOf Issuer.station.master ∧
    envelopeInRange ⟨1000000, 1000000, 320000, 320000, -400⟩ = true ∧ envelopeInRange ⟨4999, 5000, 0, 0, 0⟩ = false := by
  decide +kernel

/-- A result record of the reset state's port. -/
def anyResult : ResultRecord := resultRecord (Port.atReset false false) .duration

/-- A capture result. -/
def anyCapture : CaptureResult := ⟨some 0, 0, 0, ⟨0, 0, false, 0⟩, ⟨0, 0, false, 0⟩, none⟩

theorem test_meets_ReadsAnswer :
    ((ready goodSteps).headers[(0 : Fin 32)].state ≠ .empty ∧ 3 < (ready goodSteps).headers[(0 : Fin 32)].steps.length) ∧
    (port0 fun q => { q with results := [anyResult] }).ports[(0 : Fin 8)].results.head? = some anyResult ∧
    (withEntry entry77).history.entries[(5 : Fin 64)] = some entry77 ∧ (77 ≠ 0 ∧ entryOf 77 (withEntry entry77) = some 5) ∧
    ({ State.reset with prot := { State.reset.prot with overflow := 1 } } : State).prot.overflow ≠ 0 ∧
    ((port0 fun q => { q with results := [anyResult] }).ports[(0 : Fin 8)].owner = ownerOf .station ∧
      (port0 fun q => { q with results := [anyResult] }).ports[(0 : Fin 8)].results = anyResult :: []) ∧
    ((port0 id).ports[(0 : Fin 8)].owner = ownerOf .station ∧ (port0 id).ports[(0 : Fin 8)].results = []) ∧
    (port0 fun q => { q with intake := { q.intake with slot := some anyCapture } }).ports[(0 : Fin 8)].intake.slot =
      some anyCapture ∧
    State.reset.ports[(0 : Fin 8)].intake.slot = none := by decide +kernel

/-! #### Runs -/

theorem test_meets_StartRunBinds :
    let s := ready [some ccStep, some endStep]
    s.ports[(0 : Fin 8)].owner = ownerOf .station ∧ s.ports[(0 : Fin 8)].run.state = .ready ∧ s.prot.cabinet = .normal ∧
      s.prot.doorOpen = false ∧ s.ports[(0 : Fin 8)].mask &&& s.chain.asserted = 0 ∧ s.headers[(0 : Fin 32)].state = .ready ∧
      s.prot.contactor = .closed ∧
      (0 < s.headers[(0 : Fin 32)].steps.length ∧ recordAt 0 0 s = some ccStep ∧ isTimed ccStep.kind = true) ∧
      (1 < s.headers[(0 : Fin 32)].steps.length ∧ recordAt 0 1 s = some endStep ∧ endStep.kind = .endRun ∧
        s.ports[(0 : Fin 8)].run.applied = 0) := by decide +kernel

/-- Start indices on a LOOP: one that goes back, one that leads past the last index, and two in a row that lead to an END. -/
theorem test_meets_StartRunBinds_leads :
    let back := [some ccStep, some { loopStep with cycleMark := 1 }]
    let past := [some ccStep, some { loopStep with repeatCount := 1 }]
    let two := [some ccStep, some { loopStep with repeatCount := 1 }, some { loopStep with repeatCount := 1 }, some endStep]
    let w : Vector Nat 16 := Vector.replicate 16 0
    (∀ x ∈ [back, past, two], validate x = none ∧ (ready x).ports[(0 : Fin 8)].owner = ownerOf .station ∧
      (ready x).ports[(0 : Fin 8)].run.state = .ready ∧ (ready x).headers[(0 : Fin 32)].state = .ready ∧
      1 < (ready x).headers[(0 : Fin 32)].steps.length ∧ (ready x).prot.contactor = .closed) ∧
    (Leads (ready back).headers[(0 : Fin 32)] 1 w 0 (some 0) (w.set 0 1) 1 ∧ recordAt 0 0 (ready back) = some ccStep) ∧
    Leads (ready past).headers[(0 : Fin 32)] 1 w 0 none w 0 ∧ Leads (ready two).headers[(0 : Fin 32)] 1 w 0 none w 0 := by
  refine ⟨by decide +kernel, ⟨?_, by decide +kernel⟩, ?_, ?_⟩
  · exact .loop (r := { loopStep with cycleMark := 1 }) (k := 0) (by decide +kernel) rfl (by decide +kernel)
      (.timed (r := ccStep) (by decide +kernel) rfl)
  · exact .loop (r := { loopStep with repeatCount := 1 }) (k := 0) (by decide +kernel) rfl (by decide +kernel) .pastEnd
  · exact .loop (r := { loopStep with repeatCount := 1 }) (k := 0) (by decide +kernel) rfl (by decide +kernel)
      (.loop (r := { loopStep with repeatCount := 1 }) (k := 1) (by decide +kernel) rfl (by decide +kernel)
        (.endRun (r := endStep) (by decide +kernel) rfl))

/-- With an entry bound: a marked LOOP that counts one cycle, and a timed step that counts none. -/
theorem test_meets_StartRunBinds_folds :
    let back := [some ccStep, some { loopStep with cycleMark := 1 }]
    let s := modEntry 5 (fun _ => some entry77) (modIdent 0 (fun i => { i with bound := some 5 }) (ready back))
    let w : Vector Nat 16 := Vector.replicate 16 0
    (s.ports[(0 : Fin 8)].owner = ownerOf .station ∧ s.ports[(0 : Fin 8)].run.state = .ready ∧ s.prot.contactor = .closed ∧
      s.ports[(0 : Fin 8)].run.applied = 0 ∧ isQueued 0 s = false ∧ s.headers[(0 : Fin 32)].state = .ready ∧
      validate s.headers[(0 : Fin 32)].steps = none ∧ s.ports[(0 : Fin 8)].ident.bound = some 5 ∧
      s.history.entries[(5 : Fin 64)] = some entry77 ∧ 1 < s.headers[(0 : Fin 32)].steps.length ∧ 1 < top32 ∧
      isPowerStep ccStep.kind = true ∧ isPowerStep restStep.kind = false) ∧
    Leads s.headers[(0 : Fin 32)] 1 w 0 (some 0) (w.set 0 1) 1 ∧ Leads s.headers[(0 : Fin 32)] 0 w 0 (some 0) w 0 := by
  refine ⟨by decide +kernel, ?_, .timed (r := ccStep) (by decide +kernel) rfl⟩
  exact .loop (r := { loopStep with cycleMark := 1 }) (k := 0) (by decide +kernel) rfl (by decide +kernel)
    (.timed (r := ccStep) (by decide +kernel) rfl)

theorem test_meets_HoldAndResume :
    let s (st : PortState) (c : Int) := run0 fun r => { r with state := st, applied := c, step := some restStep }
    let closed (x : State) : State := { x with prot := { x.prot with contactor := .closed } }
    ((s .running 0).ports[(0 : Fin 8)].owner = ownerOf .station ∧ (s .running 0).ports[(0 : Fin 8)].run.state = .running ∧
      (s .running 0).ports[(0 : Fin 8)].run.applied = 0 ∧ (s .running (-1)).ports[(0 : Fin 8)].run.applied ≠ 0) ∧
    (s .held 0).ports[(0 : Fin 8)].run.state = .held ∧ hasStep (s .ready 0).ports[(0 : Fin 8)].run.state = false ∧
    ((closed (s .held 0)).ports[(0 : Fin 8)].owner = ownerOf .station ∧
      (closed (s .held 0)).ports[(0 : Fin 8)].run.state = .held ∧
      (closed (s .held 0)).ports[(0 : Fin 8)].run.causes.interlock = false ∧
      (closed (s .held 0)).ports[(0 : Fin 8)].run.causes.door = false ∧
      (closed (s .held 0)).ports[(0 : Fin 8)].run.step = some restStep ∧ (closed (s .held 0)).prot.contactor = .closed ∧
      isPowerStep restStep.kind = false ∧ isPowerStep ccStep.kind = true ∧ (s .held 0).prot.contactor ≠ .closed) := by
  decide +kernel

/-- Port 0 with phases 2 and 9 assigned. -/
def gang2 (st : PortState) : State :=
  modPhase 2 (fun ph => { ph with state := .assigned 0 })
    (modPhase 9 (fun ph => { ph with state := .assigned 0 }) (run0 fun r => { r with state := st, step := some ccStep }))

/-- R146: more than the need held; FREE phases for it; a queue in front; no FREE phase left. -/
theorem test_meets_acquired :
    let queued : State := { run0 id with pool := { (run0 id).pool with queue := [(1, 8)] } }
    let busy : State :=
      { run0 id with pool := ⟨Vector.replicate 16 ⟨.assigned 1, false, .charge, 0, none, false, false⟩, []⟩ }
    (isQueued 0 (gang2 .held) = false ∧ rawNeed ccStep 0 = 1 ∧ min 1 (cap 0 (gang2 .held)) ≤ heldCount 0 (gang2 .held)) ∧
    (isQueued 0 (run0 id) = false ∧ heldCount 0 (run0 id) < min 1 (cap 0 (run0 id)) ∧ (run0 id).pool.queue = [] ∧
      min 1 (cap 0 (run0 id)) - heldCount 0 (run0 id) ≤ freeCount (run0 id)) ∧
    (isQueued 0 queued = false ∧ heldCount 0 queued < min 1 (cap 0 queued) ∧ queued.pool.queue ≠ []) ∧
    (isQueued 0 busy = false ∧ heldCount 0 busy < min 1 (cap 0 busy) ∧
      freeCount busy < min 1 (cap 0 busy) - heldCount 0 busy) := by decide +kernel

/-- The state after a row, where it answers one. -/
def after (o : Host.Outcome State Fault Refusal) (g : State → Bool) : Bool :=
  match o with
  | .next t => g t
  | .fault _ | .refused _ => false

/-- R44, R150, R155, R160: port 0 with no reserved phase runs on phases 2 and 9, enabled, and is held at 0 mA; the phase whose active
line reads high is watched, and both are FREE. -/
theorem test_hold_releases :
    let s := modPhase 2 (fun ph => { ph with enabled := true, activeHigh := true })
      (modPhase 9 (fun ph => { ph with enabled := true }) (gang2 .running))
    after (exec (.holdPort .station 0) s) (fun t => decide (t.pool.phases[(2 : Fin 16)].state = .free ∧
      t.pool.phases[(2 : Fin 16)].watch = some 0 ∧ t.pool.phases[(9 : Fin 16)].watch = none ∧
      t.pool.phases[(9 : Fin 16)].state = .free ∧ t.pool.phases[(9 : Fin 16)].enabled = false)) = true := by decide +kernel

/-- R46, R155: a REST is resumed on its reserved phases; the enable of the one that is watched stays down. -/
theorem test_resume_enables :
    let s := modPhase 2 (fun ph => { ph with watch := some 1 })
      (modRun 0 (fun r => { r with step := some restStep }) (gang2 .held))
    after (exec (.resumePort .station 0) { s with prot := { s.prot with contactor := .closed } }) (fun t =>
      decide (t.ports[(0 : Fin 8)].run.state = .running ∧ t.pool.phases[(2 : Fin 16)].enabled = false ∧
        t.pool.phases[(9 : Fin 16)].enabled = true)) = true := by decide +kernel

theorem test_meets_AbortRunEnds :
    let s (c : Int) := run0 fun r => { r with state := .held, applied := c, step := some ccStep }
    (s 0).ports[(0 : Fin 8)].owner = ownerOf .station ∧ hasStep (s 0).ports[(0 : Fin 8)].run.state = true ∧
      (s 0).ports[(0 : Fin 8)].run.applied = 0 ∧ (s 1).ports[(0 : Fin 8)].run.applied ≠ 0 := by decide +kernel

theorem test_meets_ClearFaultClears :
    (run0 fun r => { r with state := .faulted }).ports[(0 : Fin 8)].owner = ownerOf .station ∧
      (run0 fun r => { r with state := .faulted }).ports[(0 : Fin 8)].run.state = .faulted := by decide +kernel

/-- Port 0 in a cabinet with no phase in service. -/
def noPhases : State :=
  { run0 id with pool := ⟨Vector.replicate 16 ⟨.outOfService, false, .charge, 0, none, false, false⟩, []⟩ }

theorem test_meets_ReservedPhasesSet :
    ((gang2 .held).ports[(0 : Fin 8)].owner = ownerOf .station ∧ 8 ≤ 8 ∧ (gang2 .held).ports[(0 : Fin 8)].run.state ≠ .transfer ∧
      isQueued 0 (gang2 .held) = false ∧ 8 - heldCount 0 (gang2 .held) ≤ freeCount (gang2 .held) ∧
      heldCount 0 (gang2 .held) ≤ 8 ∧ 1 < heldCount 0 (gang2 .held) ∧ (gang2 .held).ports[(0 : Fin 8)].run.state = .held) ∧
    ((gang2 .running).ports[(0 : Fin 8)].run.state = .running ∧
      (gang2 .running).ports[(0 : Fin 8)].run.step.map StepRecord.kind ≠ some .rest) ∧
    (noPhases.ports[(0 : Fin 8)].owner = ownerOf .station ∧ isQueued 0 noPhases = false ∧ heldCount 0 noPhases < 1 ∧
      freeCount noPhases < 1 - heldCount 0 noPhases) ∧
    (let rest := modRun 0 (fun r => { r with step := some restStep }) (gang2 .running)
    rest.ports[(0 : Fin 8)].run.state = .running ∧ rest.ports[(0 : Fin 8)].run.step.map StepRecord.kind = some .rest ∧
      isQueued 0 rest = false ∧ 1 < heldCount 0 rest) ∧
    8 < 9 ∧ (gang2 .transfer).ports[(0 : Fin 8)].run.state = .transfer := by decide +kernel

theorem test_meets_InterlockMaskSet :
    let s (m : Byte) (st : PortState) (c : Int) : State :=
      { port0 fun q => { q with mask := m, run := { q.run with state := st, applied := c } } with
        chain := { State.reset.chain with asserted := 0x80 } }
    (8 ≤ 8 ∧ State.reset.ports[(7 : Fin 8)].owner ≠ ownerOf Issuer.station.master) ∧
    (∀ x ∈ [PortState.running, .transfer, .holding, .held], ∀ c ∈ [(0 : Int), 1],
      (s 0 x c).ports[(0 : Fin 8)].owner = ownerOf .station ∧ (0x80 : Byte) &&& (s 0 x c).chain.asserted ≠ 0 ∧
      (s 0 x c).ports[(0 : Fin 8)].mask &&& (s 0 x c).chain.asserted = 0 ∧
      hasStep (s 0 x c).ports[(0 : Fin 8)].run.state = true ∧ (s 0 x c).ports[(0 : Fin 8)].run.applied = c) ∧
    ((0x7F : Byte) &&& (s 0x80 .held 0).chain.asserted = 0 ∧
      (s 0x80 .held 0).ports[(0 : Fin 8)].mask &&& (s 0x80 .held 0).chain.asserted ≠ 0) ∧
    ((0x7F : Byte) &&& (s 0 .held 0).chain.asserted = 0 ↔
      (s 0 .held 0).ports[(0 : Fin 8)].mask &&& (s 0 .held 0).chain.asserted = 0) ∧
    (0x80 : Byte) &&& (s 0 .ready 0).chain.asserted ≠ 0 ∧ hasStep (s 0 .ready 0).ports[(0 : Fin 8)].run.state = false := by
  decide +kernel

theorem test_reset_UseCountsExact : UseCountsExact State.reset := by unfold UseCountsExact; decide +kernel

theorem test_meets_UseCountsKept : ∃ t, UseCountsExact State.reset ∧ step State.reset = .next t :=
  ⟨_, test_reset_UseCountsExact, rfl⟩

/-! #### Sample instants -/

/-- Replies at the bounds of their codes. -/
theorem test_meets_SampleArrives :
    (running ccStep 0 id).ports[(0 : Fin 8)].intake.strobe = .awaited ∧
    replyCodes (reply 8388607 (-8388608) 250) = some (8388607, -8388608, 250) ∧ replyCodes (List.replicate 10 1) = none ∧
    State.reset.ports[(0 : Fin 8)].intake.strobe ≠ .awaited := by decide +kernel

/-- The second miss before the third that raises MEASUREMENT_LOST. -/
theorem test_meets_StrobeGoesOut :
    let s (st : PortState) := running ccStep 0 fun q => { q with
      run := { q.run with state := st }, intake := { q.intake with missed := 2 } }
    strobeMissed State.reset.ports[(0 : Fin 8)] = false ∧
    (strobeMissed (s .running).ports[(0 : Fin 8)] = true ∧ 2 ≤ (s .running).ports[(0 : Fin 8)].intake.missed ∧
      (s .running).ports[(0 : Fin 8)].run.state ≠ .vacant ∧ (s .running).ports[(0 : Fin 8)].run.state ≠ .faulted ∧
      (s .running).ports[(0 : Fin 8)].prot.fault = none ∧
      timerDue (s .running).ports[(0 : Fin 8)] (nextHeld (s .running).ports[(0 : Fin 8)].intake) = false ∧
      (s .running).ports[(0 : Fin 8)].run.step = some ccStep ∧ ccStep.conditions = [] ∧
      isBound (s .running).ports[(0 : Fin 8)].run.state = true ∧ isIdle (s .ready).ports[(0 : Fin 8)].run.state = true) ∧
    (keepsRun (s .running).ports[(0 : Fin 8)].run ∧ keepsRun (s .ready).ports[(0 : Fin 8)].run) ∧
    (strobeMissed (s .ready).ports[(0 : Fin 8)] = true ∧ (s .ready).ports[(0 : Fin 8)].run.state ≠ .running ∧
      (s .ready).ports[(0 : Fin 8)].run.state ≠ .vacant) := by unfold keepsRun; decide +kernel

/-- Each kind of power step with its controlled quantity, in a clean window one sample short of 32 and of 64 and in an empty one; the
change to CV and the pulse edge; a missed sample, a REST and another state. -/
theorem test_meets_WindowCheckGrades :
    let cv (c : Nat) : StepRecord := { ccStep with kind := .cccvCharge, cvVoltage := c }
    let s (st : PortState) (r : StepRecord) (sub : SubPhase) (n : Nat) := running r 5 fun q => { q with
      run := { q.run with state := st, subPhase := sub }
      intake := { q.intake with edges := .both, settle := ⟨n, false, 0, 200, false, false⟩ } }
    let rd := Reading.arrival (reply 380000 (-40) 250)
    let v : Sample := ⟨380000, -40, 250, false⟩
    let d (x target : Int) (tol n : Nat) := countSample x target tol ⟨n, false, 0, 200, false, false⟩
    replyCodes (reply 380000 (-40) 250) = some (380000, -40, 250) ∧
    (∀ y ∈ [(ccStep, SubPhase.none, (-40 : Int), (0 : Int), (200 : Nat)), ({ ccStep with kind := .ccDischarge }, .none, -40, 0, 200),
        (cv 400000, .cc, -40, 0, 200), (cv 380000, .cc, -40, 0, 200), (cv 380000, .cv, 380000, 380000, 20),
        ({ ccStep with kind := .cpDischarge }, .none, -15, 0, 100), ({ pulseStep with baseTime := 5 }, .base, -40, 0, 200)],
      ∀ n ∈ [0, 31, 63],
      (s .running y.1 y.2.1 n).ports[(0 : Fin 8)].intake.strobe = .awaited ∧
      convertSample (s .running y.1 y.2.1 n).ports[(0 : Fin 8)].intake (380000, -40, 250) = v ∧
      (s .running y.1 y.2.1 n).ports[(0 : Fin 8)].run.state = .running ∧
      (s .running y.1 y.2.1 n).ports[(0 : Fin 8)].run.step = some y.1 ∧ y.1.conditions = [] ∧
      timerDue (s .running y.1 y.2.1 n).ports[(0 : Fin 8)] v = false ∧
      faultless (s .running y.1 y.2.1 n).ports[(0 : Fin 8)] rd v = true ∧
      controlled y.1 y.2.1 (s .running y.1 y.2.1 n).ports[(0 : Fin 8)].intake.defaults v 0 = some y.2.2) ∧
    ((d (-40) 0 200 31).count = 32 ∧ (d (-40) 0 200 63).count = 64 ∧ (d (-40) 0 200 0).count = 1 ∧ edgeSelected .both 0 1 = true) ∧
    (cvReached (s .running (cv 380000) .cc 0).ports[(0 : Fin 8)].run 380000 = true ∧
      edgeDue (s .running { pulseStep with baseTime := 5 } .base 0).ports[(0 : Fin 8)].run = true) ∧
    (∀ st ∈ [PortState.running, .ready, .held, .faulted, .transfer], ∀ r ∈ [restStep, ccStep],
      readingSample (s st r .none 31).ports[(0 : Fin 8)] .missed = some ⟨0, 0, 0, false⟩ ∧
      faultless (s st r .none 31).ports[(0 : Fin 8)] .missed ⟨0, 0, 0, false⟩ = true ∧
      cvReached (s st r .none 31).ports[(0 : Fin 8)].run 0 = false ∧ edgeDue (s st r .none 31).ports[(0 : Fin 8)].run = false ∧
      (s st r .none 31).ports[(0 : Fin 8)].run.state = st ∧ timerDue (s st r .none 31).ports[(0 : Fin 8)] ⟨0, 0, 0, false⟩ = false ∧
      r.conditions = []) ∧
    controlled ccStep .none ⟨200, 20, 100, 16⟩ v 0 = some (-40, 0, 200) ∧ restStep.kind = .rest := by decide +kernel

/-- The clauses of a counted sample at the edge of the band: an empty window, a target that moves, a clean and a dirty window. -/
theorem test_meets_WindowCheckGrades_counted :
    (0 : Nat) < ((201 : Int) - 0).natAbs ∧ ((200 : Int) - 0).natAbs ≤ 200 ∧ 200 < ((201 : Int) - 0).natAbs ∧
    (⟨1, false, 0, 200, false, false⟩ : Settle).count ≠ 0 ∧ (⟨1, true, 0, 200, false, false⟩ : Settle).dirty = true := by decide

theorem test_meets_CapturesTaken :
    let s := running pulseStep 10000 fun q => { q with run := { q.run with subPhase := .base } }
    let b := running pulseStep 10100 fun q => { q with
      run := { q.run with subPhase := .pulse }, intake := { q.intake with captureA := some ⟨390000, -12, false, 10000⟩ } }
    (readingSample s.ports[(0 : Fin 8)] .missed = some ⟨0, 0, 0, false⟩ ∧
      readingSample s.ports[(0 : Fin 8)] (.arrival (reply 390000 (-12) 250)) = some ⟨390000, -12, 250, false⟩ ∧
      s.ports[(0 : Fin 8)].run.state = .running ∧ s.ports[(0 : Fin 8)].run.step = some pulseStep ∧ pulseStep.kind = .pulse ∧
      s.ports[(0 : Fin 8)].run.subPhase = .base ∧ s.ports[(0 : Fin 8)].run.stepTimer = pulseStep.baseTime ∧
      pulseStep.conditions = [] ∧ 1 < pulseStep.pulseTime ∧ pulseStep.baseTime + 1 < pulseStep.duration ∧
      faultless s.ports[(0 : Fin 8)] .missed ⟨0, 0, 0, false⟩ = true ∧
      faultless s.ports[(0 : Fin 8)] (.arrival (reply 390000 (-12) 250)) ⟨390000, -12, 250, false⟩ = true) ∧
    (b.ports[(0 : Fin 8)].intake.strobe = .awaited ∧
      replyCodes (reply 386600 (-199950) 250) = some (386600, -199950, 250) ∧ b.ports[(0 : Fin 8)].run.state = .running ∧
      b.ports[(0 : Fin 8)].run.step = some pulseStep ∧ b.ports[(0 : Fin 8)].run.subPhase = .pulse ∧
      b.ports[(0 : Fin 8)].intake.captureA = some ⟨390000, -12, false, 10000⟩ ∧
      pulseStep.baseTime + pulseStep.captureDelay ≤ b.ports[(0 : Fin 8)].run.stepTimer ∧
      timerDue b.ports[(0 : Fin 8)] (convertSample b.ports[(0 : Fin 8)].intake (386600, -199950, 250)) = false ∧
      faultless b.ports[(0 : Fin 8)] (.arrival (reply 386600 (-199950) 250)) ⟨386600, -199950, 250, false⟩ = true) := by decide +kernel

/-- The last sample of a duration limit, and of a PULSE that ends below its limit. -/
theorem test_meets_DurationEndsStep :
    let s := running ccStep 999 id
    let p := running pulseStep 19999 id
    (readingSample s.ports[(0 : Fin 8)] (.arrival (reply 0 0 0)) = some ⟨0, 0, 0, false⟩ ∧
      s.ports[(0 : Fin 8)].run.state = .running ∧ s.ports[(0 : Fin 8)].run.step = some ccStep ∧ ccStep.conditions = [] ∧
      ccStep.duration ≤ s.ports[(0 : Fin 8)].run.stepTimer + 1 ∧
      faultless s.ports[(0 : Fin 8)] (.arrival (reply 0 0 0)) ⟨0, 0, 0, false⟩ = true) ∧
    (p.ports[(0 : Fin 8)].run.step = some pulseStep ∧ pulseStep.kind = .pulse ∧
      pulseStep.baseTime + pulseStep.pulseTime ≤ p.ports[(0 : Fin 8)].run.stepTimer + 1 ∧
      faultless p.ports[(0 : Fin 8)] .missed ⟨0, 0, 0, false⟩ = true) := by decide +kernel

/-- Conditions at their thresholds, in list order; the actions; the indices that NEXT and GOTO enter: a timed step, a LOOP that goes
back and one that lets the run through, an END. -/
theorem test_meets_DurationEndsStep_conditions :
    let c (th : Int) (a : Action) : Condition := ⟨.voltage, .atOrAbove, th, a⟩
    let r (a : Action) : StepRecord := { ccStep with conditions := [c 380001 .endRun, c 380000 a, c 0 .faultRun] }
    let prog := [some ccStep, some loopStep, some restStep, some { loopStep with repeatCount := 1 }, some restStep, some endStep]
    let s (a : Action) : State := modHeader 0 (fun _ => ⟨.ready, .station, prog, 1, assignLoops prog⟩) (running (r a) 998 id)
    let rd := Reading.arrival (reply 380000 0 250)
    (∀ a ∈ [Action.next, .goto 3, .endRun, .faultRun],
      readingSample (s a).ports[(0 : Fin 8)] rd = some ⟨380000, 0, 250, false⟩ ∧
      (s a).ports[(0 : Fin 8)].run.state = .running ∧ (s a).ports[(0 : Fin 8)].run.step = some (r a) ∧
      (s a).ports[(0 : Fin 8)].run.program = some 0 ∧ (s a).ports[(0 : Fin 8)].prot.fault = none ∧
      faultless (s a).ports[(0 : Fin 8)] rd ⟨380000, 0, 250, false⟩ = true ∧
      stepEnd (judged 0 rd ⟨380000, 0, 250, false⟩ (s a)) ⟨380000, 0, 250, false⟩ = some (.condition 1, a)) ∧
    (recordAt 0 1 (s .next) = some loopStep ∧ loopNumberAt 0 1 (s .next) = some (0 : Fin 16).val ∧ 0 + 1 < loopStep.repeatCount ∧
      recordAt 0 0 (s .next) = some ccStep ∧ isTimed ccStep.kind = true) ∧
    (recordAt 0 3 (s .next) = some { loopStep with repeatCount := 1 } ∧ loopNumberAt 0 3 (s .next) = some (1 : Fin 16).val ∧
      ¬ 0 + 1 < 1 ∧ recordAt 0 4 (s .next) = some restStep ∧ isTimed restStep.kind = true) ∧
    (recordAt 0 5 (s .next) = some endStep ∧ endStep.kind = .endRun ∧ loopStep.kind = .loop) ∧
    (let w := running ccStep 999 id
    stepEnd w.ports[(0 : Fin 8)] ⟨0, 0, 0, false⟩ = none ∧ ccStep.conditions = [] ∧ w.ports[(0 : Fin 8)].run.step = some ccStep) := by
  decide +kernel

/-- GOTO a LOOP that lets the run through to another LOOP, which goes back; a LOOP that leads to an END, and one past the last index;
NEXT at the last index, which gives the step count. -/
theorem test_meets_DurationEndsStep_leads :
    let one : StepRecord := { loopStep with repeatCount := 1, cycleMark := 1 }
    let chain := [some ccStep, some one, some loopStep, some one, some endStep, some one]
    let h : Header := ⟨.ready, .station, chain, 1, assignLoops chain⟩
    let w : Vector Nat 16 := Vector.replicate 16 0
    let r (a : Action) : StepRecord := { ccStep with conditions := [⟨.voltage, .atOrAbove, 380000, a⟩] }
    let s (a : Action) (i : Nat) : State := modHeader 0 (fun _ => h) (running (r a) 998 fun q => { q with
      run := { q.run with stepIndex := i }, ident := { q.ident with bound := some 5 } })
    let rd := Reading.arrival (reply 380000 0 250)
    (∀ x ∈ [(Action.goto 1, 0), (.goto 3, 0), (.goto 5, 0), (.goto 0, 0), (.next, 5)],
      readingSample (s x.1 x.2).ports[(0 : Fin 8)] rd = some ⟨380000, 0, 250, false⟩ ∧
      (s x.1 x.2).ports[(0 : Fin 8)].run.state = .running ∧ (s x.1 x.2).ports[(0 : Fin 8)].run.step = some (r x.1) ∧
      (s x.1 x.2).ports[(0 : Fin 8)].run.program = some 0 ∧ (s x.1 x.2).ports[(0 : Fin 8)].prot.fault = none ∧
      faultless (s x.1 x.2).ports[(0 : Fin 8)] rd ⟨380000, 0, 250, false⟩ = true ∧
      stepEnd (judged 0 rd ⟨380000, 0, 250, false⟩ (s x.1 x.2)) ⟨380000, 0, 250, false⟩ = some (.condition 0, x.1) ∧
      (s x.1 x.2).headers[(0 : Fin 32)] = h ∧ (s x.1 x.2).ports[(0 : Fin 8)].run.counters = w ∧
      (s x.1 x.2).ports[(0 : Fin 8)].run.runCycles = 0 ∧ (s x.1 x.2).ports[(0 : Fin 8)].run.stepIndex = x.2 ∧
      (s x.1 x.2).ports[(0 : Fin 8)].ident.bound = some 5 ∧ recordAt 0 0 (s x.1 x.2) = some ccStep) ∧
    validate chain = none ∧ Leads h 1 w 0 (some 0) (w.set 1 1) 1 ∧ Leads h 3 w 0 none w 1 ∧ Leads h 5 w 0 none w 1 ∧
    5 + 1 = h.steps.length ∧ isTimed ccStep.kind = true := by
  refine ⟨by decide +kernel, by decide +kernel, ?_, ?_, ?_, by decide, by decide⟩
  · exact .loop (r := { loopStep with repeatCount := 1, cycleMark := 1 }) (k := 0) rfl rfl (by decide +kernel)
      (.loop (r := loopStep) (k := 1) (by decide +kernel) rfl (by decide +kernel) (.timed (r := ccStep) (by decide +kernel) rfl))
  · exact .loop (r := { loopStep with repeatCount := 1, cycleMark := 1 }) (k := 2) rfl rfl (by decide +kernel)
      (.endRun (r := endStep) (by decide +kernel) rfl)
  · exact .loop (r := { loopStep with repeatCount := 1, cycleMark := 1 }) (k := 3) rfl rfl (by decide +kernel)
      .pastEnd

/-- With an entry bound, a step that ends and goes on to a marked LOOP, which goes back, and to two of them. -/
theorem test_meets_DurationEndsStep_folds :
    let one : StepRecord := { loopStep with repeatCount := 1, cycleMark := 1 }
    let chain := [some ccStep, some one, some one, some restStep]
    let s : State := modEntry 5 (fun _ => some entry77) (modHeader 0 (fun _ => ⟨.ready, .station, chain, 1, assignLoops chain⟩)
      (running { ccStep with duration := 999 } 998 fun q => { q with
        run := { q.run with stepIndex := 1, runCycles := 4294967292 }, ident := { q.ident with bound := some 5 } }))
    let w : Vector Nat 16 := Vector.replicate 16 0
    (stepEnd (judged 0 .missed ⟨0, 0, 0, false⟩ s) ⟨0, 0, 0, false⟩ = some (.duration, .next) ∧
      readingSample s.ports[(0 : Fin 8)] .missed = some ⟨0, 0, 0, false⟩ ∧ validate chain = none ∧
      faultless s.ports[(0 : Fin 8)] .missed ⟨0, 0, 0, false⟩ = true ∧ s.ports[(0 : Fin 8)].prot.fault = none ∧
      s.ports[(0 : Fin 8)].run.state = .running ∧ s.ports[(0 : Fin 8)].run.program = some 0 ∧
      s.ports[(0 : Fin 8)].run.counters = w ∧ s.ports[(0 : Fin 8)].ident.bound = some 5 ∧
      s.history.entries[(5 : Fin 64)] = some entry77 ∧ recordAt 0 2 s = some one ∧ loopNumberAt 0 2 s = some (1 : Fin 16).val ∧
      recordAt 0 3 s = some restStep ∧ isTimed restStep.kind = true ∧ 4294967294 < top32) ∧
    Leads s.headers[(0 : Fin 32)] 1 w 4294967292 (some 3) w 4294967294 := by
  refine ⟨by decide +kernel, ?_⟩
  exact .loop (r := { loopStep with repeatCount := 1, cycleMark := 1 }) (k := 0) (by decide +kernel) rfl (by decide +kernel)
    (.loop (r := { loopStep with repeatCount := 1, cycleMark := 1 }) (k := 1) (by decide +kernel) rfl (by decide +kernel)
      (.timed (r := restStep) (by decide +kernel) rfl))

/-- A drain or ramp of 50 samples at its last. -/
def slewing (st : PortState) (stage : Stage) (r : StepRecord) : State :=
  running r 0 fun q => { q with run := { q.run with state := st, stage := stage, slew := some ⟨500, .charge, 49, 50⟩ } }

theorem test_meets_SlewsComplete :
    let s := slewing .transfer .draining
    (readingSample (s ccStep).ports[(0 : Fin 8)] .missed = some ⟨0, 0, 0, false⟩ ∧ slewDue (s ccStep).ports[(0 : Fin 8)].run = true ∧
      faultless (s ccStep).ports[(0 : Fin 8)] .missed ⟨0, 0, 0, false⟩ = true ∧
      (s ccStep).ports[(0 : Fin 8)].run.state = .transfer ∧ (s ccStep).ports[(0 : Fin 8)].run.stage = .draining ∧
      (s ccStep).ports[(0 : Fin 8)].run.step = some ccStep ∧ isPowerStep ccStep.kind = true ∧
      isPowerStep restStep.kind = false ∧ (s restStep).ports[(0 : Fin 8)].run.step = some restStep) ∧
    ((slewing .transfer .ramping ccStep).ports[(0 : Fin 8)].run.state = .transfer ∧
      (slewing .transfer .ramping ccStep).ports[(0 : Fin 8)].run.stage = .ramping ∧
      slewDue (slewing .transfer .ramping ccStep).ports[(0 : Fin 8)].run = true) ∧
    ((slewing .holding .ramping ccStep).ports[(0 : Fin 8)].run.state = .holding ∧
      faultless (slewing .holding .ramping ccStep).ports[(0 : Fin 8)] .missed ⟨0, 0, 0, false⟩ = true) ∧
    (slewing .ending .ramping ccStep).ports[(0 : Fin 8)].run.state = .ending ∧
    (isQueued 0 (s restStep) = false ∧ isQueued 0 (slewing .ending .ramping ccStep) = false) := by decide +kernel

/-- Two filters at 2 whose conditions hold a third time, in each state, at an instant that ends a step, and at one that ends none. -/
theorem test_meets_TripFaults :
    let s (st : PortState) (timer : Nat) := running ccStep timer fun q => { q with
      run := { q.run with state := st, slew := some ⟨1, .charge, 0, 50⟩ }, ident := { q.ident with present := true }
      prot := { q.prot with effective := ⟨4, 0, 0, 0, 249⟩, filters := Vector.replicate 6 2 } }
    let v (st : PortState) (timer : Nat) := convertSample (s st timer).ports[(0 : Fin 8)].intake (5, 0, 250)
    replyCodes (reply 5 0 250) = some (5, 0, 250) ∧
    (∀ st ∈ [PortState.transfer, .held, .ready, .identifying, .unidentified, .ending, .holding, .running], ∀ timer ∈ [998, 999],
      (s st timer).ports[(0 : Fin 8)].intake.strobe = .awaited ∧ (s st timer).ports[(0 : Fin 8)].prot.fault = none ∧
      (s st timer).ports[(0 : Fin 8)].run.state = st ∧ slewDue (s st timer).ports[(0 : Fin 8)].run = false ∧
      (s st timer).ports[(0 : Fin 8)].run.step = some ccStep ∧
      firing (s st timer).ports[(0 : Fin 8)] (v st timer) = .voltageHigh :: [.temperatureHigh]) ∧
    (timerDue (s .running 998).ports[(0 : Fin 8)] (v .running 998) = false ∧ ccStep.conditions = []) ∧
    (timerDue (s .running 999).ports[(0 : Fin 8)] (v .running 999) = true ∧ isBound .running = true ∧
      FaultCode.temperatureHigh ∈ [FaultCode.voltageHigh, .temperatureHigh] ∧ FaultCode.temperatureHigh ≠ .voltageLow) := by
  decide +kernel

/-- No drain ends in these states: those of the trips above, one sample before the last. -/
theorem test_meets_TripFaults_keeps :
    (∀ st ∈ [PortState.transfer, .held, .ready, .running, .holding, .ending],
      keepsRun { (running ccStep 998 id).ports[(0 : Fin 8)].run with state := st, slew := some ⟨1, .charge, 48, 50⟩ }) ∧
    isBound .ending = true ∧ isIdle .ready = true ∧ hasStep .held = true ∧ hasStep .ending = false := by
  unfold keepsRun; decide +kernel

theorem test_meets_PortsIsolated : ∃ t, portOf (.claimPort .station 7) = some (7 : Fin 8).val ∧ (0 : Fin 8) ≠ 7 ∧
    exec (.claimPort .station 7) State.reset = .next t := ⟨_, rfl, by decide, rfl⟩

/-- An arrival and a missed sample in each state, with an entry bound and without: RUNNING one ms below its limit, HOLDING and ENDING
before the last sample of the drain and at it; the carry at the divisor, and a fold that saturates. -/
theorem test_meets_AccountsExact :
    (let s (st : PortState) (k : Nat) (e : Option (Fin 64)) := modEntry 63 (fun _ => some entry77) (running ccStep 998 fun q => { q with
      run := { q.run with state := st, slew := some ⟨500, .charge, k, 50⟩ }, ident := { q.ident with present := true, bound := e } })
    ∀ st ∈ [PortState.held, .ready, .running, .transfer, .holding, .ending, .faulted, .vacant, .identifying, .unidentified],
      ∀ e ∈ [none, some (63 : Fin 64)],
      ∀ x ∈ [(Reading.arrival (reply 380000 59923 318), (⟨380000, 59923, 318, false⟩ : Sample)), (.missed, ⟨0, 0, 0, false⟩)],
      readingSample (s st 48 e).ports[(0 : Fin 8)] x.1 = some x.2 ∧ faultless (s st 48 e).ports[(0 : Fin 8)] x.1 x.2 = true ∧
      (s st 48 e).ports[(0 : Fin 8)].run.state = st ∧ slewDue (s st 48 e).ports[(0 : Fin 8)].run = false ∧
      timerDue (s st 48 e).ports[(0 : Fin 8)] x.2 = false ∧ (s st 48 e).ports[(0 : Fin 8)].run.step = some ccStep ∧
      ccStep.conditions = [] ∧ slewDue (s st 49 e).ports[(0 : Fin 8)].run = true ∧
      faultless (s st 49 e).ports[(0 : Fin 8)] x.1 x.2 = true ∧
      (s st 49 e).ports[(0 : Fin 8)].ident.bound = e ∧ (s st 49 e).history.entries[(63 : Fin 64)] = some entry77) ∧
    (3599999 < chargeDivisor ∧ 3600000 ≤ chargeDivisor ∧ (addTo chargeDivisor 3600000 ⟨0, 3599999⟩).1.whole ≠ top32) ∧
    ((999 : Nat) < timeDivisor ∧ (foldQuantity timeDivisor ⟨0, 999⟩ ⟨0, 999⟩).2 = false) ∧
    (foldQuantity timeDivisor ⟨4294967294, 999⟩ ⟨0, 1⟩).2 = true := by
  refine ⟨?_, by decide +kernel⟩
  intro s
  decide +kernel +revert

/-! #### Identification and history -/

theorem test_meets_IdentificationStarts :
    (State.reset.ports[(0 : Fin 8)].ident.present = false ∧ State.reset.ports[(0 : Fin 8)].run.state = .vacant ∧
      State.reset.ports[(0 : Fin 8)].prot.thermalOpen = false ∧ State.reset.ports[(0 : Fin 8)].owner = .none) ∧
    ((run0 fun r => { r with state := .faulted }).ports[(0 : Fin 8)].ident.present = false ∧
      (run0 fun r => { r with state := .faulted }).ports[(0 : Fin 8)].run.state = .faulted ∧
      (run0 fun r => { r with state := .faulted }).ports[(0 : Fin 8)].prot.thermalOpen = false) ∧
    (let s (st : PortState) (f : Option FaultRecord) := port0 fun q => { q with
      run := { q.run with state := st }, prot := { q.prot with thermalOpen := true, fault := f } }
    let r : FaultRecord := ⟨.voltageHigh, 0, .held, none, 0, 0, 0, 255⟩
    (∀ x ∈ [(PortState.vacant, none), (.faulted, some r)], (s x.1 x.2).ports[(0 : Fin 8)].ident.present = false ∧
      (s x.1 x.2).ports[(0 : Fin 8)].run.state = x.1 ∧ (s x.1 x.2).ports[(0 : Fin 8)].prot.thermalOpen = true ∧
      (s x.1 x.2).ports[(0 : Fin 8)].ident.bound = none ∧ (s x.1 x.2).ports[(0 : Fin 8)].prot.fault = x.2)) ∧
    (run0 fun r => { r with state := .unidentified }).ports[(0 : Fin 8)].owner = ownerOf Issuer.station.master := by
  decide +kernel

theorem test_meets_PresenceOpens :
    ((packed .ready).ports[(0 : Fin 8)].ident.present = true ∧ isIdle (packed .ready).ports[(0 : Fin 8)].run.state = true ∧
      (packed .ready).ports[(0 : Fin 8)].ident.bound = some 5) ∧
    (packed .identifying).ports[(0 : Fin 8)].run.state = .identifying ∧
    (packed .faulted).ports[(0 : Fin 8)].run.state = .faulted ∧
    (isBound (packed .running).ports[(0 : Fin 8)].run.state = true ∧ (packed .running).ports[(0 : Fin 8)].prot.fault = none ∧
      (packed .running).ports[(0 : Fin 8)].ident.present = true) := by decide +kernel

/-- A nine-byte reply of serial 77. -/
def reply77 : List Byte := u64 77 ++ [checkByte (u64 77)]

/-- A reply of serial 0, and one of serial 77 with a wrong check byte. -/
def reply0 : List Byte := List.replicate 9 0
def replyBad : List Byte := u64 77 ++ [checkByte (u64 77) + 1]

/-- A full table of pinned entries. -/
def fullTable : State :=
  { State.reset with history := ⟨Vector.ofFn fun e : Fin 64 => some { freshEntry (e.val + 100) with pinned := true },
      List.finRange 64, [], []⟩ }

/-- The full table with entry 63 unpinned, and a number of eviction records that wait. -/
def evictTable (n : Nat) : State :=
  let s := modEntry 63 (fun _ => some (freshEntry 163)) fullTable
  { s with history := { s.history with evictions := List.replicate n ⟨entry77, 5, 0⟩ } }

theorem test_meets_IdentificationEnds :
    let s (x : State) (n t : Nat) := modIdent 0 (fun i => { i with attempt := some ⟨n, t⟩ }) x
    let x := s State.reset 1 0
    (x.ports[(0 : Fin 8)].ident.attempt = some ⟨1, 0⟩ ∧ reply77.length = 9 ∧ sumsToZero reply77 = true ∧
      natOf (reply77.take 8) = 77 ∧ 77 ≠ 0 ∧ serialInUse 0 77 x = false ∧ entryOf 77 x = none ∧ freeEntry x = some 0) ∧
    (serialInUse 0 77 (s (withEntry { entry77 with mounted := some 1 }) 1 0) = true ∧
      serialInUse 0 77 (s (withEntry entry77) 1 0) = false ∧ entryOf 77 (s (withEntry entry77) 1 0) = some 5) ∧
    (∀ n ∈ [15, 16], serialInUse 0 77 (s (evictTable n) 1 0) = false ∧ entryOf 77 (s (evictTable n) 1 0) = none ∧
      freeEntry (s (evictTable n) 1 0) = none ∧ evictable (s (evictTable n) 1 0) = some 63 ∧
      (s (evictTable n) 1 0).history.entries[(63 : Fin 64)] = some (freshEntry 163) ∧
      (s (evictTable n) 1 0).history.evictions.length = n) ∧
    (serialInUse 0 77 (s fullTable 1 0) = false ∧ entryOf 77 (s fullTable 1 0) = none ∧ freeEntry (s fullTable 1 0) = none ∧
      evictable (s fullTable 1 0) = none) ∧
    (replyBad.length = 9 ∧ sumsToZero replyBad = false ∧ reply0.length = 9 ∧ sumsToZero reply0 = true ∧
      natOf (reply0.take 8) = 0 ∧ ([] : List Byte).length ≠ 9) ∧
    ((s State.reset 2 50).ports[(0 : Fin 8)].ident.attempt = some ⟨2, 50⟩ ∧ 50 ≤ 50 ∧ 2 < 3) ∧
    (s State.reset 3 50).ports[(0 : Fin 8)].ident.attempt = some ⟨3, 50⟩ := by decide +kernel

/-- A history record of serial 77 with nothing else, and one with a saturating residue. -/
def record77 : List Byte := historyBytes entry77 0 0

theorem test_meets_PinsAndImports :
    (withEntry entry77).history.entries[(5 : Fin 64)] = some entry77 ∧ importBad (List.replicate 78 0) = true ∧
    importBad record77 = false ∧ entryOf (natAt record77 0 8) (withEntry entry77) ≠ none ∧
    (entryOf (natAt record77 0 8) State.reset = none ∧ freeEntry State.reset = some 0) ∧
    (entryOf (natAt record77 0 8) fullTable = none ∧ freeEntry fullTable = none ∧ evictable fullTable = none) := by
  decide +kernel

theorem test_meets_EntriesLeave :
    ((withEntry entry77).history.entries[(5 : Fin 64)] = some entry77 ∧ entry77.mounted = none ∧ entry77.pinned = false ∧
      77 ≠ 0 ∧ entryOf 77 (withEntry entry77) = some 5) ∧
    ((packed .ready).history.entries[(5 : Fin 64)] = some { entry77 with mounted := some 0 } ∧
      ({ entry77 with mounted := some 0 } : Entry).mounted ≠ none) ∧
    ((withEntry { entry77 with pinned := true }).history.entries[(5 : Fin 64)] = some { entry77 with pinned := true } ∧
      ({ entry77 with pinned := true } : Entry).mounted = none ∧ ({ entry77 with pinned := true } : Entry).pinned = true) ∧
    ((evictTable 1).history.evictions = ⟨entry77, 5, 0⟩ :: [] ∧ State.reset.history.evictions = [] ∧
      State.reset.history.waiting = []) ∧
    (let w (x : State) : State := { modIdent 0 (fun i => { i with serialRead := some 77 }) x with
        history := { x.history with waiting := [0] } }
    ((w fullTable).history.waiting = 0 :: [] ∧ (w fullTable).ports[(0 : Fin 8)].ident.serialRead = some 77 ∧
      (lookup 0 77 (w fullTable)).isNone) ∧
    ((w State.reset).history.waiting = 0 :: [] ∧ (w State.reset).ports[(0 : Fin 8)].ident.serialRead = some 77 ∧
      (lookup 0 77 (w State.reset)).isSome)) ∧
    (importBad record77 = false ∧ entryOf (natAt record77 0 8) (evictTable 15) = none ∧ freeEntry (evictTable 15) = none ∧
      evictable (evictTable 15) = some 63 ∧ (evictTable 15).history.entries[(63 : Fin 64)] = some (freshEntry 163) ∧
      (evictTable 15).history.evictions.length < 16) := by decide +kernel

/-! #### Allocation, pool, protection -/

theorem test_reset_GrantsWithin : GrantsWithin State.reset := by unfold GrantsWithin; decide +kernel

theorem test_meets_GrantsKept : ∃ t, GrantsWithin State.reset ∧ step State.reset = .next t := ⟨_, test_reset_GrantsWithin, rfl⟩

/-- Levels 0 and 3; the net at the import limit, one watt above it, and one watt beyond the export limit. -/
theorem test_meets_TickRunsRound :
    (∀ x ∈ [((7 : Int), 3), (-2, 0)], x.2 ≤ 3) ∧
    (7 ≤ 5 + 2 ∧ 2 ≤ 0 + 7) ∧ 4 + 2 < 7 ∧ 0 + 7 < 8 ∧
    (allocate ⟨4, 0⟩ [(7, 3), (-2, 0)] = ([6, -2], .importThrottled 3) ∧
      allocate ⟨0, 1⟩ [(-3, 2), (2, 0), (-3, 2), (-3, 2)] = ([-1, 2, -1, -1], .exportThrottled 2)) ∧
    (Option.map (fun b : Basis => b.step.level) (some ⟨0, { ccStep with level := 3 }, .none⟩) = some 3 ∧
      State.reset.ports[(0 : Fin 8)].alloc.basis = none) := by decide +kernel

theorem test_meets_CabinetSettings : 1 < 2 := Nat.lt_succ_self 1

/-- An arrival and a missed sample of RAMPING and RUNNING, in CV and at the change to it; a drain at its first sample and at the last
but one; a port that commands no current. -/
theorem test_meets_SharesSum_command :
    let cv : StepRecord := { ccStep with kind := .cccvCharge, cvVoltage := 380000 }
    let s (st : PortState) (stage : Stage) (r : StepRecord) (sub : SubPhase) (k : Nat) := running r 998 fun q => { q with
      run := { q.run with state := st, stage := stage, subPhase := sub, slew := some ⟨500, .discharge, k, 50⟩ } }
    let rds := [(Reading.arrival (reply 380000 40000 250), (⟨380000, 40000, 250, false⟩ : Sample)), (.missed, ⟨0, 0, 0, false⟩)]
    (∀ x ∈ [(PortState.running, Stage.draining), (.transfer, .ramping)], ∀ y ∈ [(ccStep, SubPhase.none), (cv, .cc), (cv, .cv)],
      ∀ z ∈ rds,
      readingSample (s x.1 x.2 y.1 y.2 49).ports[(0 : Fin 8)] z.1 = some z.2 ∧
      faultless (s x.1 x.2 y.1 y.2 49).ports[(0 : Fin 8)] z.1 z.2 = true ∧
      (s x.1 x.2 y.1 y.2 49).ports[(0 : Fin 8)].run.step = some y.1 ∧
      isPowerStep y.1.kind = true ∧ y.1.conditions = [] ∧ timerDue (s x.1 x.2 y.1 y.2 49).ports[(0 : Fin 8)] z.2 = false ∧
      (s x.1 x.2 y.1 y.2 49).ports[(0 : Fin 8)].run.state = x.1 ∧ (s x.1 x.2 y.1 y.2 49).ports[(0 : Fin 8)].run.stage = x.2) ∧
    (∀ x ∈ [PortState.transfer, .holding, .ending], ∀ k ∈ [0, 48], ∀ z ∈ rds,
      readingSample (s x .draining ccStep .none k).ports[(0 : Fin 8)] z.1 = some z.2 ∧
      faultless (s x .draining ccStep .none k).ports[(0 : Fin 8)] z.1 z.2 = true ∧
      (s x .draining ccStep .none k).ports[(0 : Fin 8)].run.slew = some ⟨500, .discharge, k, 50⟩ ∧ k + 1 < 50 ∧
      (s x .draining ccStep .none k).ports[(0 : Fin 8)].run.state = x ∧
      (s x .draining ccStep .none k).ports[(0 : Fin 8)].run.stage = .draining) ∧
    (∀ x ∈ [PortState.ready, .held, .faulted, .transfer], ∀ z ∈ rds,
      readingSample (s x .acquiring ccStep .none 0).ports[(0 : Fin 8)] z.1 = some z.2 ∧
      faultless (s x .acquiring ccStep .none 0).ports[(0 : Fin 8)] z.1 z.2 = true ∧
      (s x .acquiring ccStep .none 0).ports[(0 : Fin 8)].run.state = x ∧
      (s x .acquiring ccStep .none 0).ports[(0 : Fin 8)].run.stage = .acquiring) ∧
    ((gang2 .running).ports[(0 : Fin 8)].run.state = .running ∧ (gang 0 (gang2 .running))[1]? = some 9) := by decide +kernel

theorem test_meets_SharesSum :
    0 < 8 ∧ 320000 ≤ 40000 * 8 ∧ 7 < 8 ∧
    (⟨.free, true, .charge, 40000, none, false, false⟩ : Phase).enabled = true ∧
    (⟨.free, true, .charge, 40000, none, false, false⟩ : Phase).command ≤ 40000 ∧
    (⟨.free, false, .charge, 0, none, false, false⟩ : Phase).enabled = false := by decide

theorem test_meets_PhaseLinesAct :
    let out := modPhase 15 (fun ph => { ph with state := .outOfService }) State.reset
    let watched := modPhase 15 (fun ph => { ph with activeHigh := true, watch := some 2 }) State.reset
    (State.reset.pool.phases[(15 : Fin 16)].faultHigh = false ∧ State.reset.pool.phases[(15 : Fin 16)].state ≠ .outOfService) ∧
    (out.pool.phases[(15 : Fin 16)].state = .outOfService ∧ out.pool.phases[(15 : Fin 16)].faultHigh = false ∧
      out.pool.queue = []) ∧
    (watched.pool.phases[(15 : Fin 16)].activeHigh = true ∧ watched.pool.phases[(15 : Fin 16)].watch = some 2) ∧
    (State.reset.pool.phases[(15 : Fin 16)].watch = none ∧ watched.pool.phases[(15 : Fin 16)].watch ≠ none) ∧
    (isEnabledState (gang2 .ending).ports[(0 : Fin 8)].run.state = true ∧
      isEnabledState (gang2 .held).ports[(0 : Fin 8)].run.state = false ∧ gang 0 (gang2 .held) = [2, 9]) := by
  decide +kernel

/-- A queue whose head fits in the FREE phases just, and one whose head does not; a shortfall that falls to 0 at a re-forming, and
two that stay. -/
theorem test_meets_PhaseLinesAct_queue :
    let s (need held : Nat) : State :=
      (List.finRange 16).foldl (fun x f => modPhase f (fun ph => { ph with
          state := if f.val < held then .assigned 0 else if f.val < held + 2 then .free else .assigned 7 }) x)
        { modPort 0 (fun q => { q with phases := { q.phases with need := some ⟨need, need⟩ } }) State.reset with
          pool := { State.reset.pool with queue := [(0, need), (1, 1)] } }
    ((s 2 0).pool.queue = (0, 2) :: [(1, 1)] ∧ 2 ≤ freeCount (s 2 0) ∧ freeCount (s 2 0) < 3 ∧ (s 3 0).pool.queue = (0, 3) :: [(1, 1)]) ∧
    ((s 3 1).pool.queue.map Prod.fst).Nodup ∧
    (min 2 (cap 0 (s 2 2)) - heldCount 0 (s 2 2) = 0 ∧ min 3 (cap 0 (s 3 1)) - heldCount 0 (s 3 1) = 2) ∧
    unserved 2 [(0, 2), (1, 1)] = [(1, 1)] ∧ unserved 2 [(0, 3), (1, 1)] = [(0, 3), (1, 1)] := by decide +kernel

theorem test_meets_LimitLockHolds :
    let s : State := { State.reset with prot := { State.reset.prot with locked := true }, pending := [.doorOpen] }
    ∃ t, s.prot.locked = true ∧ (∀ i rest, s.pending = i :: rest → isPowerOn i = false) ∧ step s = .next t := by
  refine ⟨_, rfl, ?_, rfl⟩
  rintro i rest h; cases h; rfl

theorem test_reset_BoundsKept : EnvelopesFormed State.reset ∧ QueuesBounded State.reset := by
  unfold EnvelopesFormed QueuesBounded; decide +kernel

theorem test_meets_BoundsKept : ∃ t, EnvelopesFormed State.reset ∧ QueuesBounded State.reset ∧ step State.reset = .next t :=
  ⟨_, test_reset_BoundsKept.1, test_reset_BoundsKept.2, rfl⟩

theorem test_meets_ThermalSwitch :
    ((packed .ready).ports[(0 : Fin 8)].prot.thermalOpen = false ∧ (packed .ready).ports[(0 : Fin 8)].ident.present = true ∧
      (packed .ready).ports[(0 : Fin 8)].run.state ≠ .vacant ∧ (packed .ready).ports[(0 : Fin 8)].run.state ≠ .faulted ∧
      (packed .ready).ports[(0 : Fin 8)].prot.fault = none) ∧
    (let r : FaultRecord := ⟨.voltageHigh, 0, .held, none, 0, 0, 0, 255⟩
    let f := modProt 0 (fun x => { x with fault := some r }) (packed .faulted)
    f.ports[(0 : Fin 8)].prot.thermalOpen = false ∧ f.ports[(0 : Fin 8)].ident.present = true ∧
      f.ports[(0 : Fin 8)].run.state = .faulted ∧ f.ports[(0 : Fin 8)].prot.fault = some r) ∧
    (isBound (packed .ending).ports[(0 : Fin 8)].run.state = true ∧ isIdle (packed .ready).ports[(0 : Fin 8)].run.state = true) ∧
    State.reset.ports[(0 : Fin 8)].prot.thermalOpen = false ∧ State.reset.ports[(0 : Fin 8)].ident.present = false := by
  decide +kernel

theorem test_meets_DoorHolds : State.reset.prot.doorOpen = false ∧
    hasStep (run0 fun r => { r with state := .running }).ports[(0 : Fin 8)].run.state = true ∧
    hasStep State.reset.ports[(1 : Fin 8)].run.state = false ∧
    ((port0 id).ports[(0 : Fin 8)].owner = ownerOf Issuer.station.master ∧
      ({ port0 id with prot := { State.reset.prot with doorOpen := true } } : State).prot.doorOpen = true) ∧
    (run0 fun r => { r with state := .held, causes := ⟨true, false, true⟩ }).ports[(0 : Fin 8)].run.causes.door = true := by
  decide +kernel

/-- Reset with other items of the protection unit. -/
def withProt (g : Protection → Protection) : State := { State.reset with prot := g State.reset.prot }

theorem test_meets_ContactorMoves :
    ((withProt fun x => { x with contactor := .closing }).prot.contactor = .closing ∧
      (withProt fun x => { x with contactor := .closing }).prot.feedbackClosed = false) ∧
    ((withProt fun x => { x with closingWatch := some 200 }).prot.closingWatch = some 200 ∧ 200 ≤ 200 ∧
      (withProt fun x => { x with closingWatch := some 200 }).prot.feedbackClosed = false ∧
      (withProt fun x => { x with closingWatch := some 200 }).prot.log.length < 8) ∧
    ((∀ p : Fin 8, barsOpening (withProt fun x => { x with contactor := .closed }).ports[p].run.state = false) ∧
      (withProt fun x => { x with contactor := .closed }).prot.contactor ≠ .opened) ∧
    barsOpening (run0 fun r => { r with state := .ending }).ports[(0 : Fin 8)].run.state = true ∧
    ((withProt fun x => { x with feedbackClosed := true }).prot.contactor = .opened ∧
      (withProt fun x => { x with feedbackClosed := true }).prot.feedbackClosed = true ∧
      (withProt fun x => { x with feedbackClosed := true }).prot.cabinet ≠ .waiting true) ∧
    ((withProt fun x => { x with openingWatch := some 200 }).prot.contactor = .opened ∧
      (withProt fun x => { x with openingWatch := some 200 }).prot.feedbackClosed = false ∧
      (withProt fun x => { x with openingWatch := some 200 }).prot.openingWatch = some 200) ∧
    ((withProt fun x => { x with closingExpired := true }).prot.contactor = .opened ∧
      (withProt fun x => { x with closingExpired := true }).prot.feedbackClosed = false ∧
      (withProt fun x => { x with closingExpired := true }).prot.openingWatch = none ∧
      (withProt fun x => { x with closingExpired := true }).prot.closingExpired = true) := by decide +kernel

/-- R188 and R179: the feedback that closes in the ms of an expired closing takes its mark with it, and so does CLOSE_CONTACTOR. -/
theorem test_expiry_mark_falls :
    let s := withProt fun x => { x with closingExpired := true }
    let mark (o : Host.Outcome State Fault Refusal) : Option Bool := match o with
      | .next t => some t.prot.closingExpired
      | .fault _ | .refused _ => none
    mark (exec .feedbackClose s) = some false ∧ mark (exec (.closeContactor .station) s) = some false := by decide +kernel

/-- Each of the five causes, in NORMAL and in LOCKOUT, with a log of seven entries and of eight. -/
theorem test_meets_LockoutEntered :
    let entry : LogEntry := ⟨.contactorFault, none, 0, .noLockout⟩
    ((modPhase 5 (fun ph => { ph with watch := some 2 }) State.reset).pool.phases[(5 : Fin 16)].watch = some 2 ∧ 2 ≤ 2) ∧
    (State.reset.pool.phases[(5 : Fin 16)].activeHigh = false ∧ State.reset.pool.phases[(5 : Fin 16)].enabled = false ∧
      State.reset.pool.phases[(5 : Fin 16)].watch = none) ∧
    ((withProt fun x => { x with openingWatch := some 200, cabinet := .waiting false }).prot.openingWatch = some 200 ∧
      200 ≤ 200 ∧ (withProt fun x => { x with openingWatch := some 200, cabinet := .waiting false }).prot.cabinet ≠ .normal) ∧
    ((withProt fun x => { x with contactor := .closed, feedbackClosed := true }).prot.contactor = .closed ∧
      (withProt fun x => { x with contactor := .closed, feedbackClosed := true }).prot.feedbackClosed = true) ∧
    (State.reset.prot.contactor = .opened ∧ State.reset.prot.feedbackClosed = false ∧ State.reset.prot.openingWatch = none ∧
      State.reset.prot.closingExpired = false) ∧
    ((withProt fun x => { x with log := List.replicate 7 entry }).prot.log.length < 8 ∧
      8 ≤ (withProt fun x => { x with log := List.replicate 8 entry }).prot.log.length) ∧ State.reset.prot.cabinet = .normal ∧
    (isBound (packed .held).ports[(0 : Fin 8)].run.state = true ∧ hasStep (packed .held).ports[(0 : Fin 8)].run.state = true ∧
      (packed .held).ports[(0 : Fin 8)].prot.fault = none ∧ isIdle (packed .ready).ports[(0 : Fin 8)].run.state = true ∧
      (packed .ready).ports[(0 : Fin 8)].ident.bound ≠ none) ∧
    (let r : FaultRecord := ⟨.voltageHigh, 0, .held, none, 0, 0, 0, 255⟩
    (modProt 0 (fun x => { x with fault := some r }) (packed .faulted)).ports[(0 : Fin 8)].run.state = .faulted ∧
      (modProt 0 (fun x => { x with fault := some r }) (packed .faulted)).ports[(0 : Fin 8)].prot.fault = some r) ∧
    (withProt fun x => { x with contactor := .closed }).prot.contactor ≠ .opened ∧ State.reset.prot.contactor = .opened ∧
    (packed .ending).ports[(0 : Fin 8)].run.state = .ending ∧ (packed .held).pool.queue = [] := by decide +kernel

/-- Four of the five causes are no expiry of an acknowledgement watch. -/
theorem test_meets_LockoutEntered_causes (f g : Fin 16) :
    Instr.openingWatchExpiry ≠ .ackWatchExpiry f ∧ Instr.feedbackOpen ≠ .ackWatchExpiry f ∧
    Instr.feedbackClose ≠ .ackWatchExpiry f ∧ Instr.activeLineRise g ≠ .ackWatchExpiry f := ⟨nofun, nofun, nofun, nofun⟩

theorem test_meets_LockoutEnds :
    (withProt fun x => { x with cabinet := .cooldown 0 }).prot.cabinet = .cooldown 0 ∧
    (withProt fun x => { x with cabinet := .cooldown 1 }).prot.cabinet ≠ .cooldown 0 ∧
    ((withProt fun x => { x with cabinet := .waiting true, feedbackClosed := true }).prot.contactor = .opened ∧
      (withProt fun x => { x with cabinet := .waiting true, feedbackClosed := true }).prot.feedbackClosed = true ∧
      (withProt fun x => { x with cabinet := .waiting true, feedbackClosed := true }).prot.cabinet = .waiting true) ∧
    ((withProt fun x => { x with cabinet := .waiting false }).prot.cabinet = .waiting false ∧
      (withProt fun x => { x with cabinet := .waiting false }).prot.feedbackClosed = false) ∧
    State.reset.prot.cabinet = .normal := by decide +kernel

/-- A port without a pack, and ports whose pack's thermal switch reads CLOSED and OPEN. -/
theorem test_meets_RestartKeeps :
    State.reset.ports[(0 : Fin 8)].ident.present = false ∧
    ((packed .running).ports[(0 : Fin 8)].ident.present = true ∧
      (packed .running).ports[(0 : Fin 8)].prot.thermalOpen = false) ∧
    (modProt 0 (fun x => { x with thermalOpen := true }) (packed .faulted)).ports[(0 : Fin 8)].ident.present = true ∧
    (modProt 0 (fun x => { x with thermalOpen := true }) (packed .faulted)).ports[(0 : Fin 8)].prot.thermalOpen = true := by
  decide +kernel

theorem test_meets_FaultLogCleared : (withProt fun x => { x with cabinet := .cooldown 9 }).prot.log = [] ∧
    (withProt fun x => { x with cabinet := .cooldown 9 }).prot.cabinet ≠ .normal := by decide +kernel

/-! #### Attention and chain -/

theorem test_meets_AttentionChanges :
    ¬ (Issuer.station.master = .hall ∧ namesPortTaken ⟨Vector.replicate 8 0xFF, 0x3F⟩ = true) ∧
    ¬ ((Issuer.hall 1).master = .hall ∧ namesPortTaken ⟨Vector.replicate 8 0x7F, 0x3F⟩ = true) ∧
    namesPortTaken ⟨Vector.replicate 8 0x80, 0⟩ = true := by decide +kernel

/-- Reset with other items of the chain. -/
def withChain (g : Chain → Chain) : State := { State.reset with chain := g State.reset.chain }

/-- A link error count of 8 that the numbering frame brings to 7, and one of 9 that it brings to 8; the first numbering by either frame,
a number that was dropped, the drop form with a number and without one. -/
theorem test_meets_ChainNumbers :
    let w (e : Nat) := withChain fun c => { c with errors := e, validRun := 15 }
    let dropped := withChain fun c => { c with state := .stale }
    (∀ e ∈ [8, 9], (w e).chain.state = .unlinked ∧ (w e).chain.number = none ∧ (w e).chain.live = false ∧
      (countValid (w e).chain).errors = e - 1) ∧
    (discoverValid (discoverBytes 15 false) = true ∧ natAt (discoverBytes 15 false) 2 1 = 0) ∧
    (discoverValid (discoverBytes 1 true) = true ∧ natAt (discoverBytes 1 true) 2 1 = 1 ∧
      1 ≤ natAt (discoverBytes 1 true) 1 1) ∧
    (dropped.chain.number = none ∧ dropped.chain.state ≠ .unlinked) ∧
    (withChain fun c => { c with number := some 1 }).chain.number = some 1 ∧
    (discoverValid (discoverBytes 0 true) = true ∧ natAt (discoverBytes 0 true) 2 1 = 1 ∧
      natAt (discoverBytes 0 true) 1 1 = 0) ∧
    (hasStep (run0 fun r => { r with state := .running }).ports[(0 : Fin 8)].run.state = true ∧ State.reset.chain.asserted = 0 ∧
      State.reset.alloc.source ≠ .fallback) ∧
    14 + 1 ≠ 16 := by decide +kernel

/-- The bytes of a CYCLE frame before its check: entries 0, lines none, a command slot without arguments. -/
def cycleBody (address tag code : Byte) : List Byte := [2] ++ List.replicate 122 0 ++ [0] ++ [address, tag, code, 0]

/-- A CYCLE frame of entries 0, lines none, and a command slot with an address, a tag, a code and no arguments. -/
def cycle (address tag code : Byte) : List Byte := withCrc (cycleBody address tag code)

theorem test_cycleValid (address tag code : Byte) : cycleValid (cycle address tag code) = true := by
  have hl : (cycleBody address tag code).length = 128 := rfl
  have hw : (cycle address tag code).length = 130 := by simp [cycle, withCrc, u16, hl]
  have h0 : natAt (cycle address tag code) 127 1 = 0 := natAt_withCrc (by rw [hl])
  have h1 : natAt (cycle address tag code) 0 1 = 2 := natAt_withCrc (by rw [hl]; decide)
  have hc : crcGood (cycle address tag code) = true := crcGood_withCrc (by rw [hl]; decide)
  simp [cycleValid, hw, h0, h1, hc]

theorem test_cycleAddress (address tag code : Byte) :
    natAt (cycle address tag code) 124 1 = natAt (cycleBody address tag code) 124 1 := natAt_withCrc (by
  have hl : (cycleBody address tag code).length = 128 := rfl
  rw [hl]; decide)

theorem test_cycleCode (address tag code : Byte) :
    natAt (cycle address tag code) 126 1 = natAt (cycleBody address tag code) 126 1 ∧
    natAt (cycle address tag code) 127 1 = 0 := by
  have hl : (cycleBody address tag code).length = 128 := rfl
  exact ⟨natAt_withCrc (by rw [hl]; decide), natAt_withCrc (by rw [hl])⟩

theorem test_cycleTag (address tag code : Byte) : (cycle address tag code).getD 125 0 = tag := by
  have hl : (cycleBody address tag code).length = 128 := rfl
  rw [cycle, withCrc, List.getD_append _ _ _ _ (by rw [hl]; decide)]
  rfl

/-- Line 7 newly asserted: a port that is held at once, one that drains, one that is held already, and one in no state that takes
causes; the line no longer asserted; the source and the values of a budget that change. -/
theorem test_meets_CycleTaken_lines :
    let s (a : Byte) (st : PortState) (c : Int) : State :=
      { port0 fun q => { q with mask := 0x80, run := { q.run with state := st, applied := c } } with
        chain := { State.reset.chain with asserted := a } }
    (heldAtOnce 0 (s 0 .running 0) (s 0x80 .running 0) = true ∧ (s 0 .running 0).pool.queue = [] ∧
      isQueued 0 (s 0 .running 0) = false) ∧
    (newlyHeld 0 (s 0 .transfer 1) (s 0x80 .transfer 1) = true ∧ heldAtOnce 0 (s 0 .transfer 1) (s 0x80 .transfer 1) = false) ∧
    newlyHeld 0 (s 0 .held 0) (s 0x80 .held 0) = true ∧ newlyHeld 0 (s 0 .ending 0) (s 0x80 .ending 0) = false ∧
    ((s 0x80 .held 0).ports[(0 : Fin 8)].mask &&& (s 0x80 .held 0).chain.asserted ≠ 0 ∧
      (s 0x80 .held 0).ports[(0 : Fin 8)].mask &&& (s 0 .held 0).chain.asserted = 0) ∧
    (State.reset.alloc.source ≠ .hallLive ∧ State.reset.alloc.inForce ≠ ⟨1, 0⟩) := by decide +kernel

theorem test_meets_CycleTaken :
    (cycleValid (cycle 15 7 41) = true ∧ (withChain fun c => { c with number := some 15 }).chain.number = some 15 ∧
      natAt (cycle 15 7 41) 124 1 = 15 ∧
      (withChain fun c => { c with lastTag := some 6 }).chain.lastTag ≠ some ((cycle 15 7 41).getD 125 0) ∧
      (withChain fun c => { c with lastTag := some 7 }).chain.lastTag = some ((cycle 15 7 41).getD 125 0)) ∧
    natAt (cycle 0 7 41) 124 1 ≠ 15 ∧
    ((natAt (cycle 15 7 0) 126 1 = 0 ∧ 47 ≤ natAt (cycle 15 7 47) 126 1) ∧
      decodeCommand (natAt (cycle 15 7 46) 126 1) (slice (cycle 15 7 46) 128 (natAt (cycle 15 7 46) 127 1)) = .wrongLength ∧
      decodeCommand (natAt (cycle 15 7 41) 126 1) (slice (cycle 15 7 41) 128 (natAt (cycle 15 7 41) 127 1)) =
        .command .readFaultLog) ∧
    (let w (b : Bool) := withChain fun c => { c with
      number := some 15, superframe := some 0, last := b, state := .discovered, lastTag := some 7
      lastResponse := some ⟨.ok, false, []⟩, responsePending := b }
    ((w true).chain.number = some 15 ∧ (w true).chain.superframe = some 0 ∧ (w true).chain.last = true ∧
      (w true).chain.responsePending = true ∧ (w true).chain.lastTag = some 7 ∧
      (w true).chain.lastResponse = some ⟨.ok, false, []⟩) ∧
    ((w false).chain.last = false ∧ (w false).chain.responsePending = false ∧ (w false).chain.state = .discovered)) := by
  rw [test_cycleAddress, test_cycleAddress, test_cycleTag, (test_cycleCode 15 7 0).1, (test_cycleCode 15 7 47).1,
    (test_cycleCode 15 7 46).1, (test_cycleCode 15 7 46).2, (test_cycleCode 15 7 41).1, (test_cycleCode 15 7 41).2]
  exact ⟨⟨test_cycleValid 15 7 41, by decide +kernel⟩, by decide +kernel⟩

/-- The eighth error, and the hundredth millisecond of silence. -/
theorem test_meets_ChainGoesStale :
    let s := withChain fun c => { c with state := .discovered, errors := 7, silence := some 100 }
    (discoverValid [] = false ∧ cycleValid [] = false ∧ s.chain.state = .discovered ∧ 7 ≤ s.chain.errors) ∧
    State.reset.chain.state ≠ .discovered ∧ (s.chain.silence = some 100 ∧ 100 ≤ 100 ∧ s.alloc.source ≠ .fallback) ∧
    (hasStep (run0 fun r => { r with state := .running }).ports[(0 : Fin 8)].run.state = true ∧
      (port0 fun q => { q with mask := 1 }).ports[(0 : Fin 8)].mask ≠ 0 ∧ s.chain.asserted = 0) := by decide +kernel

/-- A list from below that has its 15 slots already, before its check. -/
def fullList : List Byte := u8 3 ++ flagByte false ++ u8 15 ++ (List.replicate 15 (List.replicate 30 (0 : Byte))).flatten

theorem test_fullList : upstreamValid (withCrc fullList) = true ∧ natAt (withCrc fullList) 2 1 = 15 := by
  have hl : fullList.length = 453 := by decide +kernel
  have h0 : natAt (withCrc fullList) 0 1 = 3 := natAt_withCrc (by rw [hl]; decide)
  have h2 : natAt (withCrc fullList) 2 1 = 15 := natAt_withCrc (by rw [hl]; decide)
  have hs : slotBytesOf (withCrc fullList) = fullList.drop 3 := by
    have : (withCrc fullList).length - 5 = (fullList.drop 3).length := by simp [withCrc, u16, hl]
    rw [slotBytesOf, slice, this, withCrc, List.drop_append_of_le_length (by rw [hl]; decide), List.take_left']
    rfl
  have hf : slotsFill 15 (fullList.drop 3) = true := by decide +kernel
  have hw : 5 ≤ (withCrc fullList).length := by simp [withCrc, u16, hl]
  refine ⟨?_, h2⟩
  simp [upstreamValid, hw, crcGood_withCrc (bs := fullList) (by rw [hl]; decide), h0, h2, hs, hf]

theorem test_meets_ChainAnswersAndReports :
    let slot : List Byte := List.replicate 30 0
    let f := upstreamBytes false [slot]
    let s := withChain fun c => { c with downstream := true, answerWatch := some 10, uplink := some ⟨slot, 5⟩ }
    (answerValid (numberAnswer 15) = true ∧ answerValid passAnswer = true ∧ s.chain.downstream = true ∧
      answerValid [4, 1, 2, 3, 46] = false ∧ s.chain.answerWatch = some 10 ∧ 10 ≤ 10) ∧
    (upstreamValid f = true ∧ natAt f 2 1 < 15 ∧ s.chain.uplink = some ⟨slot, 5⟩ ∧ (⟨slot, 5⟩ : Uplink).elapsed ≤ 5 ∧
      s.chain.last = false) ∧
    upstreamValid [] = false ∧ 5 ≤ (⟨slot, 5⟩ : Uplink).elapsed := by decide +kernel

end Sys2Proof.Tests
end

section
/-! PROOFS. The program store (R1, R20): the slots that its headers reserve, and DELETE_PROGRAM, told one lemma per check and
one for the command that passes them all. -/

open Sys2Proof Sys2Proof.Machine

namespace Sys2Proof.StepPrograms

/-! ### The pool of step slots -/

/-- What a list adds up to when one element of it is replaced: the old element's part against the new one's. -/
theorem sum_map_set_add {α : Type} (f : α → Nat) (l : List α) {i : Nat} (hi : i < l.length) (a : α) :
    ((l.set i a).map f).sum + f l[i] = (l.map f).sum + f a := by
  have hset := ((List.set_perm_cons_eraseIdx hi a).map f).sum_eq
  have hold := ((List.getElem_cons_eraseIdx_perm hi).map f).sum_eq
  simp only [List.map_cons, List.sum_cons] at hset hold
  omega

/-- The slots that the headers reserve (R1). -/
def reservedSlots (s : State) : Nat := (s.headers.toList.map fun h => h.steps.length).sum

theorem freeSlots_eq (s : State) : freeSlots s = 512 - reservedSlots s := rfl

/-- The pool of a store that keeps its form is not overdrawn. -/
theorem reservedSlots_le {s : State} (hs : StoreFormed s) : reservedSlots s ≤ 512 := hs.1

/-- A changed header gives back the slots that it held and takes those that it holds now. -/
theorem reservedSlots_modHeader_add (n : Fin 32) (g : Header → Header) (s : State) :
    reservedSlots (modHeader n g s) + s.headers[n].steps.length =
      reservedSlots s + (g s.headers[n]).steps.length := by
  have h := sum_map_set_add (fun h : Header => h.steps.length) s.headers.toList (i := n.val) (by simp) (g s.headers[n])
  simpa [reservedSlots, modHeader, Vector.toList_set] using h

/-- A changed header of a pool that is not overdrawn raises the free count by its old slots and lowers it by its new ones. -/
theorem freeSlots_modHeader {s : State} (hs : StoreFormed s) (n : Fin 32) (g : Header → Header) :
    freeSlots (modHeader n g s) = freeSlots s + s.headers[n].steps.length - (g s.headers[n]).steps.length := by
  have hbound := reservedSlots_le hs
  have hmove := reservedSlots_modHeader_add n g s
  simp only [freeSlots_eq]
  omega

/-- A header set EMPTY frees every slot of its step list (R20). -/
theorem freeSlots_modHeader_empty {s : State} (hs : StoreFormed s) (n : Fin 32) :
    freeSlots (modHeader n (fun _ => .empty) s) = freeSlots s + s.headers[n].steps.length :=
  freeSlots_modHeader hs n fun _ => .empty

/-! ### The checks of DELETE_PROGRAM, in their order (R20) -/

/-- The program-number check of a header there is not (R5). -/
theorem onProgram_beyond {number : Nat} {s : State} (h : 32 ≤ number) (k : Fin 32 → State × Reply) :
    onProgram number s k = refuse .badField s := dif_neg (Nat.not_lt.mpr h)

/-- The row answers its issuer with the command's reply. -/
theorem exec_deleteProgram (iss : Issuer) (number : Nat) (s : State) :
    exec (.deleteProgram iss number) s = .next (deliver iss 4 (deleteProgram iss.master number s)) := rfl

theorem deleteProgram_beyond (m : Master) {number : Nat} (s : State) (h : 32 ≤ number) :
    deleteProgram m number s = refuse .badField s := onProgram_beyond h _

section
variable {m : Master} {n : Fin 32} {s : State}

theorem deleteProgram_empty (he : s.headers[n].state = .empty) : deleteProgram m n.val s = refuse .badState s := by
  rw [deleteProgram, onProgram_fin, if_pos he]

theorem deleteProgram_station_other (he : s.headers[n].state ≠ .empty) (ha : s.headers[n].author ≠ .station) :
    deleteProgram .station n.val s = refuse .notOwner s := by
  rw [deleteProgram, onProgram_fin, if_neg he, if_pos ⟨rfl, ha⟩]

/-- HALL, and the station for a program of its own, pass the author check. -/
theorem not_barred_of_hall_or_author (hm : m = .hall ∨ s.headers[n].author = .station) :
    ¬ (m = .station ∧ s.headers[n].author ≠ .station) := by
  rintro ⟨rfl, ha⟩
  rcases hm with hm | hm
  · cases hm
  · exact ha hm

theorem deleteProgram_inUse (he : s.headers[n].state ≠ .empty) (hm : m = .hall ∨ s.headers[n].author = .station)
    (hu : 0 < s.headers[n].useCount) : deleteProgram m n.val s = refuse .inUse s := by
  rw [deleteProgram, onProgram_fin, if_neg he, if_neg (not_barred_of_hall_or_author hm), if_pos hu]

/-- Past its checks the command sets the header EMPTY and answers the free count that it leaves. -/
theorem deleteProgram_accepted (he : s.headers[n].state ≠ .empty) (hm : m = .hall ∨ s.headers[n].author = .station)
    (hu : s.headers[n].useCount = 0) :
    deleteProgram m n.val s =
      answer (u16 (freeSlots (modHeader n (fun _ => .empty) s))) (modHeader n (fun _ => .empty) s) := by
  rw [deleteProgram, onProgram_fin, if_neg he, if_neg (not_barred_of_hall_or_author hm), if_neg hu.not_gt]

end

/-- Settles O15: one case per check of R20 in its order; the freed slots by the balance of the pool, which is not overdrawn. -/
theorem deleteProgramFrees : Obligations.DeleteProgramFrees := by
  refine ⟨fun iss number s h => ?beyond, fun iss n s he => ?empty, fun n s he ha => ?notAuthor,
    fun iss n s hs he hm => ⟨fun hu => ?accepted, fun hu => ?inUse⟩⟩
  case beyond => rw [exec_deleteProgram, deleteProgram_beyond _ s h]
  case empty => rw [exec_deleteProgram, deleteProgram_empty he]
  case notAuthor => rw [exec_deleteProgram, Issuer.master, deleteProgram_station_other he ha]
  case inUse => rw [exec_deleteProgram, deleteProgram_inUse he hm hu]
  case accepted =>
    have hfree := freeSlots_modHeader_empty hs n
    refine ⟨modHeader n (fun _ => .empty) s, ?_, rfl, hfree⟩
    rw [exec_deleteProgram, deleteProgram_accepted he hm hu, hfree]

end Sys2Proof.StepPrograms
end

section
/-! PROOFS. SET_INTERLOCK_MASK (R197): what a hold adds and where it leads, what a change of the interlock condition hands to a
port, and the command as one of three such changes of a port with its new mask. -/

open Sys2Proof Sys2Proof.Machine

namespace Sys2Proof.InterlockMask

variable {p : Fin 8} {s : State}

/-! ### Holds (R43 to R45) -/

theorem enterHeld_state : (enterHeld p s).ports[p].run.state = .held := by simp [enterHeld]

theorem enterHeld_causes : (enterHeld p s).ports[p].run.causes = s.ports[p].run.causes := by simp [enterHeld]

/-- A port that takes hold causes from RUNNING or TRANSFER is HELD at 0 mA, and drains in HOLDING at another current. -/
theorem holdPort_state (c : HoldCauses) (h : s.ports[p].run.state = .running ∨ s.ports[p].run.state = .transfer) :
    (holdPort c p s).ports[p].run.state = if s.ports[p].run.applied = 0 then .held else .holding := by
  simp only [holdPort, if_pos h]
  split
  · exact enterHeld_state
  · simp

/-- A port that is held or drains to it takes the causes alone. -/
theorem holdPort_of_holding_or_held (c : HoldCauses)
    (h : s.ports[p].run.state = .holding ∨ s.ports[p].run.state = .held) : holdPort c p s = modRun p (addCauses c) s := by
  have hno : ¬ (s.ports[p].run.state = .running ∨ s.ports[p].run.state = .transfer) := by
    rcases h with h | h <;> rw [h] <;> decide
  simp only [holdPort, if_neg hno]

theorem holdPort_causes (c : HoldCauses) : (holdPort c p s).ports[p].run.causes = (addCauses c s.ports[p].run).causes := by
  unfold holdPort
  dsimp only
  split
  · split
    · rw [enterHeld_causes]; simp
    · simp
  · simp

/-- INTERLOCK and MASTER join the causes that a port has. -/
theorem addCauses_interlock (r : RunContext) :
    addCauses interlockCauses r = { r with causes := { r.causes with interlock := true, master := true } } := by
  simp [addCauses, interlockCauses]

/-! ### A change of the interlock condition (R45) -/

theorem interlocked_of_ne_zero {q : Port} {a : Byte} (h : q.mask &&& a ≠ 0) : interlocked q a = true := bne_iff_ne.mpr h

theorem interlocked_of_eq_zero {q : Port} {a : Byte} (h : q.mask &&& a = 0) : interlocked q a = false :=
  bne_eq_false_iff_eq.mpr h

theorem handInterlock_rise (h : hasStep s.ports[p].run.state = true) :
    handInterlock false true p s = holdPort interlockCauses p s := if_pos h

theorem handInterlock_rise_idle (h : hasStep s.ports[p].run.state = false) : handInterlock false true p s = s :=
  if_neg (ne_true_of_eq_false h)

theorem handInterlock_fall :
    handInterlock true false p s = modRun p (fun r => { r with causes := { r.causes with interlock := false } }) s := rfl

theorem handInterlock_same (b : Bool) : handInterlock b b p s = s := by cases b <;> rfl

/-- What a port is handed leaves the masks and owners of all ports and the asserted lines. -/
theorem handInterlock_settings (x y : Bool) (q : Fin 8) :
    settings (handInterlock x y p s).ports[q] = settings s.ports[q] := (handInterlock_portWork (b := false) x y).own q

theorem handInterlock_chain (x y : Bool) : (handInterlock x y p s).chain = s.chain :=
  (handInterlock_portWork (b := false) x y).chain

/-! ### The command (R197) -/

/-- The state with a port's mask replaced. -/
def withMask (p : Fin 8) (lines : Byte) (s : State) : State := modPort p (fun q => { q with mask := lines }) s

theorem withMask_port (lines : Byte) : (withMask p lines s).ports[p] = { s.ports[p] with mask := lines } := by
  simp [withMask]

/-- The state that an accepted SET_INTERLOCK_MASK leaves: the new mask, and the change of the condition handed to the port. -/
def maskTaken (p : Fin 8) (lines : Byte) (s : State) : State :=
  handInterlock (interlocked s.ports[p] s.chain.asserted) (interlocked { s.ports[p] with mask := lines } s.chain.asserted) p
    (withMask p lines s)

theorem setInterlockMask_owner {m : Master} (h : s.ports[p].owner = ownerOf m) (lines : Byte) :
    setInterlockMask m p.val lines s = done (maskTaken p lines s) := by
  rw [setInterlockMask, onOwnPort_owner h]
  change done (handInterlock _ (interlocked (withMask p lines s).ports[p] s.chain.asserted) p (withMask p lines s)) = _
  rw [withMask_port, maskTaken]

theorem exec_setInterlockMask (iss : Issuer) (port : Nat) (lines : Byte) (s : State) :
    exec (.setInterlockMask iss port lines) s = .next (deliver iss 17 (setInterlockMask iss.master port lines s)) := rfl

theorem maskTaken_settings (lines : Byte) :
    settings (maskTaken p lines s).ports[p] = settings { s.ports[p] with mask := lines } := by
  rw [maskTaken, handInterlock_settings, withMask_port]

theorem maskTaken_mask (lines : Byte) : (maskTaken p lines s).ports[p].mask = lines :=
  congrArg (fun x => x.2.2.2.1) (maskTaken_settings lines)

theorem maskTaken_owner (lines : Byte) : (maskTaken p lines s).ports[p].owner = s.ports[p].owner :=
  congrArg Prod.fst (maskTaken_settings lines)

/-- The port's condition afterwards is that of its new mask. -/
theorem maskTaken_interlocked {lines : Byte} (hnew : lines &&& s.chain.asserted ≠ 0) :
    interlocked (maskTaken p lines s).ports[p] (maskTaken p lines s).chain.asserted = true := by
  have hchain : (maskTaken p lines s).chain = s.chain := handInterlock_chain _ _
  exact interlocked_of_ne_zero (by rwa [maskTaken_mask, hchain])

section
variable {lines : Byte}

/-- A condition that becomes true holds a port with a current step. -/
theorem maskTaken_rise (hnew : lines &&& s.chain.asserted ≠ 0) (hold : s.ports[p].mask &&& s.chain.asserted = 0)
    (hstep : hasStep s.ports[p].run.state = true) :
    maskTaken p lines s = holdPort interlockCauses p (withMask p lines s) := by
  rw [maskTaken, interlocked_of_eq_zero hold, interlocked_of_ne_zero hnew, handInterlock_rise (by rwa [withMask_port])]

/-- A condition that becomes false takes INTERLOCK from the causes. -/
theorem maskTaken_fall (hnew : lines &&& s.chain.asserted = 0) (hold : s.ports[p].mask &&& s.chain.asserted ≠ 0) :
    maskTaken p lines s =
      modRun p (fun r => { r with causes := { r.causes with interlock := false } }) (withMask p lines s) := by
  rw [maskTaken, interlocked_of_ne_zero hold, interlocked_of_eq_zero hnew, handInterlock_fall]

/-- A condition that stays as it was changes the mask alone. -/
theorem maskTaken_same (h : lines &&& s.chain.asserted = 0 ↔ s.ports[p].mask &&& s.chain.asserted = 0) :
    maskTaken p lines s = withMask p lines s := by
  by_cases hnew : lines &&& s.chain.asserted = 0
  · rw [maskTaken, interlocked_of_eq_zero (h.mp hnew), interlocked_of_eq_zero hnew, handInterlock_same]
  · rw [maskTaken, interlocked_of_ne_zero (mt h.mpr hnew), interlocked_of_ne_zero hnew, handInterlock_same]

/-- A true condition changes the mask alone on a port that takes no causes. -/
theorem maskTaken_idle (hnew : lines &&& s.chain.asserted ≠ 0) (hidle : hasStep s.ports[p].run.state = false) :
    maskTaken p lines s = withMask p lines s := by
  by_cases hold : s.ports[p].mask &&& s.chain.asserted = 0
  · rw [maskTaken, interlocked_of_eq_zero hold, interlocked_of_ne_zero hnew,
      handInterlock_rise_idle (by rwa [withMask_port])]
  · exact maskTaken_same (iff_of_false hnew hold)

end

/-! ### START_RUN under an interlock (R29) -/

theorem exec_startRun (iss : Issuer) (port n i : Nat) (s : State) :
    exec (.startRun iss port n i) s =
      .next (deliver iss 9 (onOwnPort iss.master port s fun p => startRun p n i s)) := rfl

/-- The checks before that of the interlock refuse with the same code. -/
theorem startRun_interlocked (h : interlocked s.ports[p] s.chain.asserted = true) (n : Fin 32) (i : Nat) :
    startRun p n.val i s = refuse .badState s := by
  simp only [startRun, onProgram_fin, h, if_true, ite_self]

/-- Settles O26: the checks of R28 refuse, and past them each change of the condition is one equation for the state left. -/
theorem interlockMaskSet : Obligations.InterlockMaskSet := by
  refine ⟨fun iss port lines s h => ?beyond, fun iss p lines s h => ?notOwner, fun iss p lines s h =>
    ⟨maskTaken p lines s, ?accepted, maskTaken_mask lines, fun hnew hold hstep => ?rise, fun hnew hold => ?fall,
      fun hsame => ?same, fun hnew n i => ?barred⟩⟩
  case beyond => rw [exec_setInterlockMask, setInterlockMask, onOwnPort, onPort_beyond h]
  case notOwner => rw [exec_setInterlockMask, setInterlockMask, onOwnPort_other h]
  case accepted => rw [exec_setInterlockMask, setInterlockMask_owner h]
  case rise =>
    have hcauses : (maskTaken p lines s).ports[p].run.causes =
        { s.ports[p].run.causes with interlock := true, master := true } := by
      rw [maskTaken_rise hnew hold hstep, holdPort_causes, addCauses_interlock, withMask_port]
    refine ⟨by rw [hcauses], by rw [hcauses], fun hst => ?_, fun hst => ?_⟩ <;> rw [maskTaken_rise hnew hold hstep]
    · rw [holdPort_of_holding_or_held _ (by rwa [withMask_port]), modRun, withMask, modPort_modPort]
      simp only [addCauses_interlock]
    · rw [holdPort_state _ (by rwa [withMask_port]), withMask_port]
  case fall => rw [maskTaken_fall hnew hold, modRun, withMask, modPort_modPort]
  case same =>
    rcases hsame with hsame | ⟨hnew, hidle⟩
    · exact maskTaken_same hsame
    · exact maskTaken_idle hnew hidle
  case barred =>
    rw [exec_startRun, onOwnPort_owner ((maskTaken_owner lines).trans h), startRun_interlocked (maskTaken_interlocked hnew)]

end Sys2Proof.InterlockMask
end

section
/-! PROOFS. Rounds (R127 to R131): how the headroom of one side is shared out, what a round grants, and the allocation tick. -/

open Sys2Proof Sys2Proof.Machine

namespace Sys2Proof.Rounds

/-! ### Sums by level -/

/-- The magnitudes of some lines with a property of their level. -/
def sumWhere (c : Nat → Bool) (mags : List (Nat × Nat)) : Nat := ((mags.filter fun x => c x.2).map Prod.fst).sum

@[simp] theorem sumWhere_nil (c : Nat → Bool) : sumWhere c [] = 0 := rfl

@[simp] theorem sumWhere_cons (c : Nat → Bool) (x : Nat × Nat) (xs : List (Nat × Nat)) :
    sumWhere c (x :: xs) = (if c x.2 then x.1 else 0) + sumWhere c xs := by
  by_cases h : c x.2 <;> simp [sumWhere, h]

theorem levelSum_eq (mags : List (Nat × Nat)) (l : Nat) : levelSum mags l = sumWhere (fun v => decide (v = l)) mags := rfl

/-- The magnitudes above a level are those above the next one and those of the next one. -/
theorem sumWhere_above (mags : List (Nat × Nat)) (l : Nat) :
    sumWhere (fun v => decide (l < v)) mags = sumWhere (fun v => decide (l + 1 < v)) mags + levelSum mags (l + 1) := by
  rw [levelSum_eq]
  induction mags with
  | nil => rfl
  | cons x xs ih =>
    simp only [sumWhere_cons, ih, decide_eq_true_eq]
    split_ifs <;> omega

theorem sumWhere_above_three {mags : List (Nat × Nat)} (h : ∀ x ∈ mags, x.2 ≤ 3) :
    sumWhere (fun v => decide (3 < v)) mags = 0 := by
  have : (mags.filter fun x => decide (3 < x.2)) = [] := by simpa using fun a b hab => h _ hab
  simp [sumWhere, this]

/-- The whole of one side is what lies above level 0 and what lies at it. -/
theorem sideTotal_eq (mags : List (Nat × Nat)) :
    sideTotal mags = sumWhere (fun v => decide (0 < v)) mags + levelSum mags 0 := by
  rw [levelSum_eq, sideTotal]
  induction mags with
  | nil => rfl
  | cons x xs ih =>
    simp only [List.map_cons, List.sum_cons, sumWhere_cons, ih, decide_eq_true_eq]
    split_ifs <;> omega

/-- The visit of the levels from 3 down stops at the first that does not fit, with what the levels above it left (R129). -/
theorem sharing_some {mags : List (Nat × Nat)} {a : Nat} (hlv : ∀ x ∈ mags, x.2 ≤ 3) (ha : a < sideTotal mags) :
    ∃ l rem, sharing mags [3, 2, 1, 0] a = some (l, rem) ∧ l ≤ 3 ∧ sumWhere (fun v => decide (l < v)) mags + rem = a ∧
      rem < levelSum mags l := by
  have h3 := sumWhere_above_three hlv
  have h2 : _ = _ + levelSum mags 3 := sumWhere_above mags 2
  have h1 : _ = _ + levelSum mags 2 := sumWhere_above mags 1
  have h0 : _ = _ + levelSum mags 1 := sumWhere_above mags 0
  have ht := sideTotal_eq mags
  simp only [sharing, Nat.reduceAdd] at h2 h1 h0 ⊢
  by_cases f3 : levelSum mags 3 ≤ a
  · by_cases f2 : levelSum mags 2 ≤ a - levelSum mags 3
    · by_cases f1 : levelSum mags 1 ≤ a - levelSum mags 3 - levelSum mags 2
      · have f0 : ¬ levelSum mags 0 ≤ a - levelSum mags 3 - levelSum mags 2 - levelSum mags 1 := by omega
        exact ⟨0, _, by rw [if_pos f3, if_pos f2, if_pos f1, if_neg f0], by omega, by omega, by omega⟩
      · exact ⟨1, _, by rw [if_pos f3, if_pos f2, if_neg f1], by omega, by omega, by omega⟩
    · exact ⟨2, _, by rw [if_pos f3, if_neg f2], by omega, by omega, by omega⟩
  · exact ⟨3, _, by rw [if_neg f3], by omega, by omega, by omega⟩

/-! ### Giving out a level -/

/-- The ports that ask at a level. -/
def askers (l : Nat) (mags : List (Nat × Nat)) : Nat := (mags.filter fun x => decide (x.2 = l ∧ x.1 ≠ 0)).length

theorem askers_cons (l : Nat) (x : Nat × Nat) (xs : List (Nat × Nat)) :
    askers l (x :: xs) = (if x.2 = l ∧ x.1 ≠ 0 then 1 else 0) + askers l xs := by
  by_cases h : x.2 = l ∧ x.1 ≠ 0
  · simp [askers, h, Nat.add_comm]
  · simp only [askers, List.filter_cons, h, decide_false, Bool.false_eq_true, if_false]; omega

section
variable (mags : List (Nat × Nat)) (l rem : Nat)

@[simp] theorem length_giveOut : ∀ (xs : List (Nat × Nat)) (left : Nat), (giveOut mags l rem xs left).length = xs.length
  | [], _ => rfl
  | (m, lv) :: xs, left => by
    unfold giveOut
    split_ifs <;> simp [length_giveOut xs]

/-- What each line is given: in full above the level, nothing below it, and at it the floor with one watt more while the
leftover lasts (R129). -/
theorem getElem?_giveOut : ∀ (xs : List (Nat × Nat)) (left k m lv : Nat), xs[k]? = some (m, lv) →
    (giveOut mags l rem xs left)[k]? = some
      (if l < lv then m else if lv < l ∨ m = 0 then 0
       else sharedFloor mags l rem m + if askers l (xs.take k) < left then 1 else 0)
  | [], _, _, _, _, h => by simp at h
  | (m', lv') :: xs, left, 0, m, lv, h => by
    obtain ⟨rfl, rfl⟩ : m' = m ∧ lv' = lv := by simpa using h
    unfold giveOut
    split_ifs <;> simp_all [askers]
  | (m', lv') :: xs, left, k + 1, m, lv, h => by
    have ih := fun left => getElem?_giveOut xs left k m lv (by simpa using h)
    unfold giveOut
    by_cases habove : l < lv'
    · simp only [if_pos habove, List.getElem?_cons_succ, ih, List.take_succ_cons, askers_cons]
      simp [habove.ne']
    · by_cases hnone : lv' < l ∨ m' = 0
      · have hno : ¬ (lv' = l ∧ m' ≠ 0) := by omega
        simp only [if_neg habove, if_pos hnone, List.getElem?_cons_succ, ih, List.take_succ_cons, askers_cons, if_neg hno,
          Nat.zero_add]
      · have hask : lv' = l ∧ m' ≠ 0 := by omega
        have hleft : askers l (xs.take k) < left - 1 ↔ 1 + askers l (xs.take k) < left := by omega
        simp only [if_neg habove, if_neg hnone, List.getElem?_cons_succ, ih, List.take_succ_cons, askers_cons, if_pos hask,
          hleft]

/-- The floors of the lines at the level. -/
def floors (xs : List (Nat × Nat)) : Nat := ((xs.filter fun x => decide (x.2 = l)).map fun x => sharedFloor mags l rem x.1).sum

theorem floors_cons (x : Nat × Nat) (xs : List (Nat × Nat)) :
    floors mags l rem (x :: xs) = (if x.2 = l then sharedFloor mags l rem x.1 else 0) + floors mags l rem xs := by
  by_cases h : x.2 = l <;> simp [floors, h]

/-- What is given out in all: the levels above, the floors, and the leftover as far as there are ports that ask. -/
theorem sum_giveOut : ∀ (xs : List (Nat × Nat)) (left : Nat), (giveOut mags l rem xs left).sum =
    sumWhere (fun v => decide (l < v)) xs + floors mags l rem xs + min left (askers l xs)
  | [], left => by simp [giveOut, floors, askers]
  | (m, lv) :: xs, left => by
    have ih := sum_giveOut xs
    have hzero : sharedFloor mags l rem 0 = 0 := by simp [sharedFloor]
    unfold giveOut
    simp only [sumWhere_cons, floors_cons, askers_cons, decide_eq_true_eq]
    by_cases habove : l < lv
    · have : lv ≠ l := by omega
      simp only [if_pos habove, List.sum_cons, ih, this, false_and, if_false]
      omega
    · by_cases hnone : lv < l ∨ m = 0
      · have hno : ¬ (lv = l ∧ m ≠ 0) := by omega
        have hfl : (if lv = l then sharedFloor mags l rem m else 0) = 0 := by
          split_ifs with e
          · obtain rfl : m = 0 := by omega
            exact hzero
          · rfl
        simp only [if_neg habove, if_pos hnone, List.sum_cons, ih, if_neg hno, hfl]
        omega
      · have hask : lv = l ∧ m ≠ 0 := by omega
        simp only [if_neg habove, if_neg hnone, List.sum_cons, ih, if_pos hask, if_pos hask.1]
        split_ifs <;> omega

/-- The remainder exceeds the floors by no more than one watt for each port that asks. -/
theorem mul_levelSum_le (S : Nat) (hS : 0 < S) : ∀ xs : List (Nat × Nat),
    sumWhere (fun v => decide (v = l)) xs * rem ≤
      S * ((xs.filter fun x => decide (x.2 = l)).map fun x => x.1 * rem / S).sum + S * askers l xs
  | [] => by simp
  | (m, lv) :: xs => by
    have ih := mul_levelSum_le S hS xs
    rw [sumWhere_cons, askers_cons, Nat.add_mul]
    by_cases hl : lv = l
    · have hdiv := Nat.div_add_mod (m * rem) S
      have hmod := Nat.mod_lt (m * rem) hS
      by_cases hm : m = 0
      · simpa [hl, hm] using ih
      · simp [hl, hm, Nat.mul_add] at ih ⊢
        omega
    · simpa [hl] using ih

end

/-- The leftover goes out: there are as many ports that ask as it has watts. -/
theorem leftover_le_askers {mags : List (Nat × Nat)} {l rem : Nat} (h : rem < levelSum mags l) :
    leftover mags l rem ≤ askers l mags := by
  have hS : 0 < levelSum mags l := by omega
  have hle := mul_levelSum_le l rem (levelSum mags l) hS mags
  rw [← levelSum_eq, ← Nat.mul_add] at hle
  have := Nat.le_of_mul_le_mul_left hle hS
  simp only [leftover, sharedFloor]
  omega

/-- The floors do not exceed the remainder. -/
theorem floors_le {mags : List (Nat × Nat)} {l rem : Nat} (h : rem < levelSum mags l) : floors mags l rem mags ≤ rem := by
  have hS : 0 < levelSum mags l := by omega
  have hle : ∀ xs : List (Nat × Nat), levelSum mags l * floors mags l rem xs ≤ levelSum xs l * rem := by
    intro xs
    induction xs with
    | nil => simp [floors, levelSum]
    | cons x xs ih =>
      rw [floors_cons, levelSum_eq (x :: xs), sumWhere_cons, ← levelSum_eq xs, Nat.mul_add, Nat.add_mul]
      by_cases hl : x.2 = l
      · have := Nat.mul_div_le (x.1 * rem) (levelSum mags l)
        simp only [hl, if_true, decide_true, sharedFloor]
        omega
      · simpa [hl] using ih
  exact Nat.le_of_mul_le_mul_left (hle mags) hS

/-- One side's headroom shared out, where it does not do for the whole side (R129). -/
theorem shareOut_sharedOut {mags : List (Nat × Nat)} {a : Nat} (hlv : ∀ x ∈ mags, x.2 ≤ 3) (ha : a < sideTotal mags) :
    ∃ l, (shareOut mags a).2 = some l ∧ sharedOut mags a l (shareOut mags a).1 := by
  obtain ⟨l, rem, hsome, hl, hsum, hrem⟩ := sharing_some hlv ha
  have hout : shareOut mags a = (giveOut mags l rem mags (leftover mags l rem), some l) := by simp [shareOut, hsome]
  have habove : ((mags.filter fun x => l < x.2).map Prod.fst).sum = sumWhere (fun v => decide (l < v)) mags := rfl
  have hr : a - sumWhere (fun v => decide (l < v)) mags = rem := by omega
  refine ⟨l, by rw [hout], ?_⟩
  rw [hout]
  refine ⟨hl, by omega, by rw [habove, hr]; exact hrem, length_giveOut .., ?_, fun k m lv hk => ?_⟩
  · have h1 := leftover_le_askers hrem
    have h2 := floors_le hrem
    have h3 : leftover mags l rem = rem - floors mags l rem mags := rfl
    rw [sum_giveOut]
    omega
  · rw [getElem?_giveOut mags l rem _ _ _ _ _ hk]
    simp only [habove, hr]
    rfl

/-- No line is given more than it asks. -/
theorem sharedOut_le {mags : List (Nat × Nat)} {a l : Nat} {g : List Nat} (h : sharedOut mags a l g) {k m lv : Nat}
    (hk : mags[k]? = some (m, lv)) : g.getD k 0 ≤ m := by
  obtain ⟨-, -, hrem, -, -, hget⟩ := h
  simp only [List.getD, hget k m lv hk, Option.getD_some]
  split_ifs with habove hnone
  · exact le_rfl
  · exact Nat.zero_le _
  all_goals
    have hm : 0 < m := by omega
    have := Nat.div_lt_of_lt_mul (show m * _ < _ * m from Nat.mul_comm m _ ▸ Nat.mul_lt_mul_of_pos_right hrem hm)
    omega

/-! ### What a round grants -/

/-- The grants of a throttled side against the other side, which is granted in full. -/
theorem sum_zip_sub : ∀ (g : List Nat) (xs : List (Nat × Nat)), g.length = xs.length →
    ((g.zip xs).map fun x => (x.1 : Int) - x.2.1).sum = (g.sum : Int) - sideTotal xs
  | [], [], _ => by simp [sideTotal]
  | a :: g, x :: xs, h => by
    have ih := sum_zip_sub g xs (by simpa using h)
    simp only [sideTotal, List.zip_cons_cons, List.map_cons, List.sum_cons, Nat.cast_add] at ih ⊢
    omega

/-- The mirror image: the other side in full, less the grants of the throttled one. -/
theorem sum_zip_rsub : ∀ (g : List Nat) (xs : List (Nat × Nat)), g.length = xs.length →
    ((g.zip xs).map fun x => (x.2.1 : Int) - x.1).sum = (sideTotal xs : Int) - g.sum
  | [], [], _ => by simp [sideTotal]
  | a :: g, x :: xs, h => by
    have ih := sum_zip_rsub g xs (by simpa using h)
    simp only [sideTotal, List.zip_cons_cons, List.map_cons, List.sum_cons, Nat.cast_add] at ih ⊢
    omega

theorem sum_map_fst (rs : List (Int × Nat)) :
    (rs.map Prod.fst).sum = (sideTotal (imports rs) : Int) - sideTotal (exports rs) := by
  induction rs with
  | nil => rfl
  | cons r rs ih =>
    simp only [sideTotal, imports, exports, List.map_cons, List.sum_cons, Nat.cast_add] at ih ⊢
    omega

section
variable {b : Budget} {rs : List (Int × Nat)}

theorem imports_level (h : ∀ x ∈ rs, x.2 ≤ 3) : ∀ x ∈ imports rs, x.2 ≤ 3 := by
  intro x hx
  obtain ⟨r, hr, rfl⟩ := List.mem_map.mp hx
  exact h r hr

theorem exports_level (h : ∀ x ∈ rs, x.2 ≤ 3) : ∀ x ∈ exports rs, x.2 ≤ 3 := by
  intro x hx
  obtain ⟨r, hr, rfl⟩ := List.mem_map.mp hx
  exact h r hr

@[simp] theorem length_imports : (imports rs).length = rs.length := by simp [imports]
@[simp] theorem length_exports : (exports rs).length = rs.length := by simp [exports]

/-- Where the net lies within the budget every request is granted (R128). -/
theorem allocate_unthrottled (hi : sideTotal (imports rs) ≤ b.imp + sideTotal (exports rs))
    (he : sideTotal (exports rs) ≤ b.exp + sideTotal (imports rs)) : allocate b rs = (rs.map Prod.fst, .unthrottled) := by
  simp only [allocate, if_neg (Nat.not_lt.mpr hi), if_neg (Nat.not_lt.mpr he)]

/-- Where the imports exceed their limit, exports are granted in full and the imports share the headroom (R129). -/
theorem allocate_import (hlv : ∀ x ∈ rs, x.2 ≤ 3) (h : b.imp + sideTotal (exports rs) < sideTotal (imports rs)) :
    ∃ l g, sharedOut (imports rs) (b.imp + sideTotal (exports rs)) l g ∧ (allocate b rs).2 = .importThrottled l ∧
      (allocate b rs).1.sum = b.imp ∧ (allocate b rs).1.length = rs.length ∧
      ∀ (k : Nat) (r : Int) (lv : Nat), rs[k]? = some (r, lv) →
        (allocate b rs).1[k]? = some (if 0 < r then (g.getD k 0 : Int) else r) := by
  obtain ⟨l, hsnd, hout⟩ := shareOut_sharedOut (imports_level hlv) h
  have hall : allocate b rs = (((shareOut (imports rs) (b.imp + sideTotal (exports rs))).1.zip (exports rs)).map
      fun x => (x.1 : Int) - x.2.1, .importThrottled l) := by simp only [allocate, if_pos h, hsnd, Option.getD_some]
  obtain ⟨g, hg⟩ : ∃ g, g = (shareOut (imports rs) (b.imp + sideTotal (exports rs))).1 := ⟨_, rfl⟩
  rw [← hg] at hout hall
  have hlen : g.length = (exports rs).length := by have := hout.2.2.2.1; simpa using this
  have hsum : g.sum = b.imp + sideTotal (exports rs) := hout.2.2.2.2.1
  refine ⟨l, g, hout, by rw [hall], ?_, by rw [hall]; simp [hlen], fun k r lv hk => ?_⟩
  · rw [hall]
    have := sum_zip_sub g (exports rs) hlen
    dsimp only at this ⊢
    omega
  · have hi : (imports rs)[k]? = some (r.toNat, lv) := by simp [imports, hk]
    have he : (exports rs)[k]? = some ((-r).toNat, lv) := by simp [exports, hk]
    have hle := sharedOut_le hout hi
    have hgk : g[k]? = some (g.getD k 0) := by
      have : k < g.length := by rw [hlen]; exact (List.getElem?_eq_some_iff.mp he).1
      simp [List.getD, this]
    have hz : (g.zip (exports rs))[k]? = some (g.getD k 0, (-r).toNat, lv) := by
      rw [List.getElem?_zip_eq_some]; exact ⟨hgk, he⟩
    rw [hall, List.getElem?_map, hz]
    simp only [Option.map_some, Option.some.injEq]
    split_ifs <;> omega

/-- The mirror image: where the exports exceed their limit, they share the headroom (R130). -/
theorem allocate_export (hlv : ∀ x ∈ rs, x.2 ≤ 3) (h : b.exp + sideTotal (imports rs) < sideTotal (exports rs)) :
    ∃ l g, sharedOut (exports rs) (b.exp + sideTotal (imports rs)) l g ∧ (allocate b rs).2 = .exportThrottled l ∧
      (allocate b rs).1.sum = -(b.exp : Int) ∧ (allocate b rs).1.length = rs.length ∧
      ∀ (k : Nat) (r : Int) (lv : Nat), rs[k]? = some (r, lv) →
        (allocate b rs).1[k]? = some (if r < 0 then -(g.getD k 0 : Int) else r) := by
  have hi : ¬ b.imp + sideTotal (exports rs) < sideTotal (imports rs) := by omega
  obtain ⟨l, hsnd, hout⟩ := shareOut_sharedOut (exports_level hlv) h
  have hall : allocate b rs = (((shareOut (exports rs) (b.exp + sideTotal (imports rs))).1.zip (imports rs)).map
      fun x => (x.2.1 : Int) - x.1, .exportThrottled l) := by
    simp only [allocate, if_neg hi, if_pos h, hsnd, Option.getD_some]
  obtain ⟨g, hg⟩ : ∃ g, g = (shareOut (exports rs) (b.exp + sideTotal (imports rs))).1 := ⟨_, rfl⟩
  rw [← hg] at hout hall
  have hlen : g.length = (imports rs).length := by have := hout.2.2.2.1; simpa using this
  have hsum : g.sum = b.exp + sideTotal (imports rs) := hout.2.2.2.2.1
  refine ⟨l, g, hout, by rw [hall], ?_, by rw [hall]; simp [hlen], fun k r lv hk => ?_⟩
  · rw [hall]
    have := sum_zip_rsub g (imports rs) hlen
    dsimp only at this ⊢
    omega
  · have hi : (imports rs)[k]? = some (r.toNat, lv) := by simp [imports, hk]
    have he : (exports rs)[k]? = some ((-r).toNat, lv) := by simp [exports, hk]
    have hle := sharedOut_le hout he
    have hgk : g[k]? = some (g.getD k 0) := by
      have : k < g.length := by rw [hlen]; exact (List.getElem?_eq_some_iff.mp hi).1
      simp [List.getD, this]
    have hz : (g.zip (imports rs))[k]? = some (g.getD k 0, r.toNat, lv) := by
      rw [List.getElem?_zip_eq_some]; exact ⟨hgk, hi⟩
    rw [hall, List.getElem?_map, hz]
    simp only [Option.map_some, Option.some.injEq]
    split_ifs <;> omega

/-- The net grant lies within the budget, and every grant has its request's sign and no more than its magnitude (R131). -/
theorem allocate_within (hlv : ∀ x ∈ rs, x.2 ≤ 3) : (allocate b rs).1.length = rs.length ∧
    -(b.exp : Int) ≤ (allocate b rs).1.sum ∧ (allocate b rs).1.sum ≤ b.imp ∧
    ∀ (k : Nat) (r : Int) (lv : Nat), rs[k]? = some (r, lv) → ∃ x, (allocate b rs).1[k]? = some x ∧
      ((0 ≤ x ∧ x ≤ r) ∨ (r ≤ x ∧ x ≤ 0)) := by
  have hnet := sum_map_fst rs
  by_cases h : b.imp + sideTotal (exports rs) < sideTotal (imports rs)
  · obtain ⟨l, g, hout, -, hsum, hlen, hget⟩ := allocate_import hlv h
    refine ⟨hlen, by omega, by omega, fun k r lv hk => ⟨_, hget k r lv hk, ?_⟩⟩
    have := sharedOut_le hout (k := k) (m := r.toNat) (lv := lv) (by simp [imports, hk])
    split_ifs <;> omega
  · by_cases h' : b.exp + sideTotal (imports rs) < sideTotal (exports rs)
    · obtain ⟨l, g, hout, -, hsum, hlen, hget⟩ := allocate_export hlv h'
      refine ⟨hlen, by omega, by omega, fun k r lv hk => ⟨_, hget k r lv hk, ?_⟩⟩
      have := sharedOut_le hout (k := k) (m := (-r).toNat) (lv := lv) (by simp [exports, hk])
      split_ifs <;> omega
    · rw [allocate_unthrottled (by omega) (by omega)]
      refine ⟨by simp, by simp only; omega, by simp only; omega, fun k r lv hk => ⟨r, by simp [hk], by omega⟩⟩

end

/-! ### The allocation tick -/

theorem requests_eq (s : State) :
    requests s = (List.finRange 8).map fun p : Fin 8 => (s.ports[p].alloc.request, s.ports[p].alloc.level) := by
  simp only [requests, ← Vector.toList_map]
  apply List.ext_getElem <;> simp

/-- A round keeps what it reads: the requests and levels. -/
@[simp] theorem requests_round (s : State) : requests (round s) = requests s := by
  simp [requests_eq]

theorem exec_allocationTick (s : State) : exec .allocationTick s = .next (tickRequests s) := rfl

/-- Settles O42: the tick forms each line and runs one round, and a round grants by the three cases of the net. -/
theorem tickRunsRound : Obligations.TickRunsRound := by
  refine ⟨fun s => ⟨tickRequests s, exec_allocationTick s, rfl, rfl, fun p => ?_, ?_, rfl, rfl, rfl, rfl, rfl, rfl⟩,
    requests_eq, fun b rs hlv => ⟨allocate_unthrottled, allocate_import hlv, allocate_export hlv⟩⟩
  · refine ⟨by simp [tickRequests, formRequest], by simp [tickRequests, formRequest], fun b hb hl => ?_, fun hb => ?_,
      by simp [tickRequests, formRequest], by simp [tickRequests, formRequest], ?_⟩
    · simp only [tickRequests, formRequest, Fin.getElem_fin, round_getElem, Vector.getElem_map] at hb ⊢
      simp [hb, hl]
    · simp only [tickRequests, formRequest, Fin.getElem_fin, round_getElem, Vector.getElem_map] at hb ⊢
      simp [hb]
    · rw [tickRequests, requests_round]; simp
  · rw [tickRequests, requests_round]; rfl

end Sys2Proof.Rounds
end

section
/-! PROOFS. What every row keeps of the bounded registers: result queues, eviction queue and fault log within their lengths,
envelopes as formed, and grants within budget and request. One relation between two states, one lemma per operation. -/

open Sys2Proof Sys2Proof.Machine Sys2Proof.Rounds

namespace Sys2Proof.Bounded

/-! ### Grants within budget and request -/

/-- The invariant of the grants reads the budget in force and the lines of the grant table. -/
theorem grantsWithin_congr {s t : State} (ha : ∀ q : Fin 8, t.ports[q].alloc = s.ports[q].alloc)
    (hb : t.alloc.inForce = s.alloc.inForce) (h : GrantsWithin s) : GrantsWithin t := by
  have hnet : netGrant t = netGrant s := by
    simp only [netGrant, ← Vector.toList_map]
    congr 2
    ext k hk
    simpa using congrArg GrantEntry.grant (ha ⟨k, hk⟩)
  obtain ⟨hlv, hlo, hhi, hsign⟩ := h
  exact ⟨fun p => by rw [ha]; exact hlv p, by rw [hnet, hb]; exact hlo, by rw [hnet, hb]; exact hhi,
    fun p => by rw [ha]; exact hsign p⟩

/-- The net grant of a round is the sum of what it allocates. -/
theorem netGrant_round {s : State} (h : (allocate s.alloc.inForce (requests s)).1.length = 8) :
    netGrant (round s) = (allocate s.alloc.inForce (requests s)).1.sum := by
  rw [netGrant]
  congr 1
  apply List.ext_getElem
  · simp [h]
  · intro k hk hk'
    have hk8 : k < 8 := by simpa using hk
    simp [List.getElem?_eq_getElem hk']

/-- A round over levels of 0 to 3 establishes the invariant (R131). -/
theorem grantsWithin_round {s : State} (hlv : ∀ q : Fin 8, s.ports[q].alloc.level ≤ 3) : GrantsWithin (round s) := by
  have hreq : ∀ x ∈ requests s, x.2 ≤ 3 := by
    intro x hx
    rw [requests_eq] at hx
    obtain ⟨q, -, rfl⟩ := List.mem_map.mp hx
    exact hlv q
  obtain ⟨hlen, hlo, hhi, hget⟩ := allocate_within (b := s.alloc.inForce) hreq
  have hnet := netGrant_round (s := s) (by rw [hlen, requests_eq]; simp)
  refine ⟨fun p => by simpa using hlv p, by rw [hnet]; exact hlo, by rw [hnet]; exact hhi, fun p => ?_⟩
  obtain ⟨x, hx, hsign⟩ := hget p.val s.ports[p].alloc.request s.ports[p].alloc.level (by rw [requests_eq]; simp)
  simpa [List.getD, hx] using hsign

/-- A line's level is 0 to 3 once it is formed (R117). -/
theorem level_formRequest (limit : Nat) (q : Port) : (formRequest limit q).alloc.level ≤ 3 := Nat.min_le_left _ _

/-! ### The relation -/

/-- A port's envelopes with their mark. -/
def envelopes (q : Port) : Envelope × Envelope × Bool := (q.prot.requested, q.prot.effective, q.prot.clamped)

/-- What an operation keeps of the bounded registers. -/
structure Keeps (s t : State) : Prop where
  results : ∀ q : Fin 8, s.ports[q].results.length ≤ 32 → t.ports[q].results.length ≤ 32
  evictions : s.history.evictions.length ≤ 16 → t.history.evictions.length ≤ 16
  log : s.prot.log.length ≤ 8 → t.prot.log.length ≤ 8
  envelopes : ∀ q : Fin 8, envelopes t.ports[q] = envelopes s.ports[q]
  limits : t.prot.limits = s.prot.limits
  locked : t.prot.locked = s.prot.locked
  grants : GrantsWithin s → GrantsWithin t

theorem Keeps.refl (s : State) : Keeps s s := ⟨fun _ h => h, fun h => h, fun h => h, fun _ => rfl, rfl, rfl, fun h => h⟩

theorem Keeps.trans {s t u : State} (x : Keeps s t) (y : Keeps t u) : Keeps s u :=
  ⟨fun q h => y.results q (x.results q h), fun h => y.evictions (x.evictions h), fun h => y.log (x.log h),
    fun q => (y.envelopes q).trans (x.envelopes q), y.limits.trans x.limits, y.locked.trans x.locked,
    fun h => y.grants (x.grants h)⟩

theorem Keeps.queuesBounded {s t : State} (x : Keeps s t) (h : QueuesBounded s) : QueuesBounded t :=
  ⟨fun p => x.results p (h.1 p), x.evictions h.2.1, x.log h.2.2⟩

theorem Keeps.envelopesFormed {s t : State} (x : Keeps s t) (h : EnvelopesFormed s) : EnvelopesFormed t := by
  intro p
  have he := x.envelopes p
  simp only [Bounded.envelopes, Prod.mk.injEq] at he
  obtain ⟨hr, he, hc⟩ := he
  rw [hr, he, hc, x.limits]
  exact h p

/-- Work over a list keeps what each part keeps. -/
theorem Keeps.foldl {α : Type} (f : State → α → State) (hf : ∀ s x, Keeps s (f s x)) :
    ∀ (l : List α) (s : State), Keeps s (l.foldl f s)
  | [], s => .refl s
  | x :: l, s => (hf s x).trans (Keeps.foldl f hf l (f s x))

theorem forPorts_keeps (g : Fin 8 → State → State) (hg : ∀ p s, Keeps s (g p s)) (s : State) : Keeps s (forPorts g s) :=
  .foldl _ (fun s p => hg p s) _ s

/-! ### The updates of the state -/

section
variable {s : State}

/-- A change that leaves the four registers as they are. -/
theorem keeps_of_eq {t : State} (hp : ∀ q : Fin 8, t.ports[q].results = s.ports[q].results ∧
      envelopes t.ports[q] = envelopes s.ports[q] ∧ t.ports[q].alloc = s.ports[q].alloc)
    (hh : t.history.evictions = s.history.evictions) (hl : t.prot.log = s.prot.log) (hm : t.prot.limits = s.prot.limits)
    (hk : t.prot.locked = s.prot.locked) (ha : t.alloc.inForce = s.alloc.inForce) : Keeps s t :=
  ⟨fun q h => by rw [(hp q).1]; exact h, fun h => by rw [hh]; exact h, fun h => by rw [hl]; exact h, fun q => (hp q).2.1, hm, hk,
    grantsWithin_congr (fun q => (hp q).2.2) ha⟩

/-- What `keeps_of_eq` asks of a port. -/
def keptItems (q : Port) : List ResultRecord × (Envelope × Envelope × Bool) × GrantEntry := (q.results, envelopes q, q.alloc)

theorem modPort_keeps (p : Fin 8) (g : Port → Port) (hg : ∀ q, keptItems (g q) = keptItems q) : Keeps s (modPort p g s) := by
  have h : ∀ q : Fin 8, keptItems (modPort p g s).ports[q] = keptItems s.ports[q] := by
    intro q
    simp only [Fin.getElem_fin, modPort_getElem]
    split
    · next e => rw [hg, Fin.val_inj.mp e]
    · rfl
  simp only [keptItems, Prod.mk.injEq] at h
  exact keeps_of_eq h rfl rfl rfl rfl rfl

theorem modRun_keeps (p : Fin 8) (g : RunContext → RunContext) : Keeps s (modRun p g s) := modPort_keeps p _ (by intros; rfl)
theorem modIntake_keeps (p : Fin 8) (g : Intake → Intake) : Keeps s (modIntake p g s) := modPort_keeps p _ (by intros; rfl)
theorem modIdent_keeps (p : Fin 8) (g : Ident → Ident) : Keeps s (modIdent p g s) := modPort_keeps p _ (by intros; rfl)

theorem poolWork_keeps {t : State} (h : PoolWork s t) : Keeps s t := by
  have f {α : Type} (g : Port → α) (q : Fin 8) := congrArg g (h.port q q.2)
  exact keeps_of_eq (fun q => ⟨f (·.results) q, f envelopes q, f (·.alloc) q⟩) (by rw [h.history]) (by rw [h.prot])
    (by rw [h.prot]) (by rw [h.prot]) (by rw [h.alloc])

/-- A change of flags, of headers, of the chain, of the pool or of what was sent. -/
theorem raisePort_keeps (f : PortFlag) (p : Fin 8) : Keeps s (raisePort f p s) :=
  keeps_of_eq (fun _ => ⟨rfl, rfl, rfl⟩) rfl rfl rfl rfl rfl
theorem raiseCabinet_keeps (f : CabinetFlag) : Keeps s (raiseCabinet f s) :=
  keeps_of_eq (fun _ => ⟨rfl, rfl, rfl⟩) rfl rfl rfl rfl rfl
theorem modHeader_keeps (n : Fin 32) (g : Header → Header) : Keeps s (modHeader n g s) :=
  keeps_of_eq (fun _ => ⟨rfl, rfl, rfl⟩) rfl rfl rfl rfl rfl
theorem modChain_keeps (g : Chain → Chain) : Keeps s (modChain g s) :=
  keeps_of_eq (fun _ => ⟨rfl, rfl, rfl⟩) rfl rfl rfl rfl rfl
theorem modPhase_keeps (f : Fin 16) (g : Phase → Phase) : Keeps s (modPhase f g s) :=
  keeps_of_eq (fun _ => ⟨rfl, rfl, rfl⟩) rfl rfl rfl rfl rfl
theorem send_keeps (x : Sent) : Keeps s (send x s) := keeps_of_eq (fun _ => ⟨rfl, rfl, rfl⟩) rfl rfl rfl rfl rfl
theorem instants_keeps (n : Nat) : Keeps s { s with instants := n } :=
  keeps_of_eq (fun _ => ⟨rfl, rfl, rfl⟩) rfl rfl rfl rfl rfl
theorem cmd_keeps (x : CommandUnit) : Keeps s { s with cmd := x } :=
  keeps_of_eq (fun _ => ⟨rfl, rfl, rfl⟩) rfl rfl rfl rfl rfl
theorem modEntry_keeps (e : Fin 64) (g : Option Entry → Option Entry) : Keeps s (modEntry e g s) :=
  keeps_of_eq (fun _ => ⟨rfl, rfl, rfl⟩) rfl rfl rfl rfl rfl
theorem touch_keeps (e : Fin 64) : Keeps s (touch e s) := keeps_of_eq (fun _ => ⟨rfl, rfl, rfl⟩) rfl rfl rfl rfl rfl
theorem waiting_keeps (l : List (Fin 8)) : Keeps s { s with history := { s.history with waiting := l } } :=
  keeps_of_eq (fun _ => ⟨rfl, rfl, rfl⟩) rfl rfl rfl rfl rfl

/-- A round keeps the registers but the grants, which it forms. -/
theorem round_keeps_of {t : State} (hp : ∀ q : Fin 8, t.ports[q].results = s.ports[q].results ∧
      envelopes t.ports[q] = envelopes s.ports[q]) (hlv : GrantsWithin s → ∀ q : Fin 8, t.ports[q].alloc.level ≤ 3)
    (hh : t.history.evictions = s.history.evictions) (hl : t.prot = s.prot) : Keeps s (round t) := by
  refine ⟨fun q h => ?_, fun h => ?_, fun h => ?_, fun q => ?_, by rw [round_prot, hl], by rw [round_prot, hl],
    fun h => grantsWithin_round (hlv h)⟩
  · rw [Fin.getElem_fin, round_getElem]; exact ((hp q).1.symm ▸ h :)
  · rw [round_history, hh]; exact h
  · rw [round_prot, hl]; exact h
  · rw [← (hp q).2, Fin.getElem_fin, round_getElem]; rfl

theorem setBasis_keeps (p : Fin 8) (b : Option Basis) : Keeps s (setBasis p b s) := by
  rw [setBasis_eq]
  refine round_keeps_of (fun q => ?_) (fun h q => ?_) rfl rfl
  · simp only [Fin.getElem_fin, modPort_getElem]
    split
    · next e => simp [e, formRequest, envelopes]
    · exact ⟨rfl, rfl⟩
  · simp only [Fin.getElem_fin, modPort_getElem]
    split
    · exact level_formRequest _ _
    · exact h.1 q

theorem tickRequests_keeps : Keeps s (tickRequests s) := by
  refine round_keeps_of (fun q => ?_) (fun _ q => ?_) rfl rfl
  · simp [formRequest, envelopes]
  · simpa using level_formRequest _ _

/-- A change of the budget in force runs a round wherever it changes what the grants are held to (R119). -/
theorem changeBudget_keeps (src : BudgetSource) (b : Budget) : Keeps s (changeBudget src b s) := by
  unfold changeBudget
  dsimp only
  split
  · exact round_keeps_of (fun _ => ⟨rfl, rfl⟩) (fun h => h.1) rfl rfl
  · split
    · exact round_keeps_of (fun _ => ⟨rfl, rfl⟩) (fun h => h.1) rfl rfl
    · exact .refl s

theorem fold_keeps (p : Fin 8) : Keeps s (fold p s) := by
  refine keeps_of_eq (fun q => ?_) (by simp) (by simp) (by simp) (by simp) (by simp)
  simp [envelopes]

theorem queueResult_keeps (p : Fin 8) (r : EndReason) : Keeps s (queueResult p r s) := by
  have hport : ∀ q : Fin 8, envelopes (queueResult p r s).ports[q] = envelopes s.ports[q] ∧
      (queueResult p r s).ports[q].alloc = s.ports[q].alloc := by
    intro q
    simp only [Fin.getElem_fin, queueResult_getElem]
    split
    · next e => simp [envelopes, e]
    · exact ⟨rfl, rfl⟩
  refine ⟨fun q h => ?_, fun h => by simpa using h, fun h => by simpa using h, fun q => (hport q).1, by simp, by simp,
    grantsWithin_congr (fun q => (hport q).2) (by simp)⟩
  simp only [Fin.getElem_fin, queueResult_getElem]
  split
  · next e => exact pushResult_length _ _ (by simpa [← e] using h)
  · exact h

theorem writeFault_keeps (p : Fin 8) (c : FaultCode) : Keeps s (writeFault p c s) := by
  refine modPort_keeps p _ fun q => ?_
  simp [keptItems, envelopes]

theorem releaseProgram_keeps (n : Option (Fin 32)) : Keeps s (releaseProgram n s) :=
  keeps_of_eq (fun _ => by simp) (by simp) (by simp) (by simp) (by simp) (by simp)

theorem command_keeps (p : Fin 8) (c : Int) : Keeps s (command p c s) :=
  (modRun_keeps p _).trans (poolWork_keeps (command_poolWork s p c))

/-! ### The sequencer -/

theorem restartSettle_keeps (p : Fin 8) : Keeps s (restartSettle p s) := modIntake_keeps p _
theorem discardCapture_keeps (p : Fin 8) : Keeps s (discardCapture p s) := modIntake_keeps p _
theorem startDrain_keeps (p : Fin 8) : Keeps s (startDrain p s) := modRun_keeps p _
theorem restart_keeps (p : Fin 8) : Keeps s (restartSettle p (discardCapture p s)) :=
  (discardCapture_keeps p).trans (restartSettle_keeps p)
theorem leaveQueue_keeps (p : Fin 8) : Keeps s (leaveQueue p s) := poolWork_keeps (leaveQueue_poolWork p s)
theorem releaseUnreserved_keeps (p : Fin 8) : Keeps s (releaseUnreserved p s) := poolWork_keeps (releaseUnreserved_poolWork p s)
theorem disablePort_keeps (p : Fin 8) : Keeps s (disablePort p s) := poolWork_keeps (disablePort_poolWork p s)
theorem refreshEnables_keeps (p : Fin 8) : Keeps s (refreshEnables p s) := poolWork_keeps (refreshEnables_poolWork p s)
theorem serveQueue_keeps : Keeps s (serveQueue s) := poolWork_keeps (serveQueue_poolWork s)
theorem reformNeeds_keeps : Keeps s (reformNeeds s) := poolWork_keeps (reformNeeds_poolWork s)

variable {p : Fin 8}

theorem acquire_keeps : Keeps s (acquire p s) := by
  have h (x : Port → Port) (hx : ∀ q, keptItems (x q) = keptItems q) := modPort_keeps (s := s) p x hx
  unfold acquire
  dsimp only
  split
  · exact ((h _ (by intros; rfl)).trans (poolWork_keeps (meetNeed_poolWork p _))).trans
      (poolWork_keeps (releaseAndServe_poolWork p _ _))
  · split
    · exact ((h _ (by intros; rfl)).trans (poolWork_keeps (takePhases_poolWork p _ _))).trans
        (poolWork_keeps (meetNeed_poolWork p _))
    · refine Keeps.trans ?_ serveQueue_keeps
      refine Keeps.trans ?_ (raisePort_keeps _ _)
      exact ((h _ (by intros; rfl)).trans (poolWork_keeps (releaseBeyond_poolWork p _ _))).trans
        (poolWork_keeps (PoolWork.ofPool _ _))

theorem enterHeld_keeps : Keeps s (enterHeld p s) :=
  (modRun_keeps p _).trans <| (restart_keeps p).trans <| (setBasis_keeps p _).trans <| (leaveQueue_keeps p).trans <|
    (disablePort_keeps p).trans <| (releaseUnreserved_keeps p).trans <| (fold_keeps p).trans (raisePort_keeps _ _)

theorem holdPort_keeps (c : HoldCauses) : Keeps s (holdPort c p s) := by
  unfold holdPort
  dsimp only
  split
  · split
    · exact (modRun_keeps p _).trans enterHeld_keeps
    · exact (modRun_keeps p _).trans <| (modRun_keeps p _).trans <| (startDrain_keeps p).trans (restart_keeps p)
  · exact modRun_keeps p _

theorem handInterlock_keeps (x y : Bool) : Keeps s (handInterlock x y p s) := by
  unfold handInterlock
  split
  · split
    · exact holdPort_keeps _
    · exact .refl s
  · split
    · exact modRun_keeps p _
    · exact .refl s

theorem completeEnding_keeps : Keeps s (completeEnding p s) :=
  (modRun_keeps p _).trans <| (setBasis_keeps p _).trans <| (releaseUnreserved_keeps p).trans <| (fold_keeps p).trans <|
    (releaseProgram_keeps _).trans <| (modRun_keeps p _).trans <| (disablePort_keeps p).trans (raisePort_keeps _ _)

theorem enterEnding_keeps (o : RunOutcome) : Keeps s (enterEnding o p s) := by
  unfold enterEnding
  dsimp only
  split
  · exact (modRun_keeps p _).trans <| (restart_keeps p).trans completeEnding_keeps
  · exact (modRun_keeps p _).trans <| (restart_keeps p).trans (startDrain_keeps p)

theorem completeDrain_keeps : Keeps s (completeDrain p s) := by
  unfold completeDrain
  dsimp only
  split
  · exact (modRun_keeps p _).trans <| (modRun_keeps p _).trans <| (setBasis_keeps p _).trans acquire_keeps
  · exact (modRun_keeps p _).trans <| (setBasis_keeps p _).trans <| (releaseUnreserved_keeps p).trans (modRun_keeps p _)

theorem enterTransfer_keeps (i : Nat) (r : StepRecord) : Keeps s (enterTransfer p i r s) := by
  unfold enterTransfer
  dsimp only
  split
  · exact (modPort_keeps p _ (by intros; rfl)).trans <| (restart_keeps p).trans <| (refreshEnables_keeps p).trans
      completeDrain_keeps
  · exact (modPort_keeps p _ (by intros; rfl)).trans <| (restart_keeps p).trans <| (refreshEnables_keeps p).trans
      (startDrain_keeps p)

theorem takeLoop_keeps (n : Fin 32) (i : Nat) (r : StepRecord) : Keeps s (takeLoop p n i r s).2 := by
  unfold takeLoop
  dsimp only
  split
  · exact (modRun_keeps p _).trans <| (modPort_keeps p _ (by intros; rfl)).trans (fold_keeps p)
  · exact modRun_keeps p _

theorem enterIndex_keeps : ∀ (fuel i : Nat) (s : State), Keeps s (enterIndex p fuel i s)
  | 0, _, _ => enterEnding_keeps _
  | fuel + 1, i, s => by
    unfold enterIndex
    split
    · exact enterEnding_keeps _
    · split
      · exact enterEnding_keeps _
      · split
        · exact enterEnding_keeps _
        · exact (takeLoop_keeps _ _ _).trans (enterIndex_keeps fuel _ _)
        · exact enterTransfer_keeps _ _

/-! ### Faults and step ends -/

theorem faultBound_keeps (c : FaultCode) : Keeps s (faultBound p c s) := by
  have h : Keeps s (writeFault p c (disablePort p s)) := (disablePort_keeps p).trans (writeFault_keeps p c)
  unfold faultBound
  dsimp only
  refine Keeps.trans ?_ (raisePort_keeps _ _)
  refine Keeps.trans ?_ (modRun_keeps p _)
  refine Keeps.trans ?_ (releaseProgram_keeps _)
  refine Keeps.trans ?_ (fold_keeps p)
  refine Keeps.trans ?_ (setBasis_keeps p _)
  refine Keeps.trans ?_ (releaseUnreserved_keeps p)
  refine Keeps.trans ?_ (restart_keeps p)
  refine Keeps.trans ?_ (modRun_keeps p _)
  refine Keeps.trans ?_ (leaveQueue_keeps p)
  refine Keeps.trans ?_ (modRun_keeps p _)
  split
  · exact h.trans (queueResult_keeps p _)
  · exact h

theorem faultIdle_keeps (c : FaultCode) : Keeps s (faultIdle p c s) :=
  (writeFault_keeps p c).trans <| (fold_keeps p).trans <| (disablePort_keeps p).trans <| (modRun_keeps p _).trans <|
    (restartSettle_keeps p).trans (raisePort_keeps _ _)

theorem faultPort_keeps (c : FaultCode) : Keeps s (faultPort p c s) := by
  unfold faultPort
  split
  iterate 5 exact faultBound_keeps c
  · exact faultIdle_keeps c
  · exact faultIdle_keeps c
  · exact ((modIdent_keeps p _).trans (waiting_keeps _)).trans (faultIdle_keeps c)
  · exact writeFault_keeps p c
  · exact .refl s

theorem endStep_keeps (r : EndReason) (a : Action) : Keeps s (endStep p r a s) := by
  have h : Keeps s (restartSettle p (discardCapture p (fold p (queueResult p r s)))) :=
    (queueResult_keeps p r).trans <| (fold_keeps p).trans (restart_keeps p)
  unfold endStep
  dsimp only
  split
  · exact h.trans (enterIndex_keeps _ _ _)
  · exact h.trans (enterIndex_keeps _ _ _)
  · exact h.trans (enterEnding_keeps _)
  · exact h.trans (faultPort_keeps _)

/-! ### Sample instants -/

theorem settleUpdate_keeps (v : Sample) : Keeps s (settleUpdate p v s) := by
  unfold settleUpdate
  dsimp only
  split
  · split
    · split
      · split
        · exact (modIntake_keeps p _).trans (raisePort_keeps _ _)
        · exact modIntake_keeps p _
      · exact .refl s
    · exact .refl s
  · exact .refl s

theorem takeCaptureA_keeps (v : Sample) (held : Bool) : Keeps s (takeCaptureA p v held s) := by
  unfold takeCaptureA
  split
  · exact modIntake_keeps p _
  · exact .refl s

theorem takeCaptureB_keeps (v : Sample) : Keeps s (takeCaptureB p v s) := by
  unfold takeCaptureB
  split
  · split
    · exact (modPort_keeps p _ (by intros; rfl)).trans (raisePort_keeps _ _)
    · exact .refl s
  · exact .refl s

theorem intakeArrival_keeps (v : Sample) : Keeps s (intakeArrival p v s) :=
  (modIntake_keeps p _).trans <| (settleUpdate_keeps v).trans <| (takeCaptureA_keeps v _).trans (takeCaptureB_keeps v)

theorem intakeMissed_keeps : Keeps s (intakeMissed p s) := (modIntake_keeps p _).trans (takeCaptureA_keeps _ _)

theorem drainSample_keeps (v : Sample) : Keeps s (drainSample p v s) :=
  (modRun_keeps p _).trans <| (modRun_keeps p _).trans (command_keeps p _)

theorem idleSample_keeps (v : Sample) : Keeps s (idleSample p v s) :=
  (modRun_keeps p _).trans <| (modRun_keeps p _).trans (command_keeps p _)

theorem subPhaseTests_keeps (r : StepRecord) (v : Sample) (c : Option Nat) : Keeps s (subPhaseTests p r v c s) := by
  unfold subPhaseTests
  split
  · exact (modRun_keeps p _).trans <| (setBasis_keeps p _).trans (restartSettle_keeps p)
  · split
    · unfold updateCv; exact modRun_keeps p _
    · split
      · exact (modRun_keeps p _).trans (restartSettle_keeps p)
      · exact .refl s

theorem applyStep_keeps (r : StepRecord) (v : Sample) (c : Option Nat) : Keeps s (applyStep p r v c s) :=
  (modRun_keeps p _).trans (command_keeps p _)

theorem rampSample_keeps (v : Sample) : Keeps s (rampSample p v s) := by
  unfold rampSample
  dsimp only
  exact (subPhaseTests_keeps _ _ _).trans <| (applyStep_keeps _ _ _).trans (modRun_keeps p _)

theorem runningCount_keeps (v : Sample) : Keeps s (runningCount p v s) := by
  unfold runningCount
  dsimp only
  exact (subPhaseTests_keeps _ _ _).trans <| (applyStep_keeps _ _ _).trans (modRun_keeps p _)

theorem runningSample_keeps (v : Sample) : Keeps s (runningSample p v s) := by
  unfold runningSample
  dsimp only
  split
  · exact (runningCount_keeps v).trans (endStep_keeps _ _)
  · exact runningCount_keeps v

theorem sequencerSample_keeps (v : Sample) : Keeps s (sequencerSample p v s) := by
  unfold sequencerSample
  dsimp only
  split
  · split
    · split
      · exact (drainSample_keeps v).trans completeDrain_keeps
      · exact drainSample_keeps v
    · exact idleSample_keeps _
    · exact rampSample_keeps v
  · exact runningSample_keeps v
  · split
    · exact (drainSample_keeps v).trans enterHeld_keeps
    · exact drainSample_keeps v
  · split
    · exact (drainSample_keeps v).trans completeEnding_keeps
    · exact drainSample_keeps v
  iterate 6 exact idleSample_keeps _

theorem protectArrival_keeps (v : Sample) : Keeps s (protectArrival p v s) :=
  (modPort_keeps p _ (by intros; rfl)).trans (.foldl _ (fun _ c => faultPort_keeps c) _ _)

theorem protectMissed_keeps : Keeps s (protectMissed p s) := by
  unfold protectMissed
  split
  · exact faultPort_keeps _
  · exact .refl s

theorem consume_keeps (arrived : Bool) (v : Sample) (c : Config.Consumer) : Keeps s (consume p arrived v s c) := by
  unfold consume
  split
  · exact modPort_keeps p _ (by intros; rfl)
  · exact sequencerSample_keeps v
  · split
    · exact protectArrival_keeps v
    · exact protectMissed_keeps

theorem handOn_keeps (arrived : Bool) (v : Sample) : Keeps s (handOn p arrived v s) :=
  (instants_keeps _).trans (.foldl _ (fun _ c => consume_keeps arrived v c) _ _)

theorem receiveReply_keeps (reply : List Byte) : Keeps s (receiveReply p reply s) := by
  unfold receiveReply
  split
  · exact .refl s
  · split
    · exact modIntake_keeps p _
    · exact (intakeArrival_keeps _).trans (handOn_keeps _ _)

theorem strobe_keeps : Keeps s (strobe p s) := by
  unfold strobe
  dsimp only
  refine Keeps.trans (t := if _ then _ else _) ?_ ((modIntake_keeps p _).trans (send_keeps _))
  split
  · exact intakeMissed_keeps.trans (handOn_keeps _ _)
  · exact .refl s

theorem namedInstant_keeps (rd : Reading) (due : Port → Sample → Bool) : Keeps s (namedInstant p rd due s) := by
  unfold namedInstant
  split
  · split
    · cases rd
      · exact receiveReply_keeps _
      · exact strobe_keeps
    · exact .refl s
  · exact .refl s

/-! ### Identification -/

theorem unmount_keeps : Keeps s (unmount p s) := by
  unfold unmount
  split
  · exact .refl s
  · exact (modEntry_keeps _ _).trans <| (touch_keeps _).trans (modIdent_keeps p _)

theorem mount_keeps (e : Fin 64) : Keeps s (mount p e s) := by
  unfold mount
  dsimp only
  exact (modEntry_keeps e _).trans <| (touch_keeps e).trans (modPort_keeps p _ (by intros; rfl))

/-- An eviction while the queue has room. -/
theorem evict_keeps {e : Fin 64} (h : s.history.evictions.length < 16) : Keeps s (evict e s) := by
  unfold evict
  split
  · exact .refl s
  · refine ⟨fun _ h => h, fun _ => ?_, fun h => h, fun _ => rfl, rfl, rfl, fun h => h⟩
    simpa [freeUp] using h

theorem makeEntry_keeps {x : Entry} {e : Fin 64} {t : State} (h : makeEntry x s = some (e, t)) : Keeps s t := by
  unfold makeEntry at h
  split at h
  · cases h; exact modEntry_keeps _ _
  · split at h
    · split at h
      · next hroom => cases h; exact (evict_keeps hroom).trans (modEntry_keeps _ _)
      · cases h
    · cases h

theorem lookup_keeps {serial : Nat} {t : State} (h : lookup p serial s = some t) : Keeps s t := by
  unfold lookup at h
  split at h
  · cases h; exact modPort_keeps p _ (by intros; rfl)
  · split at h
    · cases h; exact mount_keeps _
    · simp only [Option.map_eq_some_iff] at h
      obtain ⟨⟨e, u⟩, hu, rfl⟩ := h
      exact (makeEntry_keeps hu).trans (mount_keeps e)

theorem serveWaiting_keeps : ∀ (l : List (Fin 8)) (s : State), Keeps s (serveWaiting l s)
  | [], _ => waiting_keeps _
  | p :: rest, s => by
    unfold serveWaiting
    split
    · next t h =>
      obtain ⟨n, -, hn⟩ := Option.map_eq_some_iff.mp h
      exact ((waiting_keeps _).trans (lookup_keeps hn)).trans (serveWaiting_keeps rest t)
    · exact waiting_keeps _
    · exact serveWaiting_keeps rest s

theorem serveHistory_keeps : Keeps s (serveHistory s) := serveWaiting_keeps _ s

theorem beginAttempt_keeps (n : Nat) : Keeps s (beginAttempt p n s) := (modIdent_keeps p _).trans (send_keeps _)

theorem startIdentify_keeps : Keeps s (startIdentify p s) := (modPort_keeps p _ (by intros; rfl)).trans (beginAttempt_keeps _)

theorem failAttempt_keeps (n : Nat) (why : IdFailure) : Keeps s (failAttempt p n why s) := by
  unfold failAttempt
  split
  · exact (modIdent_keeps p _).trans (beginAttempt_keeps _)
  · exact modPort_keeps p _ (by intros; rfl)

theorem succeedAttempt_keeps (serial : Nat) : Keeps s (succeedAttempt p serial s) := by
  unfold succeedAttempt
  dsimp only
  split
  · next h => exact (modIdent_keeps p _).trans (lookup_keeps h)
  · exact (modIdent_keeps p _).trans (waiting_keeps _)

theorem receiveId_keeps (x : IdSource) (reply : List Byte) : Keeps s (receiveId p x reply s) := by
  unfold receiveId
  split
  · exact .refl s
  · split
    · exact .refl s
    · split
      · exact failAttempt_keeps _ _
      · split
        · exact failAttempt_keeps _ _
        · exact succeedAttempt_keeps _

theorem expireAttempt_keeps : Keeps s (expireAttempt p s) := by
  unfold expireAttempt
  split
  · split
    · exact failAttempt_keeps _ _
    · exact .refl s
  · exact .refl s

theorem thermalTrip_keeps : Keeps s (thermalTrip p s) := (modPort_keeps p _ (by intros; rfl)).trans (faultPort_keeps _)

theorem packArrives_keeps : Keeps s (packArrives p s) := by
  have h : Keeps s (if s.ports[p].run.state = .vacant then startIdentify p s else s) := by
    split
    · exact startIdentify_keeps
    · exact .refl s
  unfold packArrives
  dsimp only
  split
  · exact h.trans thermalTrip_keeps
  · exact h

theorem closePresence_keeps : Keeps s (closePresence p s) := by
  unfold closePresence
  split
  · exact .refl s
  · exact (modIdent_keeps p _).trans packArrives_keeps

theorem openPresence_keeps : Keeps s (openPresence p s) := by
  have h : Keeps s (modIdent p (fun i => { i with present := false }) s) := modIdent_keeps p _
  have v {u : State} : Keeps u (toVacant p u) := modRun_keeps p _
  unfold openPresence
  dsimp only
  split
  · exact .refl s
  · split
    · exact h
    · exact ((h.trans (waiting_keeps _)).trans (modIdent_keeps p _)).trans v
    · exact h.trans v
    · exact ((h.trans (fold_keeps p)).trans unmount_keeps).trans v
    · exact (h.trans (fold_keeps p)).trans unmount_keeps
    iterate 5 exact (h.trans (faultPort_keeps _)).trans unmount_keeps

theorem presenceDetection_keeps : Keeps s (presenceDetection s) := by
  refine forPorts_keeps _ (fun p s => ?_) s
  split
  · exact packArrives_keeps
  · exact .refl s

theorem openThermal_keeps : Keeps s (openThermal p s) := by
  have h : Keeps s (modProt p (fun x => { x with thermalOpen := true }) s) := modPort_keeps p _ (by intros; rfl)
  unfold openThermal
  dsimp only
  split
  · exact .refl s
  · split
    · exact h.trans thermalTrip_keeps
    · exact h

/-! ### The protection unit -/

/-- A change of the protection unit's items but log, limits and lock. -/
theorem prot_keeps (x : Protection) (hl : x.log = s.prot.log) (hm : x.limits = s.prot.limits) (hk : x.locked = s.prot.locked) :
    Keeps s { s with prot := x } := keeps_of_eq (fun _ => ⟨rfl, rfl, rfl⟩) rfl hl hm hk rfl

theorem openDoor_keeps : Keeps s (openDoor s) := by
  unfold openDoor
  split
  · exact .refl s
  · refine (prot_keeps _ ?_ ?_ ?_).trans (forPorts_keeps _ (fun p t => ?_) _)
    iterate 3 rfl
    split
    · exact holdPort_keeps _
    · exact .refl t

theorem closeDoor_keeps : Keeps s (closeDoor s) :=
  keeps_of_eq (fun q => by simp [closeDoor, envelopes]) rfl rfl rfl rfl rfl

theorem appendLog_keeps (cause : LogCause) (phase : Option (Fin 16)) (effect : LogEffect) :
    Keeps s (appendLog cause phase effect s) := by
  unfold appendLog
  split
  · next h => exact ⟨fun _ h => h, fun h => h, fun _ => by simpa using h, fun _ => rfl, rfl, rfl, fun h => h⟩
  · exact prot_keeps _ rfl rfl rfl

theorem startCooldown_keeps : Keeps s (startCooldown s) := prot_keeps _ rfl rfl rfl

theorem lockoutPort_keeps : Keeps s (lockoutPort p s) := by
  unfold lockoutPort
  split
  · exact faultPort_keeps _
  · exact .refl s

theorem enterLockout_keeps (cause : LogCause) (phase : Option (Fin 16)) : Keeps s (enterLockout cause phase s) := by
  unfold enterLockout
  dsimp only
  refine Keeps.trans ?_ startCooldown_keeps
  refine Keeps.trans ?_ (raiseCabinet_keeps _)
  refine Keeps.trans ?_ (appendLog_keeps _ _ _)
  refine Keeps.trans ?_ (forPorts_keeps _ (fun p t => ?_) _)
  · refine Keeps.trans ?_ (forPorts_keeps _ (fun p t => lockoutPort_keeps) _)
    have h : Keeps s ((List.finRange 16).foldl (fun u f => disablePhase f u) (startCooldown s)) :=
      startCooldown_keeps.trans (.foldl _ (fun t f => modPhase_keeps f _) _ _)
    split
    · exact h
    · exact h.trans (prot_keeps _ (by simp) (by simp) (by simp))
  · split
    · exact .refl t
    · exact fold_keeps p

theorem lockoutCause_keeps (cause : LogCause) (phase : Option (Fin 16)) : Keeps s (lockoutCause cause phase s) := by
  unfold lockoutCause
  split
  · exact ((appendLog_keeps _ _ _).trans (raiseCabinet_keeps _)).trans startCooldown_keeps
  · exact enterLockout_keeps _ _

/-- A cabinet whose grant table is cleared grants nothing. -/
theorem grantsWithin_of_none {t : State} (h : ∀ q : Fin 8, t.ports[q].alloc = .none) : GrantsWithin t := by
  have hnet : netGrant t = 0 := by
    rw [netGrant]
    refine List.sum_eq_zero fun x hx => ?_
    obtain ⟨q, hq, rfl⟩ := List.mem_map.mp hx
    obtain ⟨k, hk, rfl⟩ := List.getElem_of_mem hq
    have hq := congrArg GrantEntry.grant (h ⟨k, by simpa using hk⟩)
    simpa [GrantEntry.none] using hq
  refine ⟨fun p => by rw [h]; decide, by rw [hnet]; omega, by rw [hnet]; omega, fun p => by rw [h]; decide⟩

theorem restartBlocks_keeps : Keeps s (restartBlocks s) := by
  have hport : Keeps s (forPorts (fun p t => unmount p (fold p t)) s) :=
    forPorts_keeps _ (fun p t => (fold_keeps p).trans unmount_keeps) s
  unfold restartBlocks
  dsimp only
  refine Keeps.trans ?_ (raiseCabinet_keeps _)
  refine Keeps.trans ?_ (forPorts_keeps _ (fun p t => poolWork_keeps (takePhases_poolWork p _ t)) _)
  refine hport.trans ?_
  generalize forPorts (fun p t => unmount p (fold p t)) s = u
  refine ⟨fun q h => ?_, fun h => h, fun h => h, fun q => ?_, rfl, rfl, fun _ => grantsWithin_of_none fun q => ?_⟩
  · simpa [restartPort] using h
  · simp [restartPort, envelopes]
  · simp [restartPort]

theorem internalRestart_keeps : Keeps s (internalRestart s) := restartBlocks_keeps.trans presenceDetection_keeps

theorem endCooldown_keeps : Keeps s (endCooldown s) := by
  unfold endCooldown
  split
  · exact .refl s
  · split
    · exact prot_keeps _ rfl rfl rfl
    · split
      · exact prot_keeps _ rfl rfl rfl
      · exact internalRestart_keeps

theorem closeFeedback_keeps : Keeps s (closeFeedback s) := by
  have h : Keeps s { s with prot := { s.prot with feedbackClosed := true } } := prot_keeps _ rfl rfl rfl
  unfold closeFeedback
  split
  · exact .refl s
  · dsimp only
    split
    · exact prot_keeps _ rfl rfl rfl
    · split
      · exact h
      · split
        · exact prot_keeps _ rfl rfl rfl
        · exact h.trans (lockoutCause_keeps _ _)
    · exact h

theorem openFeedback_keeps : Keeps s (openFeedback s) := by
  unfold openFeedback
  split
  · exact .refl s
  · dsimp only
    split
    · refine (prot_keeps _ ?_ ?_ ?_).trans (lockoutCause_keeps _ _) <;> rfl
    · exact prot_keeps _ rfl rfl rfl
    · split
      · refine (prot_keeps _ ?_ ?_ ?_).trans internalRestart_keeps <;> rfl
      · exact prot_keeps _ rfl rfl rfl

theorem expireClosing_keeps : Keeps s (expireClosing s) := by
  unfold expireClosing
  split
  · split
    · exact .refl s
    · refine (prot_keeps _ ?_ ?_ ?_).trans (appendLog_keeps _ _ _) <;> rfl
  · exact .refl s

theorem expireOpening_keeps : Keeps s (expireOpening s) := by
  unfold expireOpening
  split
  · split
    · exact .refl s
    · refine (prot_keeps _ ?_ ?_ ?_).trans (lockoutCause_keeps _ _) <;> rfl
  · exact .refl s

variable {f : Fin 16}

theorem riseFault_keeps : Keeps s (riseFault f s) := by
  unfold riseFault
  split
  · exact .refl s
  · dsimp only
    split
    · exact modPhase_keeps f _
    · exact ((modPhase_keeps f _).trans (modPhase_keeps f _)).trans ((raiseCabinet_keeps _).trans reformNeeds_keeps)

theorem fallActive_keeps : Keeps s (fallActive f s) := by
  unfold fallActive
  split
  · exact .refl s
  · exact modPhase_keeps f _

theorem riseActive_keeps : Keeps s (riseActive f s) := by
  unfold riseActive
  dsimp only
  split
  · exact .refl s
  · split
    · exact (modPhase_keeps f _).trans (lockoutCause_keeps _ _)
    · exact modPhase_keeps f _

theorem expireWatch_keeps : Keeps s (expireWatch f s) := by
  unfold expireWatch
  split
  · split
    · exact .refl s
    · exact (modPhase_keeps f _).trans (lockoutCause_keeps _ _)
  · exact .refl s

/-! ### The chain but for the commands that its frames carry -/

theorem reformLines_keeps : Keeps s (reformLines s) :=
  (modChain_keeps _).trans (forPorts_keeps _ (fun _ _ => handInterlock_keeps _ _) _)

theorem enterStale_keeps : Keeps s (enterStale s) :=
  (modChain_keeps _).trans <| (changeBudget_keeps _ _).trans reformLines_keeps

theorem discardFrame_keeps : Keeps s (discardFrame s) := by
  unfold discardFrame
  dsimp only
  split
  · exact (modChain_keeps _).trans enterStale_keeps
  · exact modChain_keeps _

theorem firstNumbering_keeps : Keeps s (firstNumbering s) := by
  unfold firstNumbering
  split
  · exact .refl s
  · dsimp only
    split
    · exact (modChain_keeps _).trans <| (modChain_keeps _).trans reformLines_keeps
    · exact (modChain_keeps _).trans enterStale_keeps

theorem takeNumber_keeps (n : Nat) : Keeps s (takeNumber n s) :=
  (modChain_keeps _).trans <| (send_keeps _).trans firstNumbering_keeps

theorem takeDiscover_keeps (frame : List Byte) : Keeps s (takeDiscover frame s) := by
  unfold takeDiscover
  split
  · exact takeNumber_keeps _
  · exact (send_keeps _).trans <| (send_keeps _).trans (modChain_keeps _)

theorem takeRenumber_keeps (frame : List Byte) : Keeps s (takeRenumber frame s) := by
  unfold takeRenumber
  dsimp only
  split
  · exact (takeNumber_keeps _).trans (send_keeps _)
  · split
    · exact .refl s
    · exact (send_keeps _).trans (modChain_keeps _)

theorem sendBroken_keeps (slot : List Byte) : Keeps s (sendBroken slot s) := (modChain_keeps _).trans (send_keeps _)

theorem report_keeps : Keeps s (report s) := by
  unfold report
  dsimp only
  split
  · exact (modChain_keeps _).trans <| (modChain_keeps _).trans (send_keeps _)
  · exact (modChain_keeps _).trans (modChain_keeps _)

theorem takeUpstream_keeps (frame : List Byte) : Keeps s (takeUpstream frame s) := by
  unfold takeUpstream
  split
  · exact .refl s
  · split
    · exact .refl s
    · split
      · exact (modChain_keeps _).trans (send_keeps _)
      · exact sendBroken_keeps _

theorem expireUplink_keeps : Keeps s (expireUplink s) := by
  unfold expireUplink
  split
  · split
    · exact .refl s
    · exact sendBroken_keeps _
  · exact .refl s

theorem expireSilence_keeps : Keeps s (expireSilence s) := by
  unfold expireSilence
  split
  · exact enterStale_keeps
  · exact .refl s

theorem takeAnswer_keeps (frame : List Byte) : Keeps s (takeAnswer frame s) := by
  unfold takeAnswer
  split
  · exact .refl s
  · dsimp only
    split
    · exact (modChain_keeps _).trans (send_keeps _)
    · exact modChain_keeps _

theorem expireAnswer_keeps : Keeps s (expireAnswer s) := by
  unfold expireAnswer
  split
  · split
    · exact .refl s
    · exact modChain_keeps _
  · exact .refl s

/-- A reply placed for its issuer touches none of the registers. -/
theorem deliver_keeps (iss : Issuer) (code : Nat) (x : State × Reply) : Keeps x.1 (deliver iss code x) := by
  cases iss
  · exact cmd_keeps _
  · exact keeps_of_eq (fun _ => ⟨rfl, rfl, rfl⟩) rfl rfl rfl rfl rfl

theorem tick_keeps : Keeps s (tick s) :=
  keeps_of_eq (fun q => by simp [tick, envelopes]) rfl rfl rfl rfl rfl

end

end Sys2Proof.Bounded
end

section
/-! PROOFS. The bounded registers over whole rows: what each command keeps, with SET_LIMITS and SET_ENVELOPE forming envelopes anew,
what the frames that carry commands keep, power-on reset, and so every step. -/

open Sys2Proof Sys2Proof.Machine

namespace Sys2Proof.Bounded

/-! ### The invariants over a row -/

/-- What every row but power-on reset keeps: the invariants of queues, envelopes and grants, and the limits under the limit lock. -/
structure Sound (s t : State) : Prop where
  queues : QueuesBounded s → QueuesBounded t
  envelopes : EnvelopesFormed s → EnvelopesFormed t
  grants : GrantsWithin s → GrantsWithin t
  lock : s.prot.locked = true → t.prot.locked = true ∧ t.prot.limits = s.prot.limits

theorem Keeps.sound {s t : State} (h : Keeps s t) : Sound s t :=
  ⟨h.queuesBounded, h.envelopesFormed, h.grants, fun hl => ⟨h.locked.trans hl, h.limits⟩⟩

theorem Sound.refl (s : State) : Sound s s := (Keeps.refl s).sound

theorem Sound.trans {s t u : State} (x : Sound s t) (y : Sound t u) : Sound s u :=
  ⟨fun h => y.queues (x.queues h), fun h => y.envelopes (x.envelopes h), fun h => y.grants (x.grants h), fun h =>
    have ⟨hl, hm⟩ := x.lock h
    have ⟨hl', hm'⟩ := y.lock hl
    ⟨hl', hm'.trans hm⟩⟩

section
variable {s : State} {p : Fin 8} {m : Master}

theorem Keeps.done {t : State} (h : Keeps s t) : Keeps s (done t).1 := h

theorem Keeps.answer {t : State} (h : Keeps s t) (data : List Byte) : Keeps s (answer data t).1 := h

theorem Keeps.ite {c : Prop} [Decidable c] {t u : State} (ht : Keeps s t) (hu : Keeps s u) : Keeps s (if c then t else u) := by
  split
  · exact ht
  · exact hu

/-! ### Commands on a port -/

theorem setOwner_keeps (o : Owner) : Keeps s (setOwner p o s) := modPort_keeps p _ (by intros; rfl)

theorem claimPort_keeps (port : Nat) : Keeps s (claimPort m port s).1 := by
  refine onPort_cases (P := fun x => Keeps s x.1) (.refl s) fun p => ?_
  split
  · exact .refl s
  · exact setOwner_keeps _

theorem releasePort_keeps (port : Nat) : Keeps s (releasePort m port s).1 :=
  onOwnPort_cases (P := fun x => Keeps s x.1) (.refl s) (.refl s) fun _ _ => setOwner_keeps _

theorem raisePortTaken_keeps : Keeps s (raisePortTaken p s) := keeps_of_eq (fun _ => ⟨rfl, rfl, rfl⟩) rfl rfl rfl rfl rfl

theorem takePort_keeps (port : Nat) : Keeps s (takePort m port s).1 := by
  unfold takePort
  split
  · exact .refl s
  · refine onPort_cases (P := fun x => Keeps s x.1) (.refl s) fun p => ?_
    refine Keeps.trans (t := if _ then _ else _) ?_ (setOwner_keeps _)
    split
    · exact raisePortTaken_keeps
    · exact .refl s

theorem startRun_keeps (n i : Nat) : Keeps s (startRun p n i s).1 := by
  unfold startRun
  refine onProgram_cases (P := fun x => Keeps s x.1) (.refl s) fun n => ?_
  iterate 7 (split; · exact .refl s)
  exact ((modHeader_keeps _ _).trans (modPort_keeps p _ (by intros; rfl))).trans (enterIndex_keeps _ _ _)

theorem holdCommand_keeps : Keeps s (holdCommand p s).1 := by
  unfold holdCommand
  split
  · exact holdPort_keeps _
  · exact .refl s

theorem resumeCommand_keeps : Keeps s (resumeCommand p s).1 := by
  unfold resumeCommand
  dsimp only
  iterate 3 (split; · exact .refl s)
  split
  · exact (modRun_keeps p _).trans <| (restartSettle_keeps p).trans <| (modRun_keeps p _).trans <|
      (refreshEnables_keeps p).trans <| (setBasis_keeps p _).trans acquire_keeps
  · exact (modRun_keeps p _).trans <| (restartSettle_keeps p).trans <| (modRun_keeps p _).trans <|
      (refreshEnables_keeps p).trans (setBasis_keeps p _)

theorem abortCommand_keeps : Keeps s (abortCommand p s).1 := by
  unfold abortCommand
  split
  · exact (queueResult_keeps p _).trans <| (leaveQueue_keeps p).trans (enterEnding_keeps _)
  · exact .refl s

theorem clearFault_keeps (port : Nat) : Keeps s (clearFault m port s).1 := by
  refine onOwnPort_cases (P := fun x => Keeps s x.1) (.refl s) (.refl s) fun p _ => ?_
  dsimp only
  iterate 3 (split; · exact .refl s)
  exact (modPort_keeps p _ (by intros; rfl)).done

theorem retryIdentify_keeps (port : Nat) : Keeps s (retryIdentify m port s).1 := by
  refine onPort_cases (P := fun x => Keeps s x.1) (.refl s) fun p => ?_
  iterate 2 (split; · exact .refl s)
  exact startIdentify_keeps

theorem reservePhases_keeps (n : Nat) : Keeps s (reservePhases p n s).1 := by
  unfold reservePhases
  dsimp only
  iterate 3 (split; · exact .refl s)
  have h : Keeps s (modPort p (fun q => { q with phases := { q.phases with reserved := n } }) s) :=
    modPort_keeps p _ (by intros; rfl)
  have hu := Keeps.ite (c := heldCount p s < n) (h.trans (poolWork_keeps (takePhases_poolWork p (n - heldCount p s) _)))
    (Keeps.ite (c := s.ports[p].run.state = .holding ∨ s.ports[p].run.state = .ending ∨
      (s.ports[p].run.state = .running ∧ ¬ (s.ports[p].run.step.map StepRecord.kind) = some .rest)) h
      (h.trans (poolWork_keeps (releaseBeyond_poolWork p n _))))
  exact (Keeps.ite (hu.trans reformNeeds_keeps) (.ite (hu.trans serveQueue_keeps) hu)).done

theorem setInterlockMask_keeps (port : Nat) (l : Byte) : Keeps s (setInterlockMask m port l s).1 :=
  onOwnPort_cases (P := fun x => Keeps s x.1) (.refl s) (.refl s) fun p _ =>
    (modPort_keeps p _ (by intros; rfl)).trans (handInterlock_keeps _ _)

theorem setCalibration_keeps (port channel : Nat) (o : Int) (g : Nat) : Keeps s (setCalibration m port channel o g s).1 := by
  refine onOwnPort_cases (P := fun x => Keeps s x.1) (.refl s) (.refl s) fun p _ => ?_
  split
  · exact .refl s
  · iterate 2 (split; · exact .refl s)
    exact (modIntake_keeps p _).done

theorem setSettleEdges_keeps (port setting : Nat) : Keeps s (setSettleEdges m port setting s).1 := by
  refine onOwnPort_cases (P := fun x => Keeps s x.1) (.refl s) (.refl s) fun p _ => ?_
  split
  · exact .refl s
  · exact (modIntake_keeps p _).done

theorem setPortDefaults_keeps (port : Nat) (d : PortDefaults) : Keeps s (setPortDefaults m port d s).1 := by
  refine onOwnPort_cases (P := fun x => Keeps s x.1) (.refl s) (.refl s) fun p _ => ?_
  split
  · exact .refl s
  · exact (modIntake_keeps p _).done

theorem readResult_keeps : Keeps s (readResult p s).1 := by
  unfold readResult
  split
  · exact .refl s
  · next r rest hr =>
    have hport : ∀ q : Fin 8, envelopes (modPort p (fun q => { q with
        results := rest, lost := if rest.isEmpty then 0 else q.lost }) s).ports[q] = envelopes s.ports[q] ∧
        (modPort p (fun q => { q with
          results := rest, lost := if rest.isEmpty then 0 else q.lost }) s).ports[q].alloc = s.ports[q].alloc := by
      intro q
      simp only [Fin.getElem_fin, modPort_getElem]
      split
      · next e => simp [envelopes, e]
      · exact ⟨rfl, rfl⟩
    refine ⟨fun q h => ?_, fun h => h, fun h => h, fun q => (hport q).1, rfl, rfl, grantsWithin_congr (fun q => (hport q).2) rfl⟩
    simp only [answer_state, Fin.getElem_fin, modPort_getElem]
    split
    · next e =>
      simp only [Fin.getElem_fin] at hr h
      simp only [e, hr, List.length_cons] at h
      exact Nat.le_of_succ_le h
    · exact h

theorem peekResult_state : (peekResult p s).1 = s := by
  unfold peekResult
  split <;> rfl

theorem readCapture_keeps : Keeps s (readCapture p s).1 := by
  unfold readCapture
  dsimp only
  split
  · exact .refl s
  · exact (modIntake_keeps p _).answer _

/-! ### Commands on programs and on the history -/

theorem openProgram_keeps (n k : Nat) : Keeps s (openProgram m n k s).1 := by
  refine onProgram_cases (P := fun x => Keeps s x.1) (.refl s) fun n => ?_
  iterate 3 (split; · exact .refl s)
  exact (modHeader_keeps n _).answer _

theorem writeStep_keeps (n i : Nat) (r : List Byte) : Keeps s (writeStep m n i r s).1 := by
  refine onProgram_cases (P := fun x => Keeps s x.1) (.refl s) fun n => ?_
  dsimp only
  iterate 3 (split; · exact .refl s)
  split
  · exact .refl s
  · exact (modHeader_keeps n _).done

theorem closeProgram_keeps (n : Nat) : Keeps s (closeProgram m n s).1 := by
  refine onProgram_cases (P := fun x => Keeps s x.1) (.refl s) fun n => ?_
  dsimp only
  iterate 2 (split; · exact .refl s)
  split
  · exact .refl s
  · exact (modHeader_keeps n _).answer _

theorem deleteProgram_keeps (n : Nat) : Keeps s (deleteProgram m n s).1 := by
  refine onProgram_cases (P := fun x => Keeps s x.1) (.refl s) fun n => ?_
  dsimp only
  iterate 3 (split; · exact .refl s)
  exact (modHeader_keeps n _).answer _

theorem readStep_state (n i : Nat) : (readStep n i s).1 = s := by
  refine onProgram_cases (P := fun x => x.1 = s) rfl fun n => ?_
  dsimp only
  split
  · rfl
  · split <;> rfl

theorem readHistory_state (x : Selector) : (readHistory x s).1 = s :=
  onEntry_cases (P := fun y => y.1 = s) (fun _ => rfl) fun _ _ _ => rfl

theorem pinEntry_keeps (x : Selector) : Keeps s (pinEntry x s).1 := by
  refine onEntry_cases (P := fun y => Keeps s y.1) (fun _ => .refl s) fun e x _ => ?_
  iterate 2 (split; · exact .refl s)
  exact modEntry_keeps e _

theorem unpinEntry_keeps (x : Selector) : Keeps s (unpinEntry x s).1 :=
  onEntry_cases (P := fun y => Keeps s y.1) (fun _ => .refl s) fun e _ _ => modEntry_keeps e _

theorem importEntry_keeps (r : List Byte) : Keeps s (importEntry r s).1 := by
  unfold importEntry
  iterate 2 (split; · exact .refl s)
  split
  · exact .refl s
  · next h => exact (makeEntry_keeps h).trans (touch_keeps _)

theorem freeUp_keeps (e : Fin 64) : Keeps s (freeUp e s) := keeps_of_eq (fun _ => ⟨rfl, rfl, rfl⟩) rfl rfl rfl rfl rfl

theorem deleteEntry_keeps (x : Selector) : Keeps s (deleteEntry x s).1 := by
  refine onEntry_cases (P := fun y => Keeps s y.1) (fun _ => .refl s) fun e x _ => ?_
  iterate 2 (split; · exact .refl s)
  exact (freeUp_keeps e).trans serveHistory_keeps

theorem readEviction_keeps : Keeps s (readEviction s).1 := by
  unfold readEviction
  split
  · exact .refl s
  · next r rest h =>
    refine Keeps.trans ?_ serveHistory_keeps
    refine ⟨fun _ h => h, fun hle => ?_, fun h => h, fun _ => rfl, rfl, rfl, fun h => h⟩
    rw [h] at hle
    exact Nat.le_of_succ_le hle

/-! ### Commands on the cabinet -/

/-- SET_LIMITS forms every envelope with the new limits, and is refused under the lock (R165, R166). -/
theorem setLimits_sound (l : Limits) : Sound s (setLimits l s).1 := by
  unfold setLimits
  split
  · exact .refl s
  · next hlock =>
    split
    · exact .refl s
    · refine ⟨fun h => ⟨fun p => ?_, h.2.1, h.2.2⟩, fun _ p => ?_, grantsWithin_congr (fun p => ?_) rfl,
        fun h => absurd h hlock⟩
      · simpa using h.1 p
      · simp [formEnvelope]
      · simp

/-- SET_ENVELOPE forms the port's envelope with the limits (R167). -/
theorem setEnvelope_sound (port : Nat) (e : Envelope) : Sound s (setEnvelope m port e s).1 := by
  refine onOwnPort_cases (P := fun x => Sound s x.1) (.refl s) (.refl s) fun p _ => ?_
  split
  · exact .refl s
  · refine ⟨fun h => ⟨fun q => ?_, h.2.1, h.2.2⟩, fun h q => ?_, grantsWithin_congr (fun q => ?_) rfl, fun h => ⟨h, rfl⟩⟩
    all_goals
      simp only [doneClamped_state, modProt, modPort_prot, Fin.getElem_fin, modPort_getElem]
      split
    · next e => simpa [e] using h.1 p
    · exact h.1 q
    · simp [formEnvelope]
    · exact h q
    · next e => simp [e]
    · rfl

theorem lockLimits_sound : Sound s (lockLimits m s).1 := by
  unfold lockLimits
  split
  · exact .refl s
  · exact ⟨fun h => h, fun h => h, fun h => h, fun _ => ⟨rfl, rfl⟩⟩

/-- A change of the allocator but the budget in force. -/
theorem alloc_keeps (a : Allocator) (h : a.inForce = s.alloc.inForce) : Keeps s { s with alloc := a } :=
  keeps_of_eq (fun _ => ⟨rfl, rfl, rfl⟩) rfl rfl rfl rfl h

theorem setFallback_keeps (b : Budget) : Keeps s (setFallback m b s).1 := by
  unfold setFallback
  split
  · exact .refl s
  · dsimp only [doneClamped_state]
    split
    · exact (alloc_keeps { s.alloc with fallback := clampBudget b } rfl).trans (changeBudget_keeps _ _)
    · exact alloc_keeps _ rfl

theorem setStandalone_keeps (b : Budget) : Keeps s (setStandalone b s).1 := by
  unfold setStandalone
  dsimp only [doneClamped_state]
  split
  · exact (alloc_keeps { s.alloc with standalone := clampBudget b } rfl).trans (changeBudget_keeps _ _)
  · exact alloc_keeps _ rfl

theorem setRamp_keeps (t : Nat) : Keeps s (setRamp t s).1 := alloc_keeps _ rfl

theorem setPolicy_keeps (x : Nat) : Keeps s (setPolicy m x s).1 := by
  unfold setPolicy
  split
  · exact .refl s
  · split
    · exact prot_keeps _ rfl rfl rfl
    · exact .refl s

theorem closeContactor_keeps : Keeps s (closeContactor s).1 := by
  unfold closeContactor
  split
  · exact .refl s
  · exact prot_keeps _ rfl rfl rfl

theorem openContactor_keeps : Keeps s (openContactor s).1 := by
  unfold openContactor
  iterate 2 (split; · exact .refl s)
  exact prot_keeps _ rfl rfl rfl

theorem clearLockout_keeps : Keeps s (clearLockout s).1 := by
  unfold clearLockout
  split
  · split
    · exact .refl s
    · exact internalRestart_keeps.done
  iterate 2 exact .refl s

theorem readFaultLog_state : (readFaultLog s).1 = s := by
  unfold readFaultLog
  split <;> rfl

theorem clearFaultLog_keeps : Keeps s (clearFaultLog s).1 :=
  ⟨fun _ h => h, fun h => h, fun _ => Nat.zero_le _, fun _ => rfl, rfl, rfl, fun h => h⟩

theorem servicePhase_keeps (f : Nat) : Keeps s (servicePhase f s).1 := by
  unfold servicePhase
  split
  · dsimp only
    iterate 2 (split; · exact .refl s)
    exact (modPhase_keeps _ _).trans reformNeeds_keeps
  · exact .refl s

theorem clearAttention_keeps (a : Attention) : Keeps s (clearAttention m a s).1 := by
  unfold clearAttention
  split
  · exact .refl s
  · cases m <;> exact cmd_keeps _

theorem setAttentionMask_keeps (a : Attention) : Keeps s (setAttentionMask m a s).1 := by
  unfold setAttentionMask
  split
  · exact .refl s
  · cases m <;> exact cmd_keeps _

/-- A command on a port of the issuer's own keeps what its work on the port keeps. -/
theorem onOwnPort_keeps {port : Nat} {k : Fin 8 → State × Reply} (hk : ∀ p, Keeps s (k p).1) :
    Keeps s (onOwnPort m port s k).1 := onOwnPort_cases (P := fun x => Keeps s x.1) (.refl s) (.refl s) fun p _ => hk p

theorem onPort_keeps {port : Nat} {k : Fin 8 → State × Reply} (hk : ∀ p, Keeps s (k p).1) :
    Keeps s (onPort port s k).1 := onPort_cases (P := fun x => Keeps s x.1) (.refl s) hk

theorem keeps_of_state {t : State} (h : t = s) : Keeps s t := h ▸ .refl s

/-- Every command keeps the invariants. -/
theorem runCommand_sound (m : Master) (c : Command) (s : State) : Sound s (runCommand m c s).1 := by
  cases c
  case setLimits l => exact setLimits_sound l
  case setEnvelope p e => exact setEnvelope_sound p e
  case lockLimits => exact lockLimits_sound
  all_goals refine Keeps.sound ?_
  case openProgram n k => exact openProgram_keeps n k
  case writeStep n i r => exact writeStep_keeps n i r
  case closeProgram n => exact closeProgram_keeps n
  case deleteProgram n => exact deleteProgram_keeps n
  case readStep n i => exact keeps_of_state (readStep_state n i)
  case claimPort p => exact claimPort_keeps p
  case releasePort p => exact releasePort_keeps p
  case takePort p => exact takePort_keeps p
  case startRun p n i => exact onOwnPort_keeps fun _ => startRun_keeps n i
  case holdPort p => exact onOwnPort_keeps fun _ => holdCommand_keeps
  case resumePort p => exact onOwnPort_keeps fun _ => resumeCommand_keeps
  case abortRun p => exact onOwnPort_keeps fun _ => abortCommand_keeps
  case clearFault p => exact clearFault_keeps p
  case retryIdentify p => exact retryIdentify_keeps p
  case setReservedPhases p n => exact onOwnPort_keeps fun _ => reservePhases_keeps n
  case setInterlockMask p l => exact setInterlockMask_keeps p l
  case setCalibration p c o g => exact setCalibration_keeps p c o g
  case setSettleEdges p e => exact setSettleEdges_keeps p e
  case setPortDefaults p d => exact setPortDefaults_keeps p d
  case readPortStatus p => exact onPort_keeps fun _ => .refl s
  case readResult p => exact onOwnPort_keeps fun _ => readResult_keeps
  case peekResult p => exact onPort_keeps fun _ => keeps_of_state peekResult_state
  case readCapture p => exact onPort_keeps fun _ => readCapture_keeps
  case readHistory x => exact keeps_of_state (readHistory_state x)
  case pinEntry x => exact pinEntry_keeps x
  case unpinEntry x => exact unpinEntry_keeps x
  case importEntry r => exact importEntry_keeps r
  case deleteEntry x => exact deleteEntry_keeps x
  case readEviction => exact readEviction_keeps
  case setFallbackBudget b => exact setFallback_keeps b
  case setStandaloneBudget b => exact setStandalone_keeps b
  case setRampTime t => exact setRamp_keeps t
  case setLockoutPolicy x => exact setPolicy_keeps x
  case closeContactor => exact closeContactor_keeps
  case openContactor => exact openContactor_keeps
  case clearLockout => exact clearLockout_keeps
  case readCabinetStatus => exact .refl s
  case readFaultLog => exact keeps_of_state readFaultLog_state
  case clearFaultLog => exact clearFaultLog_keeps
  case setPhaseService f => exact servicePhase_keeps f
  case readAttention => exact .refl s
  case clearAttention a => exact clearAttention_keeps a
  case setAttentionMask a => exact setAttentionMask_keeps a

end

/-! ### Frames that carry a command -/

theorem takeCommand_sound (m : Master) (code : Nat) (args : List Byte) (s : State) : Sound s (takeCommand m code args s).1 := by
  unfold takeCommand
  split
  · exact runCommand_sound _ _ _
  · exact .refl s
  · exact .refl s

theorem deliver_sound {s : State} {x : State × Reply} (iss : Issuer) (code : Nat) (h : Sound s x.1) :
    Sound s (deliver iss code x) := h.trans (deliver_keeps iss code x).sound

theorem takeStationFrame_sound (bytes : List Byte) (s : State) : Sound s (takeStationFrame bytes s) := by
  have hr {c : Nat} : Sound s (frameRefused c s) := (cmd_keeps _).sound
  unfold takeStationFrame
  dsimp only
  split
  · exact .refl _
  · iterate 2 (split; · exact hr)
    exact deliver_sound _ _ (takeCommand_sound _ _ _ _)

theorem endTransaction_sound (bytes : List Byte) (s : State) : Sound s (endTransaction bytes s) := by
  unfold endTransaction
  split
  · exact .refl s
  · exact ((cmd_keeps _).trans (send_keeps _)).sound.trans (takeStationFrame_sound _ _)

theorem takeSlot_sound (frame : List Byte) (n : Nat) (s : State) : Sound s (takeSlot frame n s) := by
  unfold takeSlot
  dsimp only
  split
  · exact .refl s
  · split
    · exact (modChain_keeps _).sound
    · exact deliver_sound _ _ (takeCommand_sound _ _ _ _)

theorem takeCycle_sound (frame : List Byte) (s : State) : Sound s (takeCycle frame s) := by
  unfold takeCycle
  split
  · exact .refl s
  · dsimp only
    refine Sound.trans (Keeps.sound ?_) (takeSlot_sound _ _ _)
    refine Keeps.trans ?_ (reformLines_keeps.trans report_keeps)
    have h {g : Chain → Chain} : Keeps s (modChain g (send (.downstream frame) s)) := (send_keeps _).trans (modChain_keeps _)
    split
    · exact h.trans (changeBudget_keeps _ _)
    · exact h

theorem receiveChain_sound (frame : List Byte) (s : State) : Sound s (receiveChain frame s) := by
  unfold receiveChain
  split
  · dsimp only
    split
    · exact ((modChain_keeps _).trans (takeDiscover_keeps _)).sound
    · exact ((modChain_keeps _).trans (takeRenumber_keeps _)).sound
  · split
    · exact (modChain_keeps _).sound.trans (takeCycle_sound _ _)
    · exact discardFrame_keeps.sound

theorem startTransaction_keeps (s : State) : Keeps s (startTransaction s) := by
  unfold startTransaction
  split
  · exact .refl s
  · exact cmd_keeps _

/-! ### Rows and steps -/

/-- A command's row is the command with its reply delivered. -/
theorem exec_command {i : Instr} {iss : Issuer} {c : Command} (h : i.command = some (iss, c)) (s : State) :
    exec i s = .next (deliver iss (commandCode c) (runCommand iss.master c s)) := by
  cases i <;> simp only [Instr.command, Option.some.injEq, Prod.mk.injEq, reduceCtorEq] at h <;>
    obtain ⟨rfl, rfl⟩ := h <;> rfl

/-- Every row but power-on reset keeps the invariants. -/
theorem exec_sound {i : Instr} {s t : State} (hi : isPowerOn i = false) (h : exec i s = .next t) : Sound s t := by
  by_cases hc : ∃ iss c, i.command = some (iss, c)
  · obtain ⟨iss, c, hc⟩ := hc
    obtain rfl := Host.Outcome.next.inj ((exec_command hc s).symm.trans h)
    exact deliver_sound _ _ (runCommand_sound _ _ _)
  · cases i
    case powerOnReset => simp [isPowerOn] at hi
    case transactionEnd bytes => obtain rfl := Host.Outcome.next.inj h; exact endTransaction_sound bytes s
    case discover frame => obtain rfl := Host.Outcome.next.inj h; exact receiveChain_sound frame s
    case renumber frame => obtain rfl := Host.Outcome.next.inj h; exact receiveChain_sound frame s
    case cycleFrame frame => obtain rfl := Host.Outcome.next.inj h; exact receiveChain_sound frame s
    case chainFrameDiscard frame => obtain rfl := Host.Outcome.next.inj h; exact receiveChain_sound frame s
    case' transactionStart => have hk := startTransaction_keeps s
    case' sampleArrival p reply => have hk := receiveReply_keeps (s := s) (p := p) reply
    case' sampleStrobe p => have hk := strobe_keeps (s := s) (p := p)
    case' lateSampleReply => have hk := Keeps.refl s
    case' measurementLost => have hk {p rd due} := namedInstant_keeps (s := s) (p := p) rd due
    case' settleWindowCheck => have hk {p rd due} := namedInstant_keeps (s := s) (p := p) rd due
    case' pulseEdge => have hk {p rd due} := namedInstant_keeps (s := s) (p := p) rd due
    case' captureB => have hk {p rd due} := namedInstant_keeps (s := s) (p := p) rd due
    case' durationEnd => have hk {p rd due} := namedInstant_keeps (s := s) (p := p) rd due
    case' drainComplete => have hk {p rd due} := namedInstant_keeps (s := s) (p := p) rd due
    case' rampComplete => have hk {p rd due} := namedInstant_keeps (s := s) (p := p) rd due
    case' holdDrainComplete => have hk {p rd due} := namedInstant_keeps (s := s) (p := p) rd due
    case' endingComplete => have hk {p rd due} := namedInstant_keeps (s := s) (p := p) rd due
    case' trip => have hk {p rd due} := namedInstant_keeps (s := s) (p := p) rd due
    case' thermalSwitch p => have hk := openThermal_keeps (s := s) (p := p)
    case' thermalSwitchClose p =>
      have hk : Keeps s (closeThermal p s) := modPort_keeps p (fun q => { q with prot := { q.prot with thermalOpen := false } }) (by intros; rfl)
    case' allocationTick => have hk := tickRequests_keeps (s := s)
    case' presenceClose p => have hk := closePresence_keeps (s := s) (p := p)
    case' presenceOpen p => have hk := openPresence_keeps (s := s) (p := p)
    case' idReply p x r => have hk := receiveId_keeps (s := s) (p := p) x r
    case' idAttemptExpiry p => have hk := expireAttempt_keeps (s := s) (p := p)
    case' doorOpen => have hk := openDoor_keeps (s := s)
    case' doorClose => have hk := closeDoor_keeps (s := s)
    case' phaseFault f high =>
      have hk : Keeps s (if high then riseFault f s else fallFault f s) := by
        split
        · exact riseFault_keeps
        · exact modPhase_keeps f _
    case' activeLineFall f => have hk := fallActive_keeps (s := s) (f := f)
    case' ackWatchExpiry f => have hk := expireWatch_keeps (s := s) (f := f)
    case' activeLineRise f => have hk := riseActive_keeps (s := s) (f := f)
    case' feedbackClose => have hk := closeFeedback_keeps (s := s)
    case' feedbackOpen => have hk := openFeedback_keeps (s := s)
    case' closingWatchExpiry => have hk := expireClosing_keeps (s := s)
    case' openingWatchExpiry => have hk := expireOpening_keeps (s := s)
    case' cooldownExpiry => have hk := endCooldown_keeps (s := s)
    case' silenceTimeout => have hk := expireSilence_keeps (s := s)
    case' answerFrame frame => have hk := takeAnswer_keeps (s := s) frame
    case' answerWatchExpiry => have hk := expireAnswer_keeps (s := s)
    case' upstreamFrame frame => have hk := takeUpstream_keeps (s := s) frame
    case' upstreamWaitExpiry => have hk := expireUplink_keeps (s := s)
    all_goals first
      | exact absurd ⟨_, _, rfl⟩ hc
      | (obtain rfl := Host.Outcome.next.inj h; exact hk.sound)

/-- The blocks at power-on reset meet the invariants. -/
theorem blocksAtReset_invariants (lines : InputLines) : QueuesBounded (State.blocksAtReset lines) ∧
    EnvelopesFormed (State.blocksAtReset lines) ∧ GrantsWithin (State.blocksAtReset lines) := by
  refine ⟨⟨fun p => ?_, Nat.zero_le _, Nat.zero_le _⟩, fun p => ?_, grantsWithin_of_none fun p => ?_⟩
  · simp [State.blocksAtReset, Port.atReset]
  · simp only [State.blocksAtReset, Port.atReset, Protection.atReset, Fin.getElem_fin, Vector.getElem_ofFn]
    decide
  · simp [State.blocksAtReset, Port.atReset]

/-- What the levels of the lines bring at a power-on reset keeps the registers (R93, R141, R164). -/
theorem powerOn_keeps (lines : InputLines) (s : State) : Keeps (State.blocksAtReset lines) (powerOn lines s) := by
  unfold powerOn
  dsimp only
  refine Keeps.trans ?_ presenceDetection_keeps
  have h : Keeps (State.blocksAtReset lines) { State.blocksAtReset lines with
      instants := s.instants
      pending := s.pending
      pool := { (State.blocksAtReset lines).pool with
        phases := (State.blocksAtReset lines).pool.phases.map fun ph => if ph.faultHigh then outOfService ph else ph } } :=
    keeps_of_eq (fun _ => ⟨rfl, rfl, rfl⟩) rfl rfl rfl rfl rfl
  split
  · exact h.trans (lockoutCause_keeps _ _)
  · exact h

/-- Every step keeps the invariants, and but for power-on reset the limits under the lock. -/
theorem step_invariants {s t : State} (h : step s = .next t) : (QueuesBounded s → QueuesBounded t) ∧
    (EnvelopesFormed s → EnvelopesFormed t) ∧ (GrantsWithin s → GrantsWithin t) ∧
    ((∀ i rest, s.pending = i :: rest → isPowerOn i = false) → s.prot.locked = true →
      t.prot.locked = true ∧ t.prot.limits = s.prot.limits) := by
  unfold step at h
  split at h
  · obtain rfl := Host.Outcome.next.inj h
    have hs := (tick_keeps (s := s)).sound
    exact ⟨hs.queues, hs.envelopes, hs.grants, fun _ => hs.lock⟩
  · next i rest hp =>
    by_cases hi : isPowerOn i = true
    · cases i <;> simp only [isPowerOn, Bool.false_eq_true] at hi
      obtain rfl := Host.Outcome.next.inj h
      have hk := powerOn_keeps ‹_› { s with pending := rest }
      obtain ⟨hq, he, hg⟩ := blocksAtReset_invariants ‹_›
      exact ⟨fun _ => hk.queuesBounded hq, fun _ => hk.envelopesFormed he, fun _ => hk.grants hg,
        fun hno => absurd (hno _ _ hp) (by simp [isPowerOn])⟩
    · have hs := exec_sound (Bool.eq_false_iff.mpr hi) h
      exact ⟨hs.queues, hs.envelopes, hs.grants, fun _ => hs.lock⟩

/-- Settles O43: a round establishes the invariant, and every change of a line or of the budget runs one. -/
theorem grantsKept : Obligations.GrantsKept := fun _ _ hs h => (step_invariants h).2.2.1 hs

/-- Settles O48: the queues push with their bounds, and envelopes change by being formed. -/
theorem boundsKept : Obligations.BoundsKept :=
  ⟨fun _ _ hs h => (step_invariants h).2.1 hs, fun _ _ hs h => (step_invariants h).1 hs⟩

/-! ### SET_LIMITS and LOCK_LIMITS (R165, R166) -/

theorem limitsInRange_iff (l : Limits) : limitsInRange l = false ↔ 1000000 < l.maxVoltage ∨ 320000 < l.maxCharge ∨
    320000 < l.maxDischarge ∨ l.maxTemp < -400 ∨ 1500 < l.maxTemp ∨ 320000 < l.maxPower := by
  simp only [limitsInRange, Bool.and_eq_false_iff, decide_eq_false_iff_not]
  omega

/-- Settles O47: the checks of SET_LIMITS in their order, LOCK_LIMITS by its issuer, and the lock over every step. -/
theorem limitLockHolds : Obligations.LimitLockHolds := by
  refine ⟨⟨fun iss l s => ?_, fun _ _ => rfl, fun _ => rfl⟩, fun s t hl hno h => (step_invariants h).2.2.2 hno hl⟩
  rw [exec_command (c := .setLimits l) rfl]
  simp only [runCommand, setLimits, ← limitsInRange_iff, Bool.not_eq_true]
  rfl

end Sys2Proof.Bounded
end

section
/-! PROOFS. The updates of the state read at an index of the port, header, entry or phase itself. -/

open Sys2Proof Sys2Proof.Machine

namespace Sys2Proof.Indexing

section
variable (s : State)

theorem modPort_port (p : Fin 8) (g : Port → Port) (q : Fin 8) :
    (modPort p g s).ports[q] = if q = p then g s.ports[p] else s.ports[q] := by
  simp only [Fin.getElem_fin, modPort_getElem, Fin.val_inj]

theorem modPort_self (p : Fin 8) (g : Port → Port) : (modPort p g s).ports[p] = g s.ports[p] := by
  rw [modPort_port, if_pos rfl]

theorem modPort_other {p q : Fin 8} (h : q ≠ p) (g : Port → Port) : (modPort p g s).ports[q] = s.ports[q] := by
  rw [modPort_port, if_neg h]

theorem modHeader_header (n : Fin 32) (g : Header → Header) (k : Fin 32) :
    (modHeader n g s).headers[k] = if k = n then g s.headers[n] else s.headers[k] := by
  simp only [Fin.getElem_fin, modHeader_getElem, Fin.val_inj]

theorem releaseProgram_header (n : Option (Fin 32)) (k : Fin 32) : (releaseProgram n s).headers[k] =
    if n = some k then { s.headers[k] with useCount := s.headers[k].useCount - 1 } else s.headers[k] := by
  have h : n.map Fin.val = some k.val ↔ n = some k := by
    cases n with
    | none => simp
    | some m => simp [Fin.val_inj]
  simp only [Fin.getElem_fin, releaseProgram_getElem, h]

end

end Sys2Proof.Indexing
end

section
/-! PROOFS. The use counts: what an operation leaves of the binding of ports to programs and of the identifications, the one port
whose binding an operation has under way, and the operations that bind, unbind and identify. -/

open Sys2Proof Sys2Proof.Machine Sys2Proof.Indexing Sys2Proof.Bounded

namespace Sys2Proof.UseCounts

/-! ### Counting the ports bound to a program -/

theorem length_filter_eq_sum {α : Type} (f : α → Bool) (l : List α) :
    (l.filter f).length = (l.map fun x => if f x then 1 else 0).sum := by
  induction l with
  | nil => rfl
  | cons x l ih =>
    rw [List.filter_cons, List.map_cons, List.sum_cons, ← ih]
    split <;> simp [Nat.add_comm]

/-- 1 for a port that is bound to the program. -/
def bindsTo (n : Fin 32) (q : Port) : Nat := if q.run.program = some n then 1 else 0

theorem boundCount_eq_sum (n : Fin 32) (s : State) : boundCount n s = ∑ p : Fin 8, bindsTo n s.ports[p] := by
  rw [boundCount, length_filter_eq_sum, Fin.sum_univ_def]
  simp [bindsTo]

/-- An update of one port moves the count by that port alone. -/
theorem boundCount_modPort (n : Fin 32) (p : Fin 8) (g : Port → Port) (s : State) :
    boundCount n (modPort p g s) + bindsTo n s.ports[p] = boundCount n s + bindsTo n (g s.ports[p]) := by
  simp only [boundCount_eq_sum]
  rw [← Finset.add_sum_erase _ _ (Finset.mem_univ p), ← Finset.add_sum_erase _ (fun q => bindsTo n s.ports[q]) (Finset.mem_univ p)]
  have hrest : ∑ q ∈ Finset.univ.erase p, bindsTo n (modPort p g s).ports[q] = ∑ q ∈ Finset.univ.erase p, bindsTo n s.ports[q] := by
    refine Finset.sum_congr rfl fun q hq => ?_
    have hne : q.val ≠ p.val := fun e => Finset.ne_of_mem_erase hq (Fin.val_inj.mp e)
    simp [modPort_getElem, hne]
  have hp : (modPort p g s).ports[p] = g s.ports[p] := by simp [modPort_getElem]
  rw [hrest, hp]
  omega

theorem boundCount_congr {n : Fin 32} {s t : State} (h : ∀ q : Fin 8, t.ports[q].run.program = s.ports[q].run.program) :
    boundCount n t = boundCount n s := by
  simp only [boundCount, h]

/-! ### What an operation leaves -/

/-- What the invariant reads of a port. -/
def booked (q : Port) : Option (Fin 32) × Bool × Bool × Bool :=
  (q.run.program, isBound q.run.state, decide (q.run.state = .identifying), q.ident.attempt.isSome)

/-- What the invariant reads of a header. -/
def counted (h : Header) : HeaderState × Nat := (h.state, h.useCount)

/-- The operation touches neither a binding nor an identification. -/
structure Rests (s t : State) : Prop where
  ports : ∀ q : Fin 8, booked t.ports[q] = booked s.ports[q]
  headers : ∀ n : Fin 32, counted t.headers[n] = counted s.headers[n]
  waiting : t.history.waiting = s.history.waiting

theorem Rests.refl (s : State) : Rests s s := ⟨fun _ => rfl, fun _ => rfl, rfl⟩

theorem Rests.trans {s t u : State} (x : Rests s t) (y : Rests t u) : Rests s u :=
  ⟨fun q => (y.ports q).trans (x.ports q), fun n => (y.headers n).trans (x.headers n), y.waiting.trans x.waiting⟩

theorem Rests.foldl {α : Type} (f : State → α → State) (hf : ∀ s x, Rests s (f s x)) :
    ∀ (l : List α) (s : State), Rests s (l.foldl f s)
  | [], s => .refl s
  | x :: l, s => (hf s x).trans (Rests.foldl f hf l (f s x))

theorem forPorts_rests (g : Fin 8 → State → State) (hg : ∀ p s, Rests s (g p s)) (s : State) : Rests s (forPorts g s) :=
  .foldl _ (fun s p => hg p s) _ s

section
variable {s t : State}

theorem Rests.program (h : Rests s t) (q : Fin 8) : t.ports[q].run.program = s.ports[q].run.program :=
  congrArg (·.1) (h.ports q)

theorem Rests.bound (h : Rests s t) (q : Fin 8) : isBound t.ports[q].run.state = isBound s.ports[q].run.state :=
  congrArg (·.2.1) (h.ports q)

theorem Rests.identifying (h : Rests s t) (q : Fin 8) :
    t.ports[q].run.state = .identifying ↔ s.ports[q].run.state = .identifying := by
  have hi := congrArg (·.2.2.1) (h.ports q)
  simpa [booked] using hi

theorem Rests.attempt (h : Rests s t) (q : Fin 8) : t.ports[q].ident.attempt.isSome = s.ports[q].ident.attempt.isSome :=
  congrArg (·.2.2.2) (h.ports q)

theorem Rests.useCount (h : Rests s t) (n : Fin 32) : t.headers[n].useCount = s.headers[n].useCount :=
  congrArg Prod.snd (h.headers n)

theorem Rests.headerState (h : Rests s t) (n : Fin 32) : t.headers[n].state = s.headers[n].state :=
  congrArg Prod.fst (h.headers n)

theorem Rests.exact (h : Rests s t) (hs : UseCountsExact s) : UseCountsExact t := by
  obtain ⟨hcount, hready, hbound, hattempt, hwaiting, hnodup⟩ := hs
  refine ⟨fun n => ?_, fun n hn => ?_, fun q => ?_, fun q hq => ?_, fun q hq => ?_, by rw [h.waiting]; exact hnodup⟩
  · rw [h.useCount, boundCount_congr h.program, hcount n]
  · rw [h.headerState] at hn
    rw [h.useCount, hready n hn]
  · rw [h.bound, h.program, hbound q]
  · rw [h.attempt] at hq
    rw [h.identifying, h.waiting]
    exact hattempt q hq
  · rw [h.waiting] at hq
    rw [h.identifying]
    exact hwaiting q hq

/-! ### The one port under way -/

/-- The invariant but for whether port `p`'s state suits its binding; the port does not identify. -/
structure OpenAt (p : Fin 8) (s : State) : Prop where
  count : ∀ n : Fin 32, s.headers[n].useCount = boundCount n s
  ready : ∀ n : Fin 32, s.headers[n].state ≠ .ready → s.headers[n].useCount = 0
  bound : ∀ q : Fin 8, q ≠ p → isBound s.ports[q].run.state = s.ports[q].run.program.isSome
  attempt : ∀ q : Fin 8, q ≠ p → s.ports[q].ident.attempt.isSome →
    s.ports[q].run.state = .identifying ∧ q ∉ s.history.waiting
  own : s.ports[p].ident.attempt.isSome = false
  absent : p ∉ s.history.waiting
  waiting : ∀ q ∈ s.history.waiting, s.ports[q].run.state = .identifying
  nodup : s.history.waiting.Nodup

variable {p : Fin 8}

/-- A port that does not identify can be taken up. -/
theorem openAt_of_exact (hs : UseCountsExact s) (hp : s.ports[p].run.state ≠ .identifying) : OpenAt p s := by
  obtain ⟨hcount, hready, hbound, hattempt, hwaiting, hnodup⟩ := hs
  refine ⟨hcount, hready, fun q _ => hbound q, fun q _ => hattempt q, ?_, fun h => hp (hwaiting p h), hwaiting, hnodup⟩
  exact Bool.eq_false_iff.mpr fun h => hp (hattempt p h).1

/-- A port in a bound state does not identify. -/
theorem openAt_of_bound (hs : UseCountsExact s) (hp : isBound s.ports[p].run.state = true) : OpenAt p s :=
  openAt_of_exact hs fun h => by rw [h] at hp; exact absurd hp (by decide)

/-- The port's state suits its binding again. -/
theorem OpenAt.close (h : OpenAt p s) (hp : isBound s.ports[p].run.state = s.ports[p].run.program.isSome) :
    UseCountsExact s := by
  refine ⟨h.count, h.ready, fun q => ?_, fun q hq => ?_, h.waiting, h.nodup⟩
  · by_cases e : q = p
    · exact e ▸ hp
    · exact h.bound q e
  · by_cases e : q = p
    · rw [e, h.own] at hq
      exact absurd hq Bool.false_ne_true
    · exact h.attempt q e hq

theorem OpenAt.rests (h : OpenAt p s) (x : Rests s t) : OpenAt p t := by
  refine ⟨fun n => ?_, fun n hn => ?_, fun q hq => ?_, fun q hq ha => ?_, ?_, ?_, fun q hq => ?_, by rw [x.waiting]; exact h.nodup⟩
  · rw [x.useCount, boundCount_congr x.program, h.count n]
  · rw [x.headerState] at hn
    rw [x.useCount, h.ready n hn]
  · rw [x.bound, x.program, h.bound q hq]
  · rw [x.attempt] at ha
    rw [x.identifying, x.waiting]
    exact h.attempt q hq ha
  · rw [x.attempt, h.own]
  · rw [x.waiting]; exact h.absent
  · rw [x.waiting] at hq
    rw [x.identifying]
    exact h.waiting q hq

/-- An update of the port under way; the counts must follow its program. -/
theorem OpenAt.modPort_of {g : Port → Port} (h : OpenAt p s) (ha : (g s.ports[p]).ident.attempt.isSome = false)
    (hh : ∀ n : Fin 32, t.headers[n].useCount + bindsTo n s.ports[p] = s.headers[n].useCount + bindsTo n (g s.ports[p]))
    (hr : ∀ n : Fin 32, t.headers[n].state ≠ .ready → t.headers[n].useCount = 0)
    (hp : t.ports = (modPort p g s).ports) (hw : t.history = s.history) : OpenAt p t := by
  have hself : t.ports[p] = g s.ports[p] := by simp [hp, modPort_getElem]
  have hother : ∀ q : Fin 8, q ≠ p → t.ports[q] = s.ports[q] := by
    intro q hq
    simp [hp, modPort_getElem, mt Fin.val_inj.mp hq]
  refine ⟨fun n => ?_, hr, fun q hq => ?_, fun q hq => ?_, ?_, ?_, fun q hq => ?_, ?_⟩
  · have hb : boundCount n t = boundCount n (modPort p g s) := boundCount_congr fun q => by rw [hp]
    have h1 := hh n
    have h2 := boundCount_modPort n p g s
    have h3 := h.count n
    rw [hb]
    omega
  · rw [hother q hq]; exact h.bound q hq
  · rw [hother q hq, hw]; exact h.attempt q hq
  · rw [hself]; exact ha
  · rw [hw]; exact h.absent
  · rw [hw] at hq
    rw [hother q fun e => h.absent (e ▸ hq)]
    exact h.waiting q hq
  · rw [hw]; exact h.nodup

/-- An update that keeps the port's program. -/
theorem OpenAt.modPort {g : Port → Port} (h : OpenAt p s) (hprog : (g s.ports[p]).run.program = s.ports[p].run.program)
    (ha : (g s.ports[p]).ident.attempt.isSome = false) : OpenAt p (modPort p g s) :=
  h.modPort_of ha (fun n => by rw [bindsTo, bindsTo, hprog]; rfl) h.ready rfl rfl

/-- An update of the run context that keeps its program. -/
theorem OpenAt.modRun {g : RunContext → RunContext} (h : OpenAt p s)
    (hprog : (g s.ports[p].run).program = s.ports[p].run.program) : OpenAt p (modRun p g s) := OpenAt.modPort h hprog h.own

/-- The port is unbound: its program's count falls with it (R47, R49). -/
theorem OpenAt.unbind {g : RunContext → RunContext} (h : OpenAt p s) (hg : ∀ r, (g r).program = none) :
    OpenAt p (Machine.modRun p g (releaseProgram s.ports[p].run.program s)) := by
  have hcount : ∀ n : Fin 32, (releaseProgram s.ports[p].run.program s).headers[n].useCount + bindsTo n s.ports[p] =
      s.headers[n].useCount := by
    intro n
    have hle : bindsTo n s.ports[p] ≤ s.headers[n].useCount := by
      rw [h.count n, boundCount_eq_sum]
      exact Finset.single_le_sum (f := fun q : Fin 8 => bindsTo n s.ports[q]) (fun _ _ => Nat.zero_le _) (Finset.mem_univ p)
    rw [releaseProgram_header]
    by_cases e : s.ports[p].run.program = some n
    · have hb : bindsTo n s.ports[p] = 1 := if_pos e
      rw [hb] at hle ⊢
      rw [if_pos e]
      exact Nat.sub_add_cancel hle
    · have hb : bindsTo n s.ports[p] = 0 := if_neg e
      rw [hb, if_neg e, Nat.add_zero]
  refine OpenAt.modPort_of (g := fun q => { q with run := g q.run }) h h.own (fun n => ?_) (fun n hn => ?_) ?_ ?_
  · have hz : bindsTo n { s.ports[p] with run := g s.ports[p].run } = 0 := by simp [bindsTo, hg]
    rw [hz]
    exact hcount n
  · have hst : s.headers[n].state ≠ .ready := by
      have hc := congrArg Prod.fst (releaseProgram_content (s := s) s.ports[p].run.program n.val n.2)
      exact fun e => hn (hc.trans e)
    have h0 := h.ready n hst
    have hc := hcount n
    show (releaseProgram s.ports[p].run.program s).headers[n].useCount = 0
    omega
  · simp [Machine.modRun, Machine.modPort]
  · simp [Machine.modRun, Machine.modPort]

/-- The port is bound to a READY program: its count rises with it (R30). -/
theorem OpenAt.bind {g : Port → Port} {n : Fin 32} (h : OpenAt p s) (hnone : s.ports[p].run.program = none)
    (hr : s.headers[n].state = .ready) (hprog : (g s.ports[p]).run.program = some n)
    (ha : (g s.ports[p]).ident.attempt = s.ports[p].ident.attempt) :
    OpenAt p (Machine.modPort p g (modHeader n (fun x => { x with useCount := x.useCount + 1 }) s)) := by
  refine OpenAt.modPort_of (g := g) h (by rw [ha]; exact h.own) (fun k => ?_) (fun k hk => ?_) rfl rfl
  · rw [bindsTo, bindsTo, hnone, hprog, modPort_headers, modHeader_header]
    by_cases e : k = n
    · rw [e]; simp
    · simp [e, Ne.symm e]
  · rw [modPort_headers, modHeader_header] at hk ⊢
    split at hk
    · exact absurd hr hk
    · next e => rw [if_neg e]; exact h.ready k hk

end

end Sys2Proof.UseCounts
end

section
/-! PROOFS. The use counts over the operations, the commands and the rows: what leaves every binding alone, what binds and unbinds,
what identifies, and so every step. -/

open Sys2Proof Sys2Proof.Machine Sys2Proof.Indexing Sys2Proof.Bounded

namespace Sys2Proof.UseCounts

section
variable {s : State} {p : Fin 8}

/-! ### The updates of the state -/

theorem rests_of_eq {t : State} (hp : ∀ q : Fin 8, booked t.ports[q] = booked s.ports[q]) (hh : t.headers = s.headers)
    (hw : t.history.waiting = s.history.waiting) : Rests s t := ⟨hp, fun n => by rw [hh], hw⟩

theorem modPort_rests {g : Port → Port} (h : booked (g s.ports[p]) = booked s.ports[p]) : Rests s (modPort p g s) := by
  refine rests_of_eq (fun q => ?_) rfl rfl
  rw [modPort_port]
  split
  · next e => rw [h, e]
  · rfl

/-- An update of the run context that keeps program and state. -/
theorem modRun_rests {g : RunContext → RunContext} (h : (g s.ports[p].run).program = s.ports[p].run.program ∧
    (g s.ports[p].run).state = s.ports[p].run.state) : Rests s (modRun p g s) :=
  modPort_rests (by simp only [booked, h])

/-- A change from one bound state to another. -/
theorem modRun_rests_of_bound {g : RunContext → RunContext} (h : (g s.ports[p].run).program = s.ports[p].run.program)
    (hs : isBound s.ports[p].run.state = true) (ht : isBound (g s.ports[p].run).state = true) : Rests s (modRun p g s) := by
  have hne {x : PortState} (hx : isBound x = true) : decide (x = .identifying) = false :=
    decide_eq_false fun e => by rw [e] at hx; exact absurd hx (by decide)
  exact modPort_rests (by simp only [booked, h, hs, ht, hne hs, hne ht])

theorem modIntake_rests (g : Intake → Intake) : Rests s (modIntake p g s) := modPort_rests rfl
theorem modProt_rests (g : PortProtection → PortProtection) : Rests s (modProt p g s) := modPort_rests rfl

/-- An update of the identification that keeps its attempt. -/
theorem modIdent_rests {g : Ident → Ident} (h : (g s.ports[p].ident).attempt.isSome = s.ports[p].ident.attempt.isSome) :
    Rests s (modIdent p g s) := modPort_rests (by simp only [booked, h])

theorem poolWork_rests {t : State} (h : PoolWork s t) : Rests s t := by
  have f {α : Type} (g : Port → α) (q : Fin 8) := congrArg g (h.port q q.2)
  exact rests_of_eq (fun q => f booked q) h.headers (by rw [h.history])

theorem raisePort_rests (f : PortFlag) (q : Fin 8) : Rests s (raisePort f q s) := rests_of_eq (fun _ => rfl) rfl rfl
theorem raiseCabinet_rests (f : CabinetFlag) : Rests s (raiseCabinet f s) := rests_of_eq (fun _ => rfl) rfl rfl
theorem modChain_rests (g : Chain → Chain) : Rests s (modChain g s) := rests_of_eq (fun _ => rfl) rfl rfl
theorem modPhase_rests (f : Fin 16) (g : Phase → Phase) : Rests s (modPhase f g s) := rests_of_eq (fun _ => rfl) rfl rfl
theorem send_rests (x : Sent) : Rests s (send x s) := rests_of_eq (fun _ => rfl) rfl rfl
theorem instants_rests (n : Nat) : Rests s { s with instants := n } := rests_of_eq (fun _ => rfl) rfl rfl
theorem cmd_rests (x : CommandUnit) : Rests s { s with cmd := x } := rests_of_eq (fun _ => rfl) rfl rfl
theorem prot_rests (x : Protection) : Rests s { s with prot := x } := rests_of_eq (fun _ => rfl) rfl rfl
theorem alloc_rests (x : Allocator) : Rests s { s with alloc := x } := rests_of_eq (fun _ => rfl) rfl rfl
theorem modEntry_rests (e : Fin 64) (g : Option Entry → Option Entry) : Rests s (modEntry e g s) :=
  rests_of_eq (fun _ => rfl) rfl rfl
theorem touch_rests (e : Fin 64) : Rests s (touch e s) := rests_of_eq (fun _ => rfl) rfl rfl

theorem round_rests : Rests s (round s) := by
  refine rests_of_eq (fun q => ?_) rfl rfl
  simp only [Fin.getElem_fin, round_getElem]
  rfl

theorem setBasis_rests (b : Option Basis) : Rests s (setBasis p b s) := by
  rw [setBasis_eq]
  exact (modPort_rests rfl).trans round_rests

theorem tickRequests_rests : Rests s (tickRequests s) := by
  refine Rests.trans (t := { s with ports := s.ports.map (formRequest s.prot.limits.maxPower) })
    (rests_of_eq (fun q => ?_) rfl rfl) round_rests
  simp [booked, formRequest]

theorem changeBudget_rests (src : BudgetSource) (b : Budget) : Rests s (changeBudget src b s) := by
  unfold changeBudget
  dsimp only
  split
  · refine Rests.trans ?_ round_rests
    exact rests_of_eq (fun _ => rfl) rfl rfl
  · split
    · exact (alloc_rests _).trans round_rests
    · exact .refl s

theorem fold_rests : Rests s (fold p s) :=
  rests_of_eq (fun q => by simp [booked]) (by simp) (by simp)

theorem queueResult_rests (r : EndReason) : Rests s (queueResult p r s) := by
  refine Rests.trans (modPort_rests ?_) (raisePort_rests _ _)
  simp [booked]

theorem writeFault_rests (c : FaultCode) : Rests s (writeFault p c s) := modPort_rests (by simp [booked])

theorem command_rests (c : Int) : Rests s (command p c s) :=
  (modRun_rests ⟨rfl, rfl⟩).trans (poolWork_rests (command_poolWork s p c))

/-! ### The sequencer -/

theorem restartSettle_rests : Rests s (restartSettle p s) := modIntake_rests _
theorem restart_rests : Rests s (restartSettle p (discardCapture p s)) := (modIntake_rests _).trans (modIntake_rests _)
theorem startDrain_rests : Rests s (startDrain p s) := modRun_rests ⟨rfl, rfl⟩
theorem leaveQueue_rests : Rests s (leaveQueue p s) := poolWork_rests (leaveQueue_poolWork p s)
theorem releaseUnreserved_rests : Rests s (releaseUnreserved p s) := poolWork_rests (releaseUnreserved_poolWork p s)
theorem disablePort_rests : Rests s (disablePort p s) := poolWork_rests (disablePort_poolWork p s)
theorem refreshEnables_rests : Rests s (refreshEnables p s) := poolWork_rests (refreshEnables_poolWork p s)
theorem serveQueue_rests : Rests s (serveQueue s) := poolWork_rests (serveQueue_poolWork s)
theorem reformNeeds_rests : Rests s (reformNeeds s) := poolWork_rests (reformNeeds_poolWork s)

theorem acquire_rests (hs : isBound s.ports[p].run.state = true) : Rests s (acquire p s) := by
  have h {g : Port → Port} (hp : (g s.ports[p]).run.program = s.ports[p].run.program)
      (ht : (g s.ports[p]).run.state = .transfer) (hi : (g s.ports[p]).ident = s.ports[p].ident) : Rests s (modPort p g s) := by
    refine modPort_rests ?_
    have hne : decide (s.ports[p].run.state = .identifying) = false :=
      decide_eq_false fun e => by rw [e] at hs; exact absurd hs (by decide)
    simp only [booked, hp, ht, hi, hs, hne]
    rfl
  unfold acquire
  dsimp only
  split
  · exact (h rfl rfl rfl).trans <| (poolWork_rests (meetNeed_poolWork p _)).trans
      (poolWork_rests (releaseAndServe_poolWork p _ _))
  · split
    · exact (h rfl rfl rfl).trans <| (poolWork_rests (takePhases_poolWork p _ _)).trans
        (poolWork_rests (meetNeed_poolWork p _))
    · refine Rests.trans ?_ serveQueue_rests
      refine Rests.trans ?_ (raisePort_rests _ _)
      exact (h rfl rfl rfl).trans <| (poolWork_rests (releaseBeyond_poolWork p _ _)).trans
        (poolWork_rests (PoolWork.ofPool _ _))

theorem enterHeld_rests (hs : isBound s.ports[p].run.state = true) : Rests s (enterHeld p s) :=
  (modRun_rests_of_bound rfl hs rfl).trans <| restart_rests.trans <| (setBasis_rests _).trans <| leaveQueue_rests.trans <|
    disablePort_rests.trans <| releaseUnreserved_rests.trans <| fold_rests.trans (raisePort_rests _ _)

theorem addCauses_rests (c : HoldCauses) : Rests s (modRun p (addCauses c) s) := modRun_rests ⟨rfl, rfl⟩

theorem holdPort_rests (c : HoldCauses) : Rests s (holdPort c p s) := by
  have hc := addCauses_rests (s := s) (p := p) c
  unfold holdPort
  dsimp only
  split
  · next hst =>
    have hb : isBound (modRun p (addCauses c) s).ports[p].run.state = true := by
      rw [hc.bound]
      rcases hst with h | h <;> rw [h] <;> rfl
    split
    · exact hc.trans (enterHeld_rests hb)
    · exact hc.trans <| (modRun_rests_of_bound rfl hb rfl).trans <| startDrain_rests.trans restart_rests
  · exact hc

theorem handInterlock_rests (x y : Bool) : Rests s (handInterlock x y p s) := by
  unfold handInterlock
  split
  · split
    · exact holdPort_rests _
    · exact .refl s
  · split
    · exact modRun_rests ⟨rfl, rfl⟩
    · exact .refl s

theorem completeDrain_rests (hs : isBound s.ports[p].run.state = true) : Rests s (completeDrain p s) := by
  unfold completeDrain
  dsimp only
  split
  · refine Rests.trans (t := setBasis p _ _) ?_ (acquire_rests ?_)
    · exact (modRun_rests ⟨rfl, rfl⟩).trans <| (modRun_rests ⟨rfl, rfl⟩).trans (setBasis_rests _)
    · rw [(setBasis_rests _).bound, (modRun_rests ⟨rfl, rfl⟩).bound, (modRun_rests ⟨rfl, rfl⟩).bound, hs]
  · refine Rests.trans (t := releaseUnreserved p _) ?_ (modRun_rests_of_bound rfl ?_ rfl)
    · exact (modRun_rests ⟨rfl, rfl⟩).trans <| (setBasis_rests _).trans releaseUnreserved_rests
    · rw [releaseUnreserved_rests.bound, (setBasis_rests _).bound, (modRun_rests ⟨rfl, rfl⟩).bound, hs]

/-! ### Ending a run -/

/-- ENDING completes: the port is unbound and READY (R47). -/
theorem completeEnding_exact (h : OpenAt p s) : UseCountsExact (completeEnding p s) := by
  refine (disablePort_rests.trans (raisePort_rests .runEnd p)).exact ?_
  refine (OpenAt.unbind (g := fun r => { r with program := none, outcome := r.endingAs, state := .ready }) ?_ fun _ => rfl).close ?_
  · exact h.rests <| (modRun_rests ⟨rfl, rfl⟩).trans <| (setBasis_rests none).trans <| releaseUnreserved_rests.trans fold_rests
  · simp only [modRun, modPort_self]
    rfl

/-- ENDING is entered from a run (R47). -/
theorem enterEnding_exact (h : OpenAt p s) (hp : s.ports[p].run.program.isSome = true) (o : RunOutcome) :
    UseCountsExact (enterEnding o p s) := by
  have h1 : OpenAt p (modRun p (fun r => { r with state := .ending, causes := .none, endingAs := o }) s) := h.modRun rfl
  have hr := restart_rests (p := p)
    (s := modRun p (fun r => { r with state := .ending, causes := .none, endingAs := o }) s)
  unfold enterEnding
  dsimp only
  split
  · exact completeEnding_exact (h1.rests hr)
  · refine (hr.trans startDrain_rests).exact (h1.close ?_)
    simp only [modRun, modPort_self, hp]
    rfl

/-! ### Entering a step -/

theorem enterTransfer_exact (h : OpenAt p s) (hp : s.ports[p].run.program.isSome = true) (i : Nat) (r : StepRecord) :
    UseCountsExact (enterTransfer p i r s) := by
  unfold enterTransfer
  dsimp only
  set u := modPort p _ s with hu
  have h1 : OpenAt p u := h.modPort rfl h.own
  have hb : isBound u.ports[p].run.state = true := by rw [hu, modPort_self]; rfl
  have hx : UseCountsExact u := h1.close (by rw [hb, hu, modPort_self]; exact hp.symm)
  have hr : Rests u (refreshEnables p (restartSettle p (discardCapture p u))) := restart_rests.trans refreshEnables_rests
  split
  · exact (hr.trans (completeDrain_rests (by rw [hr.bound]; exact hb))).exact hx
  · exact (hr.trans startDrain_rests).exact hx

theorem takeLoop_rests (n : Fin 32) (i : Nat) (r : StepRecord) : Rests s (takeLoop p n i r s).2 := by
  unfold takeLoop
  dsimp only
  split
  · exact (modRun_rests ⟨rfl, rfl⟩).trans <| (modPort_rests rfl).trans fold_rests
  · exact modRun_rests ⟨rfl, rfl⟩

/-- A run that enters an index stays bound or ends (R31). -/
theorem enterIndex_exact : ∀ (fuel i : Nat) (s : State), OpenAt p s → s.ports[p].run.program.isSome = true →
    UseCountsExact (enterIndex p fuel i s)
  | 0, _, _, h, hp => enterEnding_exact h hp _
  | fuel + 1, i, s, h, hp => by
    unfold enterIndex
    split
    · exact enterEnding_exact h hp _
    · split
      · exact enterEnding_exact h hp _
      · split
        · exact enterEnding_exact h hp _
        · have hr {n r} := takeLoop_rests (s := s) (p := p) n i r
          exact enterIndex_exact fuel _ _ (h.rests hr) (by rw [hr.program]; exact hp)
        · exact enterTransfer_exact h hp _ _

/-! ### Faults and step ends -/

/-- A run ends by the fault path: the port is unbound and FAULTED (R49). -/
theorem faultBound_exact (h : OpenAt p s) (c : FaultCode) : UseCountsExact (faultBound p c s) := by
  have h0 : Rests s (writeFault p c (disablePort p s)) := disablePort_rests.trans (writeFault_rests c)
  unfold faultBound
  dsimp only
  refine (raisePort_rests .fault p).exact ?_
  refine (OpenAt.unbind (g := fun r => { r with program := none }) ?_ fun _ => rfl).close ?_
  · refine OpenAt.rests ?_ <| restart_rests.trans <| releaseUnreserved_rests.trans <| (setBasis_rests _).trans fold_rests
    refine OpenAt.modRun (OpenAt.rests ?_ ((modRun_rests ⟨rfl, rfl⟩).trans leaveQueue_rests)) rfl
    split
    · exact h.rests (h0.trans (queueResult_rests _))
    · exact h.rests h0
  · simp [modRun, isBound]

theorem faultIdle_exact (h : OpenAt p s) (hp : s.ports[p].run.program = none) (c : FaultCode) :
    UseCountsExact (faultIdle p c s) := by
  have hr : Rests s (disablePort p (fold p (writeFault p c s))) :=
    (writeFault_rests c).trans <| fold_rests.trans disablePort_rests
  have h1 : OpenAt p (modRun p (fun r => { r with state := .faulted }) (disablePort p (fold p (writeFault p c s)))) :=
    (h.rests hr).modRun rfl
  refine (restartSettle_rests.trans (raisePort_rests .fault p)).exact (h1.close ?_)
  have hn := (hr.program p).trans hp
  simp only [modRun, modPort_self, hn]
  rfl

/-- What identified is taken off the attempt and the wait list (R97, R104). -/
theorem openAt_of_identifying (hs : UseCountsExact s) {t : State} (hport : ∀ q : Fin 8, q ≠ p → t.ports[q] = s.ports[q])
    (hself : t.ports[p].run.program = s.ports[p].run.program) (ha : t.ports[p].ident.attempt.isSome = false)
    (hh : t.headers = s.headers) (hw : t.history.waiting = s.history.waiting.filter fun q => q ≠ p) : OpenAt p t := by
  obtain ⟨hcount, hready, hbound, hattempt, hwaiting, hnodup⟩ := hs
  have hprog : ∀ q : Fin 8, t.ports[q].run.program = s.ports[q].run.program := by
    intro q
    by_cases e : q = p
    · rw [e, hself]
    · rw [hport q e]
  refine ⟨fun n => ?_, fun n => by rw [hh]; exact hready n, fun q hq => ?_, fun q hq ha => ?_, ha, ?_, fun q hq => ?_, ?_⟩
  · rw [hh, boundCount_congr hprog, hcount n]
  · rw [hport q hq]; exact hbound q
  · rw [hport q hq] at ha ⊢
    rw [hw]
    exact ⟨(hattempt q ha).1, fun h => (hattempt q ha).2 (List.mem_of_mem_filter h)⟩
  · simp [hw]
  · rw [hw] at hq
    rw [hport q (by simpa using List.of_mem_filter hq)]
    exact hwaiting q (List.mem_of_mem_filter hq)
  · rw [hw]; exact hnodup.filter _

/-- A port outside the bound states has no program. -/
theorem program_none (hs : UseCountsExact s) (h : isBound s.ports[p].run.state = false) : s.ports[p].run.program = none := by
  obtain ⟨-, -, hbound, -⟩ := hs
  have hb := hbound p
  rw [h] at hb
  exact Option.isNone_iff_eq_none.mp (by simpa using hb.symm)

/-- A fault or the removal of the pack ends an identification (R97, R104). -/
theorem stopIdentify_openAt (hs : UseCountsExact s) (hprog : s.ports[p].run.program = none) :
    OpenAt p { modIdent p (fun i => { i with attempt := none, serialRead := none }) s with
      history := { s.history with waiting := s.history.waiting.filter fun q => q ≠ p } } ∧
    (modIdent p (fun i => { i with attempt := none, serialRead := none }) s).ports[p].run.program = none := by
  have hself := modPort_self s p (fun q => { q with ident := { q.ident with attempt := none, serialRead := none } })
  have hp := congrArg (fun q : Port => q.run.program) hself
  refine ⟨openAt_of_identifying hs (fun q hq => ?_) ?_ ?_ ?_ ?_, hp.trans hprog⟩
  · exact modPort_other s hq (fun q => { q with ident := { q.ident with attempt := none, serialRead := none } })
  · exact hp
  · exact congrArg (fun q : Port => q.ident.attempt.isSome) hself
  · rfl
  · rfl

theorem faultPort_exact (hs : UseCountsExact s) (c : FaultCode) : UseCountsExact (faultPort p c s) := by
  have hidle {x : PortState} (hx : s.ports[p].run.state = x) (hb : isBound x = false) : s.ports[p].run.program = none :=
    program_none hs (by rw [hx]; exact hb)
  unfold faultPort
  split
  iterate 5
    next hst => exact faultBound_exact (openAt_of_bound hs (by rw [hst]; rfl)) c
  · next hst => exact faultIdle_exact (openAt_of_exact hs (by rw [hst]; decide)) (hidle hst rfl) c
  · next hst => exact faultIdle_exact (openAt_of_exact hs (by rw [hst]; decide)) (hidle hst rfl) c
  · next hst =>
    obtain ⟨ho, hp⟩ := stopIdentify_openAt (p := p) hs (hidle hst rfl)
    exact faultIdle_exact ho hp c
  · exact (writeFault_rests c).exact hs
  · exact hs

theorem endStep_exact (hs : UseCountsExact s) (hb : isBound s.ports[p].run.state = true) (r : EndReason) (a : Action) :
    UseCountsExact (endStep p r a s) := by
  have hr : Rests s (restartSettle p (discardCapture p (fold p (queueResult p r s)))) :=
    (queueResult_rests r).trans <| fold_rests.trans restart_rests
  have ho := (openAt_of_bound hs hb).rests hr
  have hp : (restartSettle p (discardCapture p (fold p (queueResult p r s)))).ports[p].run.program.isSome = true := by
    obtain ⟨-, -, hbound, -⟩ := hs
    rw [hr.program, ← hbound p, hb]
  unfold endStep
  dsimp only
  split
  · exact enterIndex_exact _ _ _ ho hp
  · exact enterIndex_exact _ _ _ ho hp
  · exact enterEnding_exact ho hp _
  · exact faultPort_exact (hr.exact hs) _

/-! ### Sample instants -/

theorem settleUpdate_rests (v : Sample) : Rests s (settleUpdate p v s) := by
  unfold settleUpdate
  dsimp only
  split
  · split
    · split
      · split
        · exact (modIntake_rests _).trans (raisePort_rests _ _)
        · exact modIntake_rests _
      · exact .refl s
    · exact .refl s
  · exact .refl s

theorem takeCaptureA_rests (v : Sample) (held : Bool) : Rests s (takeCaptureA p v held s) := by
  unfold takeCaptureA
  split
  · exact modIntake_rests _
  · exact .refl s

theorem takeCaptureB_rests (v : Sample) : Rests s (takeCaptureB p v s) := by
  unfold takeCaptureB
  split
  · split
    · exact (modPort_rests rfl).trans (raisePort_rests _ _)
    · exact .refl s
  · exact .refl s

theorem intakeArrival_rests (v : Sample) : Rests s (intakeArrival p v s) :=
  (modIntake_rests _).trans <| (settleUpdate_rests v).trans <| (takeCaptureA_rests v _).trans (takeCaptureB_rests v)

theorem intakeMissed_rests : Rests s (intakeMissed p s) := (modIntake_rests _).trans (takeCaptureA_rests _ _)

theorem drainSample_rests (v : Sample) : Rests s (drainSample p v s) :=
  (modRun_rests ⟨rfl, rfl⟩).trans <| (modRun_rests ⟨rfl, rfl⟩).trans (command_rests _)

theorem idleSample_rests (v : Sample) : Rests s (idleSample p v s) :=
  (modRun_rests ⟨rfl, rfl⟩).trans <| (modRun_rests ⟨rfl, rfl⟩).trans (command_rests _)

theorem subPhaseTests_rests (r : StepRecord) (v : Sample) (c : Option Nat) : Rests s (subPhaseTests p r v c s) := by
  unfold subPhaseTests
  split
  · exact (modRun_rests ⟨rfl, rfl⟩).trans <| (setBasis_rests _).trans (restartSettle_rests)
  · split
    · unfold updateCv; exact modRun_rests ⟨rfl, rfl⟩
    · split
      · exact (modRun_rests ⟨rfl, rfl⟩).trans (restartSettle_rests)
      · exact .refl s

theorem applyStep_rests (r : StepRecord) (v : Sample) (c : Option Nat) : Rests s (applyStep p r v c s) :=
  (modRun_rests ⟨rfl, rfl⟩).trans (command_rests _)

/-- A ramp goes on or has reached RUNNING (R39). -/
theorem rampMoves_rests {t : State} {done : Prop} [Decidable done] {d : Slew} (hr : Rests s t)
    (hs : isBound s.ports[p].run.state = true) : Rests s (modRun p (fun x =>
      if done then { x with state := .running, slew := none } else { x with slew := some d }) t) := by
  refine hr.trans ?_
  split
  · exact modRun_rests_of_bound rfl (by rw [hr.bound, hs]) rfl
  · exact modRun_rests ⟨rfl, rfl⟩

theorem rampSample_rests (hs : isBound s.ports[p].run.state = true) (v : Sample) : Rests s (rampSample p v s) :=
  rampMoves_rests ((subPhaseTests_rests _ _ _).trans (applyStep_rests _ _ _)) hs

theorem runningCount_rests (v : Sample) : Rests s (runningCount p v s) := by
  unfold runningCount
  dsimp only
  exact (subPhaseTests_rests _ _ _).trans <| (applyStep_rests _ _ _).trans (modRun_rests ⟨rfl, rfl⟩)

theorem runningSample_exact (hs : UseCountsExact s) (hb : isBound s.ports[p].run.state = true) (v : Sample) :
    UseCountsExact (runningSample p v s) := by
  have hr := runningCount_rests (s := s) (p := p) v
  unfold runningSample
  dsimp only
  split
  · exact endStep_exact (hr.exact hs) (by rw [hr.bound, hb]) _ _
  · exact hr.exact hs

theorem sequencerSample_exact (hs : UseCountsExact s) (v : Sample) : UseCountsExact (sequencerSample p v s) := by
  have hd := drainSample_rests (s := s) (p := p) v
  have hb {x : PortState} (hst : s.ports[p].run.state = x) (hx : isBound x = true) : isBound s.ports[p].run.state = true := by
    rw [hst, hx]
  have hdb {x : PortState} (hst : s.ports[p].run.state = x) (hx : isBound x = true) :
      isBound (drainSample p v s).ports[p].run.state = true := by rw [hd.bound, hst, hx]
  unfold sequencerSample
  dsimp only
  split
  · next hst =>
    split
    · split
      · exact (hd.trans (completeDrain_rests (hdb hst rfl))).exact hs
      · exact hd.exact hs
    · exact (idleSample_rests v).exact hs
    · exact (rampSample_rests (hb hst rfl) v).exact hs
  · next hst => exact runningSample_exact hs (hb hst rfl) v
  · next hst =>
    split
    · exact (hd.trans (enterHeld_rests (hdb hst rfl))).exact hs
    · exact hd.exact hs
  · next hst =>
    split
    · exact completeEnding_exact (openAt_of_bound (hd.exact hs) (hdb hst rfl))
    · exact hd.exact hs
  iterate 6 exact (idleSample_rests v).exact hs

/-- Work over a list keeps the invariant that each part keeps. -/
theorem foldl_exact {α : Type} (f : State → α → State) (hf : ∀ s x, UseCountsExact s → UseCountsExact (f s x)) (l : List α) :
    ∀ s, UseCountsExact s → UseCountsExact (l.foldl f s) := by
  induction l with
  | nil => exact fun _ h => h
  | cons x l ih => exact fun s h => ih _ (hf s x h)

theorem forPorts_exact (g : Fin 8 → State → State) (hg : ∀ p s, UseCountsExact s → UseCountsExact (g p s))
    (hs : UseCountsExact s) : UseCountsExact (forPorts g s) := foldl_exact _ (fun s p => hg p s) _ s hs

theorem consume_exact (arrived : Bool) (v : Sample) (c : Config.Consumer) (hs : UseCountsExact s) :
    UseCountsExact (consume p arrived v s c) := by
  unfold consume
  split
  · exact (modPort_rests (p := p) rfl).exact hs
  · exact sequencerSample_exact hs v
  · split
    · exact foldl_exact _ (fun _ c h => faultPort_exact h c) _ _ ((modProt_rests _).exact hs)
    · unfold protectMissed
      split
      · exact faultPort_exact hs _
      · exact hs

theorem handOn_exact (arrived : Bool) (v : Sample) (hs : UseCountsExact s) : UseCountsExact (handOn p arrived v s) :=
  foldl_exact _ (fun _ c h => consume_exact arrived v c h) _ _ ((instants_rests _).exact hs)

theorem receiveReply_exact (reply : List Byte) (hs : UseCountsExact s) : UseCountsExact (receiveReply p reply s) := by
  unfold receiveReply
  split
  · exact hs
  · split
    · exact (modIntake_rests _).exact hs
    · exact handOn_exact _ _ ((intakeArrival_rests _).exact hs)

theorem strobe_exact (hs : UseCountsExact s) : UseCountsExact (strobe p s) := by
  unfold strobe
  dsimp only
  refine ((modIntake_rests _).trans (send_rests _)).exact ?_
  split
  · exact handOn_exact _ _ (intakeMissed_rests.exact hs)
  · exact hs

theorem namedInstant_exact (rd : Reading) (due : Port → Sample → Bool) (hs : UseCountsExact s) :
    UseCountsExact (namedInstant p rd due s) := by
  unfold namedInstant
  split
  · split
    · cases rd
      · exact receiveReply_exact _ hs
      · exact strobe_exact hs
    · exact hs
  · exact hs

end

end Sys2Proof.UseCounts
end

section
/-! PROOFS. The use counts over identification, the protection unit, the commands and the rows, and so over every step. -/

open Sys2Proof Sys2Proof.Machine Sys2Proof.Indexing Sys2Proof.Bounded

namespace Sys2Proof.UseCounts

section
variable {s t u : State} {p : Fin 8}

/-! ### Identification -/

/-- Port `p` goes to a state that neither runs nor identifies, with no attempt; the rest stands. -/
structure Idles (p : Fin 8) (s t : State) : Prop where
  others : ∀ q : Fin 8, q ≠ p → booked t.ports[q] = booked s.ports[q]
  headers : t.headers = s.headers
  waiting : t.history.waiting = s.history.waiting
  program : t.ports[p].run.program = s.ports[p].run.program
  attempt : t.ports[p].ident.attempt = none
  bound : isBound t.ports[p].run.state = false
  idle : t.ports[p].run.state ≠ .identifying

theorem Idles.after (h : Idles p t u) (hp : t.ports = s.ports) (hh : t.headers = s.headers)
    (hw : t.history.waiting = s.history.waiting) : Idles p s u :=
  ⟨fun q hq => by rw [h.others q hq, hp], h.headers.trans hh, h.waiting.trans hw, by rw [h.program, hp], h.attempt, h.bound, h.idle⟩

theorem modPort_idles {g : Port → Port} (hp : (g s.ports[p]).run.program = s.ports[p].run.program)
    (ha : (g s.ports[p]).ident.attempt = none) (hb : isBound (g s.ports[p]).run.state = false)
    (hi : (g s.ports[p]).run.state ≠ .identifying) : Idles p s (modPort p g s) := by
  refine ⟨fun q hq => by rw [modPort_other s hq], rfl, rfl, ?_, ?_, ?_, ?_⟩ <;> rw [modPort_self]
  · exact hp
  · exact ha
  · exact hb
  · exact hi

/-- The wait list may be set before and after. -/
theorem Idles.setWaiting (h : Idles p s t) (l : List (Fin 8)) :
    Idles p { s with history := { s.history with waiting := l } } { t with history := { t.history with waiting := l } } :=
  ⟨h.others, h.headers, rfl, h.program, h.attempt, h.bound, h.idle⟩

theorem OpenAt.idles (h : OpenAt p s) (hp : s.ports[p].run.program = none) (x : Idles p s t) : UseCountsExact t := by
  have hprog : ∀ q : Fin 8, t.ports[q].run.program = s.ports[q].run.program := by
    intro q
    by_cases e : q = p
    · rw [e, x.program]
    · exact congrArg (·.1) (x.others q e)
  have hother {q : Fin 8} (hq : q ≠ p) : isBound t.ports[q].run.state = isBound s.ports[q].run.state ∧
      (t.ports[q].run.state = .identifying ↔ s.ports[q].run.state = .identifying) ∧
      t.ports[q].ident.attempt.isSome = s.ports[q].ident.attempt.isSome := by
    have ho := x.others q hq
    simp only [booked, Prod.mk.injEq, decide_eq_decide] at ho
    exact ho.2
  refine ⟨fun n => ?_, fun n hn => ?_, fun q => ?_, fun q ha => ?_, fun q hq => ?_, by rw [x.waiting]; exact h.nodup⟩
  · rw [x.headers, boundCount_congr hprog, h.count n]
  · rw [x.headers] at hn ⊢
    exact h.ready n hn
  · rw [hprog]
    by_cases e : q = p
    · rw [e, x.bound, hp]; rfl
    · rw [(hother e).1, h.bound q e]
  · by_cases e : q = p
    · rw [e, x.attempt] at ha
      exact absurd ha Bool.false_ne_true
    · rw [(hother e).2.2] at ha
      rw [(hother e).2.1, x.waiting]
      exact h.attempt q e ha
  · rw [x.waiting] at hq
    rw [(hother fun e => h.absent (e ▸ hq)).2.1]
    exact h.waiting q hq

/-- The port identifies: in an attempt, or at the end of the wait list (R94, R104). -/
theorem OpenAt.identifies (h : OpenAt p s) (hp : s.ports[p].run.program = none) (hport : ∀ q : Fin 8, q ≠ p → t.ports[q] = s.ports[q])
    (hprog : t.ports[p].run.program = none) (hi : t.ports[p].run.state = .identifying) (hh : t.headers = s.headers)
    (hw : t.history.waiting = s.history.waiting ∨
      (t.history.waiting = s.history.waiting ++ [p] ∧ t.ports[p].ident.attempt.isSome = false)) : UseCountsExact t := by
  have hall : ∀ q : Fin 8, t.ports[q].run.program = s.ports[q].run.program := by
    intro q
    by_cases e : q = p
    · rw [e, hprog, hp]
    · rw [hport q e]
  have hmem : ∀ q : Fin 8, q ≠ p → (q ∈ t.history.waiting ↔ q ∈ s.history.waiting) := by
    intro q hq
    rcases hw with hw | ⟨hw, -⟩ <;> simp [hw, hq]
  refine ⟨fun n => ?_, fun n hn => ?_, fun q => ?_, fun q ha => ?_, fun q hq => ?_, ?_⟩
  · rw [hh, boundCount_congr hall, h.count n]
  · rw [hh] at hn ⊢
    exact h.ready n hn
  · by_cases e : q = p
    · rw [e, hi, hprog]; rfl
    · rw [hport q e]; exact h.bound q e
  · by_cases e : q = p
    · rw [e] at ha ⊢
      rcases hw with hw | ⟨-, hno⟩
      · exact ⟨hi, by rw [hw]; exact h.absent⟩
      · rw [hno] at ha; exact absurd ha Bool.false_ne_true
    · rw [hport q e] at ha ⊢
      rw [hmem q e]
      exact h.attempt q e ha
  · by_cases e : q = p
    · rw [e, hi]
    · rw [hport q e]
      exact h.waiting q ((hmem q e).mp hq)
  · rcases hw with hw | ⟨hw, -⟩ <;> rw [hw]
    · exact h.nodup
    · exact List.nodup_append.mpr ⟨h.nodup, List.nodup_singleton p, fun a ha b hb e => by
        rw [List.mem_singleton.mp hb] at e
        exact h.absent (e ▸ ha)⟩

theorem unmount_rests : Rests s (unmount p s) := by
  unfold unmount
  split
  · exact .refl s
  · exact (modEntry_rests _ _).trans <| (touch_rests _).trans (modIdent_rests rfl)

theorem mount_idles (e : Fin 64) : Idles p s (mount p e s) := by
  unfold mount
  dsimp only
  exact Idles.after (modPort_idles rfl rfl rfl (by simp)) rfl rfl rfl

theorem makeEntry_stands {x : Entry} {e : Fin 64} (h : makeEntry x s = some (e, t)) :
    t.ports = s.ports ∧ t.headers = s.headers ∧ t.history.waiting = s.history.waiting := by
  have hevict {e : Fin 64} : (evict e s).ports = s.ports ∧ (evict e s).headers = s.headers ∧
      (evict e s).history.waiting = s.history.waiting := by
    unfold evict
    split <;> exact ⟨rfl, rfl, rfl⟩
  unfold makeEntry at h
  split at h
  · cases h; exact ⟨rfl, rfl, rfl⟩
  · split at h
    · split at h
      · cases h; exact hevict
      · cases h
    · cases h

theorem lookup_idles {serial : Nat} (h : lookup p serial s = some t) : Idles p s t := by
  unfold lookup at h
  split at h
  · cases h; exact modPort_idles rfl rfl rfl (by simp)
  · split at h
    · cases h; exact mount_idles _
    · simp only [Option.map_eq_some_iff] at h
      obtain ⟨⟨e, u⟩, hu, rfl⟩ := h
      obtain ⟨hp, hh, hw⟩ := makeEntry_stands hu
      exact (mount_idles e).after hp hh hw

/-- A service of the wait list, on any list the invariant holds with. -/
theorem serveWaiting_exact : ∀ (l : List (Fin 8)) (s : State),
    UseCountsExact { s with history := { s.history with waiting := l } } → UseCountsExact (serveWaiting l s)
  | [], _, h => h
  | p :: rest, s, h => by
    have hmem : p ∈ p :: rest := List.mem_cons_self
    obtain ⟨-, -, -, hattempt, hwaiting, hnodup⟩ := id h
    have hst : s.ports[p].run.state = .identifying := hwaiting p hmem
    have hprog : s.ports[p].run.program = none := by
      have hb := program_none (p := p) h (by rw [hst]; rfl)
      exact hb
    have hopen : OpenAt p { s with history := { s.history with waiting := rest } } := by
      refine openAt_of_identifying h (fun _ _ => rfl) rfl ?_ rfl ?_
      · exact Bool.eq_false_iff.mpr fun ha => (hattempt p ha).2 hmem
      · have hne : ∀ q ∈ rest, q ≠ p := fun q hq e => (List.nodup_cons.mp hnodup).1 (e ▸ hq)
        show rest = (p :: rest).filter fun q => decide (q ≠ p)
        rw [List.filter_cons_of_neg (by simp), List.filter_eq_self.mpr fun q hq => decide_eq_true (hne q hq)]
    unfold serveWaiting
    split
    · next t ht =>
      obtain ⟨n, -, hn⟩ := Option.map_eq_some_iff.mp ht
      exact serveWaiting_exact rest t (hopen.idles hprog ((lookup_idles hn).setWaiting rest))
    · exact h
    · exact serveWaiting_exact rest s (hopen.identifies hprog (fun _ _ => rfl) hprog hst rfl (.inl rfl))

theorem serveHistory_exact (hs : UseCountsExact s) : UseCountsExact (serveHistory s) := serveWaiting_exact _ s hs

/-- An identification starts on a port that neither runs nor identifies (R94, R98). -/
theorem startIdentify_exact (hs : UseCountsExact s) (hi : s.ports[p].run.state ≠ .identifying)
    (hb : isBound s.ports[p].run.state = false) : UseCountsExact (startIdentify p s) := by
  have hprog := program_none hs hb
  unfold startIdentify beginAttempt
  refine (send_rests _).exact ?_
  refine (openAt_of_exact hs hi).identifies hprog (fun q hq => ?_) ?_ ?_ rfl (.inl rfl)
  · simp only [modIdent, modPort_other _ hq]
  · simp only [modIdent, modPort_self, hprog]
  · simp only [modIdent, modPort_self]

/-- The attempt in flight ends (R97). -/
theorem endAttempt_openAt (hs : UseCountsExact s) (ha : s.ports[p].ident.attempt.isSome = true) {g : Port → Port}
    (hp : (g s.ports[p]).run.program = s.ports[p].run.program) (hg : (g s.ports[p]).ident.attempt = none) :
    OpenAt p (modPort p g s) := by
  obtain ⟨-, -, -, hattempt, -⟩ := id hs
  have hout : p ∉ s.history.waiting := (hattempt p ha).2
  refine openAt_of_identifying hs (fun q hq => modPort_other s hq _) ?_ ?_ rfl ?_
  · rw [modPort_self]; exact hp
  · rw [modPort_self, hg]; rfl
  · have hne : ∀ q ∈ s.history.waiting, q ≠ p := fun q hq e => hout (e ▸ hq)
    exact (List.filter_eq_self.mpr fun q hq => decide_eq_true (hne q hq)).symm

/-- A port with an attempt in flight identifies, and has no program. -/
theorem attempt_program_none (hs : UseCountsExact s) (ha : s.ports[p].ident.attempt.isSome = true) :
    s.ports[p].run.program = none := by
  obtain ⟨-, -, -, hattempt, -⟩ := id hs
  exact program_none hs (by rw [(hattempt p ha).1]; rfl)

theorem failAttempt_exact (hs : UseCountsExact s) (ha : s.ports[p].ident.attempt.isSome = true) (n : Nat) (why : IdFailure) :
    UseCountsExact (failAttempt p n why s) := by
  unfold failAttempt
  split
  · refine Rests.exact ?_ hs
    refine Rests.trans (modIdent_rests rfl) (Rests.trans (modIdent_rests ?_) (send_rests _))
    rw [modIdent, modPort_self]
    exact ha.symm
  · refine (endAttempt_openAt hs ha rfl rfl).close ?_
    simp only [modPort_self, attempt_program_none hs ha]
    rfl

theorem succeedAttempt_exact (hs : UseCountsExact s) (ha : s.ports[p].ident.attempt.isSome = true) (serial : Nat) :
    UseCountsExact (succeedAttempt p serial s) := by
  have hprog := attempt_program_none hs ha
  have ho : OpenAt p (modIdent p (fun i => { i with attempt := none, serialRead := some serial }) s) :=
    endAttempt_openAt hs ha rfl rfl
  have hself := modPort_self s p fun q => { q with ident := { q.ident with attempt := none, serialRead := some serial } }
  have hp := (congrArg (fun q : Port => q.run.program) hself).trans hprog
  unfold succeedAttempt
  dsimp only
  split
  · next u hu => exact ho.idles hp (lookup_idles hu)
  · obtain ⟨-, -, -, hattempt, -⟩ := id hs
    have hst := (congrArg (fun q : Port => q.run.state) hself).trans (hattempt p ha).1
    exact ho.identifies hp (fun _ _ => rfl) hp hst rfl (.inr ⟨rfl, congrArg (fun q : Port => q.ident.attempt.isSome) hself⟩)

theorem receiveId_exact (hs : UseCountsExact s) (x : IdSource) (reply : List Byte) : UseCountsExact (receiveId p x reply s) := by
  unfold receiveId
  split
  · exact hs
  · next a ha =>
    have ha : s.ports[p].ident.attempt.isSome = true := by rw [ha]; rfl
    split
    · exact hs
    · split
      · exact failAttempt_exact hs ha _ _
      · split
        · exact failAttempt_exact hs ha _ _
        · exact succeedAttempt_exact hs ha _

theorem expireAttempt_exact (hs : UseCountsExact s) : UseCountsExact (expireAttempt p s) := by
  unfold expireAttempt
  split
  · next a ha =>
    split
    · exact failAttempt_exact hs (by rw [ha]; rfl) _ _
    · exact hs
  · exact hs

theorem thermalTrip_exact (hs : UseCountsExact s) : UseCountsExact (thermalTrip p s) :=
  faultPort_exact ((modProt_rests _).exact hs) _

theorem packArrives_exact (hs : UseCountsExact s) : UseCountsExact (packArrives p s) := by
  have h : UseCountsExact (if s.ports[p].run.state = .vacant then startIdentify p s else s) := by
    split
    · next hst => exact startIdentify_exact hs (by rw [hst]; decide) (by rw [hst]; rfl)
    · exact hs
  unfold packArrives
  dsimp only
  split
  · exact thermalTrip_exact h
  · exact h

theorem closePresence_exact (hs : UseCountsExact s) : UseCountsExact (closePresence p s) := by
  unfold closePresence
  split
  · exact hs
  · exact packArrives_exact ((modIdent_rests rfl).exact hs)

/-- A port that neither runs nor identifies becomes VACANT (R95). -/
theorem toVacant_exact (h : OpenAt p s) (hp : s.ports[p].run.program = none) : UseCountsExact (toVacant p s) := by
  refine OpenAt.close (s := modRun p (fun r => { r with state := .vacant }) s) (h.modRun rfl) ?_
  simp only [modRun, modPort_self, hp]
  rfl

theorem openPresence_exact (hs : UseCountsExact s) : UseCountsExact (openPresence p s) := by
  have hr : Rests s (modIdent p (fun i => { i with present := false }) s) := modIdent_rests rfl
  have hprog {x : PortState} (hx : s.ports[p].run.state = x) (hb : isBound x = false) : s.ports[p].run.program = none :=
    program_none hs (by rw [hx]; exact hb)
  unfold openPresence
  dsimp only
  split
  · exact hs
  · split
    · exact hr.exact hs
    · next hst =>
      have hp := (hr.program p).trans (hprog hst rfl)
      obtain ⟨ho, hp⟩ := stopIdentify_openAt (hr.exact hs) hp
      exact toVacant_exact ho hp
    · next hst =>
      exact toVacant_exact ((openAt_of_exact hs (by rw [hst]; decide)).rests hr) ((hr.program p).trans (hprog hst rfl))
    · next hst =>
      have hu := hr.trans ((fold_rests (p := p)).trans (unmount_rests (p := p)))
      exact toVacant_exact ((openAt_of_exact hs (by rw [hst]; decide)).rests hu) ((hu.program p).trans (hprog hst rfl))
    · exact (hr.trans (fold_rests.trans unmount_rests)).exact hs
    iterate 5 exact unmount_rests.exact (faultPort_exact (hr.exact hs) _)

theorem presenceDetection_exact (hs : UseCountsExact s) : UseCountsExact (presenceDetection s) := by
  refine forPorts_exact _ (fun p s hs => ?_) hs
  split
  · exact packArrives_exact hs
  · exact hs

theorem openThermal_exact (hs : UseCountsExact s) : UseCountsExact (openThermal p s) := by
  unfold openThermal
  dsimp only
  split
  · exact hs
  · split
    · exact thermalTrip_exact ((modProt_rests _).exact hs)
    · exact (modProt_rests _).exact hs

/-! ### The protection unit -/

/-- With every port unbound and out of identification, and no program in use. -/
theorem exact_of_vacant (hp : ∀ q : Fin 8, s.ports[q].run = .initial ∧ s.ports[q].ident.attempt = none)
    (hh : ∀ n : Fin 32, s.headers[n].useCount = 0) (hw : s.history.waiting = []) : UseCountsExact s := by
  refine ⟨fun n => ?_, fun n _ => hh n, fun q => ?_, fun q ha => ?_, fun q hq => ?_, by rw [hw]; exact List.nodup_nil⟩
  · rw [hh, boundCount_eq_sum]
    exact (Finset.sum_eq_zero fun q _ => by rw [bindsTo, (hp q).1]; rfl).symm
  · rw [(hp q).1]; rfl
  · rw [(hp q).2] at ha
    exact absurd ha Bool.false_ne_true
  · rw [hw] at hq
    exact absurd hq List.not_mem_nil

theorem openDoor_exact (hs : UseCountsExact s) : UseCountsExact (openDoor s) := by
  unfold openDoor
  split
  · exact hs
  · refine forPorts_exact _ (fun p t ht => ?_) ((prot_rests _).exact hs)
    split
    · exact (holdPort_rests _).exact ht
    · exact ht

theorem closeDoor_rests : Rests s (closeDoor s) := rests_of_eq (fun q => by simp [closeDoor, booked]) rfl rfl

theorem appendLog_rests (cause : LogCause) (phase : Option (Fin 16)) (effect : LogEffect) :
    Rests s (appendLog cause phase effect s) := prot_rests _

theorem startCooldown_rests : Rests s (startCooldown s) := prot_rests _

theorem enterLockout_exact (hs : UseCountsExact s) (cause : LogCause) (phase : Option (Fin 16)) :
    UseCountsExact (enterLockout cause phase s) := by
  unfold enterLockout
  dsimp only
  refine ((appendLog_rests _ _ _).trans <| (raiseCabinet_rests _).trans startCooldown_rests).exact ?_
  refine forPorts_exact _ (fun p t ht => ?_) (forPorts_exact _ (fun p t ht => ?_) ?_)
  · split
    · exact ht
    · exact fold_rests.exact ht
  · unfold lockoutPort
    split
    · exact faultPort_exact ht _
    · exact ht
  · refine Rests.exact ?_ hs
    refine Rests.trans (t := (List.finRange 16).foldl (fun u f => disablePhase f u) (startCooldown s)) ?_ ?_
    · exact startCooldown_rests.trans (.foldl _ (fun _ f => modPhase_rests f _) _ _)
    · split
      · exact .refl _
      · exact prot_rests _

theorem lockoutCause_exact (hs : UseCountsExact s) (cause : LogCause) (phase : Option (Fin 16)) :
    UseCountsExact (lockoutCause cause phase s) := by
  unfold lockoutCause
  split
  · exact ((appendLog_rests _ _ _).trans <| (raiseCabinet_rests _).trans startCooldown_rests).exact hs
  · exact enterLockout_exact hs _ _

/-- The restart begins anew whatever stood before it (R184). -/
theorem restartBlocks_exact : UseCountsExact (restartBlocks s) := by
  unfold restartBlocks
  dsimp only
  refine (Rests.trans (forPorts_rests _ (fun p t => poolWork_rests (takePhases_poolWork p _ t)) _) (raiseCabinet_rests _)).exact ?_
  refine exact_of_vacant (fun q => ?_) (fun n => ?_) rfl
  · simp [restartPort]
  · simp

theorem internalRestart_exact : UseCountsExact (internalRestart s) := presenceDetection_exact restartBlocks_exact

theorem endCooldown_exact (hs : UseCountsExact s) : UseCountsExact (endCooldown s) := by
  unfold endCooldown
  split
  · exact hs
  · split
    · exact (prot_rests _).exact hs
    · split
      · exact (prot_rests _).exact hs
      · exact internalRestart_exact

theorem closeFeedback_exact (hs : UseCountsExact s) : UseCountsExact (closeFeedback s) := by
  unfold closeFeedback
  split
  · exact hs
  · dsimp only
    split
    · exact (prot_rests _).exact hs
    · split
      · exact (prot_rests _).exact hs
      · split
        · exact (prot_rests _).exact hs
        · exact lockoutCause_exact ((prot_rests _).exact hs) _ _
    · exact (prot_rests _).exact hs

theorem openFeedback_exact (hs : UseCountsExact s) : UseCountsExact (openFeedback s) := by
  unfold openFeedback
  split
  · exact hs
  · dsimp only
    split
    · exact lockoutCause_exact ((prot_rests _).exact hs) _ _
    · exact (prot_rests _).exact hs
    · split
      · exact internalRestart_exact
      · exact (prot_rests _).exact hs

theorem expireClosing_rests : Rests s (expireClosing s) := by
  unfold expireClosing
  split
  · split
    · exact .refl s
    · exact (prot_rests _).trans (appendLog_rests _ _ _)
  · exact .refl s

theorem expireOpening_exact (hs : UseCountsExact s) : UseCountsExact (expireOpening s) := by
  unfold expireOpening
  split
  · split
    · exact hs
    · exact lockoutCause_exact ((prot_rests _).exact hs) _ _
  · exact hs

variable {f : Fin 16}

theorem riseFault_rests : Rests s (riseFault f s) := by
  unfold riseFault
  split
  · exact .refl s
  · dsimp only
    split
    · exact modPhase_rests f _
    · exact ((modPhase_rests f _).trans (modPhase_rests f _)).trans ((raiseCabinet_rests _).trans reformNeeds_rests)

theorem fallActive_rests : Rests s (fallActive f s) := by
  unfold fallActive
  split
  · exact .refl s
  · exact modPhase_rests f _

theorem riseActive_exact (hs : UseCountsExact s) : UseCountsExact (riseActive f s) := by
  unfold riseActive
  dsimp only
  split
  · exact hs
  · split
    · exact lockoutCause_exact ((modPhase_rests f _).exact hs) _ _
    · exact (modPhase_rests f _).exact hs

theorem expireWatch_exact (hs : UseCountsExact s) : UseCountsExact (expireWatch f s) := by
  unfold expireWatch
  split
  · split
    · exact hs
    · exact lockoutCause_exact ((modPhase_rests f _).exact hs) _ _
  · exact hs

/-! ### The chain but for the commands that its frames carry -/

theorem reformLines_rests : Rests s (reformLines s) :=
  (modChain_rests _).trans (forPorts_rests _ (fun _ _ => handInterlock_rests _ _) _)

theorem enterStale_rests : Rests s (enterStale s) :=
  (modChain_rests _).trans <| (changeBudget_rests _ _).trans reformLines_rests

theorem discardFrame_rests : Rests s (discardFrame s) := by
  unfold discardFrame
  dsimp only
  split
  · exact (modChain_rests _).trans enterStale_rests
  · exact modChain_rests _

theorem firstNumbering_rests : Rests s (firstNumbering s) := by
  unfold firstNumbering
  split
  · exact .refl s
  · dsimp only
    split
    · exact (modChain_rests _).trans <| (modChain_rests _).trans reformLines_rests
    · exact (modChain_rests _).trans enterStale_rests

theorem takeNumber_rests (n : Nat) : Rests s (takeNumber n s) :=
  (modChain_rests _).trans <| (send_rests _).trans firstNumbering_rests

theorem takeDiscover_rests (frame : List Byte) : Rests s (takeDiscover frame s) := by
  unfold takeDiscover
  split
  · exact takeNumber_rests _
  · exact (send_rests _).trans <| (send_rests _).trans (modChain_rests _)

theorem takeRenumber_rests (frame : List Byte) : Rests s (takeRenumber frame s) := by
  unfold takeRenumber
  dsimp only
  split
  · exact (takeNumber_rests _).trans (send_rests _)
  · split
    · exact .refl s
    · exact (send_rests _).trans (modChain_rests _)

theorem sendBroken_rests (slot : List Byte) : Rests s (sendBroken slot s) := (modChain_rests _).trans (send_rests _)

theorem report_rests : Rests s (report s) := by
  unfold report
  dsimp only
  split
  · exact (modChain_rests _).trans <| (modChain_rests _).trans (send_rests _)
  · exact (modChain_rests _).trans (modChain_rests _)

theorem takeUpstream_rests (frame : List Byte) : Rests s (takeUpstream frame s) := by
  unfold takeUpstream
  split
  · exact .refl s
  · split
    · exact .refl s
    · split
      · exact (modChain_rests _).trans (send_rests _)
      · exact sendBroken_rests _

theorem expireUplink_rests : Rests s (expireUplink s) := by
  unfold expireUplink
  split
  · split
    · exact .refl s
    · exact sendBroken_rests _
  · exact .refl s

theorem expireSilence_rests : Rests s (expireSilence s) := by
  unfold expireSilence
  split
  · exact enterStale_rests
  · exact .refl s

theorem takeAnswer_rests (frame : List Byte) : Rests s (takeAnswer frame s) := by
  unfold takeAnswer
  split
  · exact .refl s
  · dsimp only
    split
    · exact (modChain_rests _).trans (send_rests _)
    · exact modChain_rests _

theorem expireAnswer_rests : Rests s (expireAnswer s) := by
  unfold expireAnswer
  split
  · split
    · exact .refl s
    · exact modChain_rests _
  · exact .refl s

theorem deliver_rests (iss : Issuer) (code : Nat) (x : State × Reply) : Rests x.1 (deliver iss code x) := by
  cases iss
  · exact cmd_rests _
  · exact rests_of_eq (fun _ => rfl) rfl rfl

theorem tick_rests : Rests s (tick s) := rests_of_eq (fun q => by simp [tick, booked, tickIdent]) rfl rfl

end

end Sys2Proof.UseCounts
end

section
/-! PROOFS. The use counts over the commands and the rows, and so over every step. -/

open Sys2Proof Sys2Proof.Machine Sys2Proof.Indexing Sys2Proof.Bounded

namespace Sys2Proof.UseCounts

section
variable {s : State} {p : Fin 8} {m : Master}

theorem Rests.done {t : State} (h : Rests s t) : Rests s (done t).1 := h

theorem Rests.answer {t : State} (h : Rests s t) (data : List Byte) : Rests s (answer data t).1 := h

theorem exact_done (h : UseCountsExact s) : UseCountsExact (done s).1 := h

theorem Rests.ite {c : Prop} [Decidable c] {t u : State} (ht : Rests s t) (hu : Rests s u) : Rests s (if c then t else u) := by
  split
  · exact ht
  · exact hu

/-! ### Commands that rest -/

theorem setOwner_rests (o : Owner) : Rests s (setOwner p o s) := modPort_rests rfl

theorem claimPort_rests (port : Nat) : Rests s (claimPort m port s).1 := by
  refine onPort_cases (P := fun x => Rests s x.1) (.refl s) fun p => ?_
  split
  · exact .refl s
  · exact setOwner_rests _

theorem releasePort_rests (port : Nat) : Rests s (releasePort m port s).1 :=
  onOwnPort_cases (P := fun x => Rests s x.1) (.refl s) (.refl s) fun _ _ => setOwner_rests _

theorem raisePortTaken_rests : Rests s (raisePortTaken p s) := rests_of_eq (fun _ => rfl) rfl rfl

theorem takePort_rests (port : Nat) : Rests s (takePort m port s).1 := by
  unfold takePort
  split
  · exact .refl s
  · refine onPort_cases (P := fun x => Rests s x.1) (.refl s) fun p => ?_
    refine Rests.trans (t := if _ then _ else _) ?_ (setOwner_rests _)
    split
    · exact raisePortTaken_rests
    · exact .refl s

theorem holdCommand_rests : Rests s (holdCommand p s).1 := by
  unfold holdCommand
  split
  · exact holdPort_rests _
  · exact .refl s

theorem reservePhases_rests (n : Nat) : Rests s (reservePhases p n s).1 := by
  unfold reservePhases
  dsimp only
  iterate 3 (split; · exact .refl s)
  have h : Rests s (modPort p (fun q => { q with phases := { q.phases with reserved := n } }) s) :=
    modPort_rests rfl
  have hu := Rests.ite (c := heldCount p s < n) (h.trans (poolWork_rests (takePhases_poolWork p (n - heldCount p s) _)))
    (Rests.ite (c := s.ports[p].run.state = .holding ∨ s.ports[p].run.state = .ending ∨
      (s.ports[p].run.state = .running ∧ ¬ (s.ports[p].run.step.map StepRecord.kind) = some .rest)) h
      (h.trans (poolWork_rests (releaseBeyond_poolWork p n _))))
  exact (Rests.ite (hu.trans reformNeeds_rests) (.ite (hu.trans serveQueue_rests) hu)).done

theorem setInterlockMask_rests (port : Nat) (l : Byte) : Rests s (setInterlockMask m port l s).1 :=
  onOwnPort_cases (P := fun x => Rests s x.1) (.refl s) (.refl s) fun _ _ =>
    (modPort_rests rfl).trans (handInterlock_rests _ _)

theorem setCalibration_rests (port channel : Nat) (o : Int) (g : Nat) : Rests s (setCalibration m port channel o g s).1 := by
  refine onOwnPort_cases (P := fun x => Rests s x.1) (.refl s) (.refl s) fun p _ => ?_
  split
  · exact .refl s
  · iterate 2 (split; · exact .refl s)
    exact (modIntake_rests _).done

theorem setSettleEdges_rests (port setting : Nat) : Rests s (setSettleEdges m port setting s).1 := by
  refine onOwnPort_cases (P := fun x => Rests s x.1) (.refl s) (.refl s) fun p _ => ?_
  split
  · exact .refl s
  · exact (modIntake_rests _).done

theorem setPortDefaults_rests (port : Nat) (d : PortDefaults) : Rests s (setPortDefaults m port d s).1 := by
  refine onOwnPort_cases (P := fun x => Rests s x.1) (.refl s) (.refl s) fun p _ => ?_
  split
  · exact .refl s
  · exact (modIntake_rests _).done

theorem readCapture_rests : Rests s (readCapture p s).1 := by
  unfold readCapture
  dsimp only
  split
  · exact .refl s
  · exact (modIntake_rests _).answer _

theorem pinEntry_rests (x : Selector) : Rests s (pinEntry x s).1 := by
  refine onEntry_cases (P := fun y => Rests s y.1) (fun _ => .refl s) fun e x _ => ?_
  iterate 2 (split; · exact .refl s)
  exact modEntry_rests e _

theorem unpinEntry_rests (x : Selector) : Rests s (unpinEntry x s).1 :=
  onEntry_cases (P := fun y => Rests s y.1) (fun _ => .refl s) fun e _ _ => modEntry_rests e _

theorem importEntry_rests (r : List Byte) : Rests s (importEntry r s).1 := by
  unfold importEntry
  iterate 2 (split; · exact .refl s)
  split
  · exact .refl s
  · next h =>
    obtain ⟨hp, hh, hw⟩ := makeEntry_stands h
    exact Rests.trans (rests_of_eq (fun q => by rw [hp]) hh hw) (touch_rests _)

theorem freeUp_rests (e : Fin 64) : Rests s (freeUp e s) := rests_of_eq (fun _ => rfl) rfl rfl

theorem setFallback_rests (b : Budget) : Rests s (setFallback m b s).1 := by
  unfold setFallback
  split
  · exact .refl s
  · dsimp only [doneClamped_state]
    split
    · exact (alloc_rests { s.alloc with fallback := clampBudget b }).trans (changeBudget_rests _ _)
    · exact alloc_rests _

theorem setStandalone_rests (b : Budget) : Rests s (setStandalone b s).1 := by
  unfold setStandalone
  dsimp only [doneClamped_state]
  split
  · exact (alloc_rests { s.alloc with standalone := clampBudget b }).trans (changeBudget_rests _ _)
  · exact alloc_rests _

theorem setRamp_rests (t : Nat) : Rests s (setRamp t s).1 := alloc_rests _

theorem setPolicy_rests (x : Nat) : Rests s (setPolicy m x s).1 := by
  unfold setPolicy
  split
  · exact .refl s
  · split
    · exact prot_rests _
    · exact .refl s

theorem closeContactor_rests : Rests s (closeContactor s).1 := by
  unfold closeContactor
  split
  · exact .refl s
  · exact prot_rests _

theorem openContactor_rests : Rests s (openContactor s).1 := by
  unfold openContactor
  iterate 2 (split; · exact .refl s)
  exact prot_rests _

theorem clearFaultLog_rests : Rests s (clearFaultLog s).1 :=
  prot_rests _

theorem servicePhase_rests (f : Nat) : Rests s (servicePhase f s).1 := by
  unfold servicePhase
  split
  · dsimp only
    iterate 2 (split; · exact .refl s)
    exact (modPhase_rests _ _).trans reformNeeds_rests
  · exact .refl s

theorem clearAttention_rests (a : Attention) : Rests s (clearAttention m a s).1 := by
  unfold clearAttention
  split
  · exact .refl s
  · cases m <;> exact cmd_rests _

theorem setAttentionMask_rests (a : Attention) : Rests s (setAttentionMask m a s).1 := by
  unfold setAttentionMask
  split
  · exact .refl s
  · cases m <;> exact cmd_rests _

theorem startTransaction_rests (s : State) : Rests s (startTransaction s) := by
  unfold startTransaction
  split
  · exact .refl s
  · exact cmd_rests _

theorem readResult_rests : Rests s (readResult p s).1 := by
  unfold readResult
  split
  · exact .refl s
  · exact (modPort_rests rfl).answer _

theorem setLimits_rests (l : Limits) : Rests s (setLimits l s).1 := by
  unfold setLimits
  iterate 2 (split; · exact .refl s)
  exact rests_of_eq (fun q => by simp [booked, formEnvelope]) rfl rfl

theorem setEnvelope_rests (port : Nat) (e : Envelope) : Rests s (setEnvelope m port e s).1 := by
  refine onOwnPort_cases (P := fun x => Rests s x.1) (.refl s) (.refl s) fun p _ => ?_
  split
  · exact .refl s
  · exact (modProt_rests _).done

theorem lockLimits_rests : Rests s (lockLimits m s).1 := by
  unfold lockLimits
  split
  · exact .refl s
  · exact prot_rests _

theorem resumeCommand_rests : Rests s (resumeCommand p s).1 := by
  unfold resumeCommand
  dsimp only
  split
  · exact .refl s
  · next hst =>
    have hb : isBound s.ports[p].run.state = true := by rw [not_not.mp hst]; rfl
    iterate 2 (split; · exact .refl s)
    have h1 : Rests s (restartSettle p (modRun p (fun x => { x with causes := .none }) s)) :=
      (modRun_rests ⟨rfl, rfl⟩).trans restartSettle_rests
    split
    · have h2 := h1.trans <| (modRun_rests_of_bound (g := fun x => { x with state := .transfer, stage := .acquiring }) rfl
        (by rw [h1.bound, hb]) rfl).trans (refreshEnables_rests (p := p))
      exact (h2.trans <| (setBasis_rests _).trans <| acquire_rests (by rw [(setBasis_rests _).bound, h2.bound, hb])).done
    · exact (h1.trans <| (modRun_rests_of_bound rfl (by rw [h1.bound, hb]) rfl).trans <|
        refreshEnables_rests.trans (setBasis_rests _)).done

/-! ### Commands that bind, unbind, identify or build -/

/-- An update of a header outside every binding's reach. -/
theorem modHeader_exact (hs : UseCountsExact s) {n : Fin 32} {g : Header → Header}
    (hc : (g s.headers[n]).useCount = s.headers[n].useCount)
    (hr : (g s.headers[n]).state ≠ .ready → s.headers[n].useCount = 0) : UseCountsExact (modHeader n g s) := by
  obtain ⟨hcount, hready, hrest⟩ := hs
  refine ⟨fun k => ?_, fun k hk => ?_, hrest⟩
  · rw [modHeader_header]
    split
    · next e => rw [e, hc]; exact hcount n
    · exact hcount k
  · rw [modHeader_header] at hk ⊢
    split at hk
    · next e => rw [if_pos e, hc]; exact hr hk
    · next e => rw [if_neg e]; exact hready k hk

theorem openProgram_exact (hs : UseCountsExact s) (n k : Nat) : UseCountsExact (openProgram m n k s).1 := by
  refine onProgram_cases (P := fun x => UseCountsExact x.1) hs fun n => ?_
  split
  · exact hs
  · split
    · exact hs
    · next hst =>
      have h0 : s.headers[n].useCount = 0 := by
        obtain ⟨-, hready, -⟩ := hs
        exact hready n (by rw [not_not.mp hst]; decide)
      split
      · exact hs
      · exact modHeader_exact (n := n) (g := fun _ => ⟨.building, m, List.replicate k none, 0, []⟩) hs h0.symm fun _ => h0

theorem writeStep_exact (hs : UseCountsExact s) (n i : Nat) (r : List Byte) : UseCountsExact (writeStep m n i r s).1 := by
  refine onProgram_cases (P := fun x => UseCountsExact x.1) hs fun n => ?_
  dsimp only
  iterate 3 (split; · exact hs)
  split
  · exact hs
  · next r _ =>
    obtain ⟨-, hready, -⟩ := id hs
    exact modHeader_exact (n := n) (g := fun x => { x with steps := x.steps.set i (some r) }) hs rfl (hready n)

theorem closeProgram_exact (hs : UseCountsExact s) (n : Nat) : UseCountsExact (closeProgram m n s).1 := by
  refine onProgram_cases (P := fun x => UseCountsExact x.1) hs fun n => ?_
  dsimp only
  iterate 2 (split; · exact hs)
  split
  · exact hs
  · exact modHeader_exact (n := n) (g := fun x => { x with state := .ready, loopNumbers := assignLoops x.steps }) hs rfl
      fun h => absurd rfl h

theorem deleteProgram_exact (hs : UseCountsExact s) (n : Nat) : UseCountsExact (deleteProgram m n s).1 := by
  refine onProgram_cases (P := fun x => UseCountsExact x.1) hs fun n => ?_
  dsimp only
  iterate 2 (split; · exact hs)
  split
  · exact hs
  · next h =>
    have h0 : s.headers[n].useCount = 0 := Nat.eq_zero_of_not_pos h
    exact modHeader_exact (n := n) (g := fun _ => .empty) hs h0.symm fun _ => h0

theorem startRun_exact (hs : UseCountsExact s) (n i : Nat) : UseCountsExact (startRun p n i s).1 := by
  unfold startRun
  refine onProgram_cases (P := fun x => UseCountsExact x.1) hs fun n => ?_
  split
  · exact hs
  · next hst =>
    have hst := not_not.mp hst
    have hprog := program_none (p := p) hs (by rw [hst]; rfl)
    iterate 3 (split; · exact hs)
    split
    · exact hs
    · next hready =>
      iterate 2 (split; · exact hs)
      refine enterIndex_exact _ _ _ ?_ ?_
      · exact (openAt_of_exact hs (by rw [hst]; decide)).bind hprog (not_not.mp hready) rfl rfl
      · rw [modPort_self]; rfl

theorem abortCommand_exact (hs : UseCountsExact s) : UseCountsExact (abortCommand p s).1 := by
  unfold abortCommand
  split
  · next hst =>
    have hb : isBound s.ports[p].run.state = true := by
      revert hst
      cases s.ports[p].run.state <;> decide
    have hr : Rests s (leaveQueue p (queueResult p .aborted s)) := (queueResult_rests _).trans leaveQueue_rests
    refine enterEnding_exact ((openAt_of_bound hs hb).rests hr) ?_ _
    obtain ⟨-, -, hbound, -⟩ := hs
    rw [hr.program, ← hbound p, hb]
  · exact hs

theorem clearFault_exact (hs : UseCountsExact s) (port : Nat) : UseCountsExact (clearFault m port s).1 := by
  refine onOwnPort_cases (P := fun x => UseCountsExact x.1) hs hs fun p _ => ?_
  dsimp only
  split
  · exact hs
  · next hst =>
    have hst := not_not.mp hst
    iterate 2 (split; · exact hs)
    have ho := openAt_of_exact (p := p) hs (by rw [hst]; decide)
    have hprog := program_none (p := p) hs (by rw [hst]; rfl)
    refine OpenAt.close (ho.modPort (g := fun x => { x with
      prot := { x.prot with fault := none, thermalLatch := false, filters := Vector.replicate 6 0 }
      run := { x.run with state := clearedState x.ident } }) rfl ho.own) ?_
    simp only [done_state, modPort_self, hprog, clearedState]
    split
    · rfl
    · split <;> rfl

theorem retryIdentify_exact (hs : UseCountsExact s) (port : Nat) : UseCountsExact (retryIdentify m port s).1 := by
  refine onPort_cases (P := fun x => UseCountsExact x.1) hs fun p => ?_
  split
  · exact hs
  · split
    · exact hs
    · next hst =>
      exact startIdentify_exact hs (by rw [not_not.mp hst]; decide) (by rw [not_not.mp hst]; rfl)

theorem deleteEntry_exact (hs : UseCountsExact s) (x : Selector) : UseCountsExact (deleteEntry x s).1 := by
  refine onEntry_cases (P := fun y => UseCountsExact y.1) (fun _ => hs) fun e x _ => ?_
  iterate 2 (split; · exact hs)
  exact serveHistory_exact ((freeUp_rests e).exact hs)

theorem readEviction_exact (hs : UseCountsExact s) : UseCountsExact (readEviction s).1 := by
  unfold readEviction
  split
  · exact hs
  · exact serveHistory_exact hs

theorem clearLockout_exact (hs : UseCountsExact s) : UseCountsExact (clearLockout s).1 := by
  unfold clearLockout
  split
  · split
    · exact hs
    · exact exact_done internalRestart_exact
  iterate 2 exact hs

/-! ### Every command -/

theorem onPort_rests {port : Nat} {k : Fin 8 → State × Reply} (hk : ∀ p, Rests s (k p).1) : Rests s (onPort port s k).1 :=
  onPort_cases (P := fun x => Rests s x.1) (.refl s) hk

theorem onOwnPort_rests {port : Nat} {k : Fin 8 → State × Reply} (hk : ∀ p, Rests s (k p).1) :
    Rests s (onOwnPort m port s k).1 := onOwnPort_cases (P := fun x => Rests s x.1) (.refl s) (.refl s) fun p _ => hk p

theorem onOwnPort_exact {port : Nat} {k : Fin 8 → State × Reply} (hs : UseCountsExact s) (hk : ∀ p, UseCountsExact (k p).1) :
    UseCountsExact (onOwnPort m port s k).1 := onOwnPort_cases (P := fun x => UseCountsExact x.1) hs hs fun p _ => hk p

theorem rests_of_state {t : State} (h : t = s) : Rests s t := h ▸ .refl s

/-- Every command keeps the use counts exact. -/
theorem runCommand_exact (m : Master) (c : Command) (hs : UseCountsExact s) : UseCountsExact (runCommand m c s).1 := by
  cases c
  case openProgram n k => exact openProgram_exact hs n k
  case writeStep n i r => exact writeStep_exact hs n i r
  case closeProgram n => exact closeProgram_exact hs n
  case deleteProgram n => exact deleteProgram_exact hs n
  case startRun p n i => exact onOwnPort_exact hs fun _ => startRun_exact hs n i
  case abortRun p => exact onOwnPort_exact hs fun _ => abortCommand_exact hs
  case clearFault p => exact clearFault_exact hs p
  case retryIdentify p => exact retryIdentify_exact hs p
  case deleteEntry x => exact deleteEntry_exact hs x
  case readEviction => exact readEviction_exact hs
  case clearLockout => exact clearLockout_exact hs
  all_goals refine Rests.exact ?_ hs
  case setLimits l => exact setLimits_rests l
  case setEnvelope p e => exact setEnvelope_rests p e
  case lockLimits => exact lockLimits_rests
  case readStep n i => exact rests_of_state (readStep_state n i)
  case claimPort p => exact claimPort_rests p
  case releasePort p => exact releasePort_rests p
  case takePort p => exact takePort_rests p
  case holdPort p => exact onOwnPort_rests fun _ => holdCommand_rests
  case resumePort p => exact onOwnPort_rests fun _ => resumeCommand_rests
  case setReservedPhases p n => exact onOwnPort_rests fun _ => reservePhases_rests n
  case setInterlockMask p l => exact setInterlockMask_rests p l
  case setCalibration p c o g => exact setCalibration_rests p c o g
  case setSettleEdges p e => exact setSettleEdges_rests p e
  case setPortDefaults p d => exact setPortDefaults_rests p d
  case readPortStatus p => exact onPort_rests fun _ => .refl s
  case readResult p => exact onOwnPort_rests fun _ => readResult_rests
  case peekResult p => exact onPort_rests fun _ => rests_of_state peekResult_state
  case readCapture p => exact onPort_rests fun _ => readCapture_rests
  case readHistory x => exact rests_of_state (readHistory_state x)
  case pinEntry x => exact pinEntry_rests x
  case unpinEntry x => exact unpinEntry_rests x
  case importEntry r => exact importEntry_rests r
  case setFallbackBudget b => exact setFallback_rests b
  case setStandaloneBudget b => exact setStandalone_rests b
  case setRampTime t => exact setRamp_rests t
  case setLockoutPolicy x => exact setPolicy_rests x
  case closeContactor => exact closeContactor_rests
  case openContactor => exact openContactor_rests
  case readCabinetStatus => exact .refl s
  case readFaultLog => exact rests_of_state readFaultLog_state
  case clearFaultLog => exact clearFaultLog_rests
  case setPhaseService f => exact servicePhase_rests f
  case readAttention => exact .refl s
  case clearAttention a => exact clearAttention_rests a
  case setAttentionMask a => exact setAttentionMask_rests a

end

/-! ### Frames that carry a command -/

section
variable {s : State}

theorem takeCommand_exact (m : Master) (code : Nat) (args : List Byte) (hs : UseCountsExact s) :
    UseCountsExact (takeCommand m code args s).1 := by
  unfold takeCommand
  split
  · exact runCommand_exact _ _ hs
  · exact hs
  · exact hs

theorem takeStationFrame_exact (bytes : List Byte) (hs : UseCountsExact s) : UseCountsExact (takeStationFrame bytes s) := by
  have hr {c : Nat} : UseCountsExact (frameRefused c s) := (cmd_rests _).exact hs
  unfold takeStationFrame
  dsimp only
  split
  · exact hs
  · iterate 2 (split; · exact hr)
    exact (deliver_rests _ _ _).exact (takeCommand_exact _ _ _ hs)

theorem endTransaction_exact (bytes : List Byte) (hs : UseCountsExact s) : UseCountsExact (endTransaction bytes s) := by
  unfold endTransaction
  split
  · exact hs
  · exact takeStationFrame_exact _ (((cmd_rests _).trans (send_rests _)).exact hs)

theorem takeSlot_exact (frame : List Byte) (n : Nat) (hs : UseCountsExact s) : UseCountsExact (takeSlot frame n s) := by
  unfold takeSlot
  dsimp only
  split
  · exact hs
  · split
    · exact (modChain_rests _).exact hs
    · exact (deliver_rests _ _ _).exact (takeCommand_exact _ _ _ hs)

theorem takeCycle_exact (frame : List Byte) (hs : UseCountsExact s) : UseCountsExact (takeCycle frame s) := by
  unfold takeCycle
  split
  · exact hs
  · dsimp only
    refine takeSlot_exact _ _ ((reformLines_rests.trans report_rests).exact ?_)
    have h {g : Chain → Chain} : Rests s (modChain g (send (.downstream frame) s)) := (send_rests _).trans (modChain_rests _)
    split
    · exact (h.trans (changeBudget_rests _ _)).exact hs
    · exact h.exact hs

theorem receiveChain_exact (frame : List Byte) (hs : UseCountsExact s) : UseCountsExact (receiveChain frame s) := by
  unfold receiveChain
  split
  · dsimp only
    split
    · exact ((modChain_rests _).trans (takeDiscover_rests _)).exact hs
    · exact ((modChain_rests _).trans (takeRenumber_rests _)).exact hs
  · split
    · exact takeCycle_exact _ ((modChain_rests _).exact hs)
    · exact discardFrame_rests.exact hs

end

/-! ### Rows and steps -/

/-- Every row but power-on reset keeps the use counts exact. -/
theorem exec_exact {i : Instr} {s t : State} (hi : isPowerOn i = false) (h : exec i s = .next t) (hs : UseCountsExact s) :
    UseCountsExact t := by
  by_cases hc : ∃ iss c, i.command = some (iss, c)
  · obtain ⟨iss, c, hc⟩ := hc
    obtain rfl := Host.Outcome.next.inj ((exec_command hc s).symm.trans h)
    exact (deliver_rests _ _ _).exact (runCommand_exact _ _ hs)
  · cases i
    case powerOnReset => simp [isPowerOn] at hi
    case transactionEnd bytes => obtain rfl := Host.Outcome.next.inj h; exact endTransaction_exact bytes hs
    case discover frame => obtain rfl := Host.Outcome.next.inj h; exact receiveChain_exact frame hs
    case renumber frame => obtain rfl := Host.Outcome.next.inj h; exact receiveChain_exact frame hs
    case cycleFrame frame => obtain rfl := Host.Outcome.next.inj h; exact receiveChain_exact frame hs
    case chainFrameDiscard frame => obtain rfl := Host.Outcome.next.inj h; exact receiveChain_exact frame hs
    case' transactionStart => have hk := (startTransaction_rests s).exact hs
    case' sampleArrival p reply => have hk := receiveReply_exact (p := p) reply hs
    case' sampleStrobe p => have hk := strobe_exact (p := p) hs
    case' lateSampleReply => have hk := hs
    case' measurementLost => have hk {p rd due} := namedInstant_exact (p := p) rd due hs
    case' settleWindowCheck => have hk {p rd due} := namedInstant_exact (p := p) rd due hs
    case' pulseEdge => have hk {p rd due} := namedInstant_exact (p := p) rd due hs
    case' captureB => have hk {p rd due} := namedInstant_exact (p := p) rd due hs
    case' durationEnd => have hk {p rd due} := namedInstant_exact (p := p) rd due hs
    case' drainComplete => have hk {p rd due} := namedInstant_exact (p := p) rd due hs
    case' rampComplete => have hk {p rd due} := namedInstant_exact (p := p) rd due hs
    case' holdDrainComplete => have hk {p rd due} := namedInstant_exact (p := p) rd due hs
    case' endingComplete => have hk {p rd due} := namedInstant_exact (p := p) rd due hs
    case' trip => have hk {p rd due} := namedInstant_exact (p := p) rd due hs
    case' thermalSwitch p => have hk := openThermal_exact (p := p) hs
    case' thermalSwitchClose p =>
      have hk : UseCountsExact (closeThermal p s) := (modProt_rests _).exact hs
    case' allocationTick => have hk := tickRequests_rests.exact hs
    case' presenceClose p => have hk := closePresence_exact (p := p) hs
    case' presenceOpen p => have hk := openPresence_exact (p := p) hs
    case' idReply p x r => have hk := receiveId_exact (p := p) hs x r
    case' idAttemptExpiry p => have hk := expireAttempt_exact (p := p) hs
    case' doorOpen => have hk := openDoor_exact hs
    case' doorClose => have hk := closeDoor_rests.exact hs
    case' phaseFault f high =>
      have hk : UseCountsExact (if high then riseFault f s else fallFault f s) := by
        split
        · exact riseFault_rests.exact hs
        · exact (modPhase_rests f _).exact hs
    case' activeLineFall f => have hk := (fallActive_rests (f := f)).exact hs
    case' ackWatchExpiry f => have hk := expireWatch_exact (f := f) hs
    case' activeLineRise f => have hk := riseActive_exact (f := f) hs
    case' feedbackClose => have hk := closeFeedback_exact hs
    case' feedbackOpen => have hk := openFeedback_exact hs
    case' closingWatchExpiry => have hk := expireClosing_rests.exact hs
    case' openingWatchExpiry => have hk := expireOpening_exact hs
    case' cooldownExpiry => have hk := endCooldown_exact hs
    case' silenceTimeout => have hk := expireSilence_rests.exact hs
    case' answerFrame frame => have hk := (takeAnswer_rests frame).exact hs
    case' answerWatchExpiry => have hk := expireAnswer_rests.exact hs
    case' upstreamFrame frame => have hk := (takeUpstream_rests frame).exact hs
    case' upstreamWaitExpiry => have hk := expireUplink_rests.exact hs
    all_goals first
      | exact absurd ⟨_, _, rfl⟩ hc
      | (obtain rfl := Host.Outcome.next.inj h; exact hk)

/-- The blocks at power-on reset meet the invariant. -/
theorem blocksAtReset_exact (lines : InputLines) : UseCountsExact (State.blocksAtReset lines) := by
  refine exact_of_vacant (fun q => ?_) (fun n => ?_) rfl
  · simp [State.blocksAtReset, Port.atReset]
  · simp [State.blocksAtReset, Header.empty]

/-- Power-on reset and what the levels of the lines bring (R93, R141, R164). -/
theorem powerOn_exact (lines : InputLines) (s : State) : UseCountsExact (powerOn lines s) := by
  unfold powerOn
  dsimp only
  have h : UseCountsExact { State.blocksAtReset lines with
      instants := s.instants
      pending := s.pending
      pool := { (State.blocksAtReset lines).pool with
        phases := (State.blocksAtReset lines).pool.phases.map fun ph => if ph.faultHigh then outOfService ph else ph } } :=
    blocksAtReset_exact lines
  refine presenceDetection_exact ?_
  split
  · exact lockoutCause_exact h _ _
  · exact h

/-- Settles O27: runs bind and unbind with the count, identification touches no binding, and the resets bind nothing. -/
theorem useCountsKept : Obligations.UseCountsKept := by
  intro s t hs h
  unfold step at h
  split at h
  · obtain rfl := Host.Outcome.next.inj h
    exact tick_rests.exact hs
  · next i rest hp =>
    have hs : UseCountsExact { s with pending := rest } := hs
    by_cases hi : isPowerOn i = true
    · cases i <;> simp only [isPowerOn, Bool.false_eq_true] at hi
      obtain rfl := Host.Outcome.next.inj h
      exact powerOn_exact _ _
    · exact exec_exact (Bool.eq_false_iff.mpr hi) h hs

end Sys2Proof.UseCounts
end

section
/-! PROOFS. The step and its queue, the rows that are commands, and what a refusal leaves. -/

open Sys2Proof Sys2Proof.Machine Sys2Proof.Bounded

namespace Sys2Proof.Rows

/-! ### The step -/

theorem step_front {s : State} {c : Instr} {rest : List Instr} (h : s.pending = c :: rest) :
    step s = exec c { s with pending := rest } := by
  simp only [step, h]

theorem step_empty {s : State} (h : s.pending = []) : step s = .next (tick s) := by
  simp only [step, h]

/-- Settles O1. -/
theorem stepTakesFront : Obligations.StepTakesFront := fun _ _ _ h => step_front h

/-- A cooldown runs down and every other cabinet state stands (R164, R180). -/
theorem tickProtection_cabinet (x : Protection) :
    (∀ r, x.cabinet = .cooldown r → (tickProtection x).cabinet = .cooldown (r - 1)) ∧
    ((∀ r, x.cabinet ≠ .cooldown r) → (tickProtection x).cabinet = x.cabinet) := by
  unfold tickProtection
  cases x.cabinet with
  | normal => exact ⟨fun _ h => absurd h (by simp), fun _ => rfl⟩
  | waiting b => exact ⟨fun _ h => absurd h (by simp), fun _ => rfl⟩
  | cooldown k =>
    refine ⟨fun r h => ?_, fun h => absurd rfl (h k)⟩
    obtain rfl := CabinetState.cooldown.inj h
    rfl

/-- Settles O2: `tick` moves the times and nothing else. -/
theorem emptyQueueTicks : Obligations.EmptyQueueTicks := by
  intro s h
  obtain ⟨hcool, hkeep⟩ := tickProtection_cabinet s.prot
  refine ⟨tick s, step_empty h, rfl, hcool, hkeep, rfl, rfl, fun f => ?_, fun p => ?_, rfl, rfl, rfl, fun p => ?_,
    rfl, rfl, rfl, rfl, rfl⟩
  · simp [tick, elapse]
  · simp [tick, tickIdent]
  · simp [tick]

/-! ### Command rows -/

/-- Settles O7: the rows' arms and `runCommand` name the same functions. -/
theorem rowsRunTheirCommand : Obligations.RowsRunTheirCommand := fun _ _ _ s h => exec_command h s

/-! ### Refusals -/

/-- A command is answered OK, or it leaves the state. -/
def Settled (s : State) (x : State × Reply) : Prop := x.2.code = .ok ∨ x.1 = s

section
variable {s : State}

@[simp] theorem settled_refuse (c : ReplyCode) : Settled s (refuse c s) := .inr rfl
@[simp] theorem settled_refuseWith (c : ReplyCode) (d : List Byte) : Settled s (refuseWith c d s) := .inr rfl
@[simp] theorem settled_done (t : State) : Settled s (done t) := .inl rfl
@[simp] theorem settled_answer (d : List Byte) (t : State) : Settled s (answer d t) := .inl rfl
@[simp] theorem settled_doneClamped (c : Bool) (t : State) : Settled s (doneClamped c t) := .inl rfl

/-- A check settles where both of its sides do. -/
@[simp] theorem settled_ite {c : Prop} [Decidable c] {x y : State × Reply} :
    Settled s (if c then x else y) ↔ (c → Settled s x) ∧ (¬ c → Settled s y) := by
  split <;> simp [*]

theorem onPort_settled {port : Nat} {k : Fin 8 → State × Reply} (hk : ∀ p, Settled s (k p)) : Settled s (onPort port s k) :=
  onPort_cases (settled_refuse _) hk

theorem onOwnPort_settled {m : Master} {port : Nat} {k : Fin 8 → State × Reply} (hk : ∀ p, Settled s (k p)) :
    Settled s (onOwnPort m port s k) := onOwnPort_cases (settled_refuse _) (settled_refuse _) fun p _ => hk p

theorem onProgram_settled {n : Nat} {k : Fin 32 → State × Reply} (hk : ∀ n, Settled s (k n)) : Settled s (onProgram n s k) :=
  onProgram_cases (settled_refuse _) hk

theorem onEntry_settled {x : Selector} {k : Fin 64 → Entry → State × Reply} (hk : ∀ e y, Settled s (k e y)) :
    Settled s (onEntry x s k) := onEntry_cases settled_refuse fun e y _ => hk e y

/-- Every command is answered OK, or leaves the state. -/
theorem runCommand_settled (m : Master) (c : Command) (s : State) : Settled s (runCommand m c s) := by
  cases c
  case openProgram n k => exact onProgram_settled fun _ => by simp
  case writeStep n i r =>
    refine onProgram_settled fun _ => ?_
    simp only [settled_ite, settled_refuse, implies_true, true_and]
    intros
    split <;> simp
  case closeProgram n =>
    refine onProgram_settled fun _ => ?_
    simp only [settled_ite, settled_refuse, implies_true, true_and]
    intros
    split <;> simp
  case deleteProgram n => exact onProgram_settled fun _ => by simp
  case readStep n i =>
    refine onProgram_settled fun _ => ?_
    dsimp only
    split
    · simp
    · split <;> simp
  case claimPort p => exact onPort_settled fun _ => by simp
  case releasePort p => exact onOwnPort_settled fun _ => by simp
  case takePort p =>
    show Settled s (takePort m p s)
    unfold takePort
    split
    · simp
    · exact onPort_settled fun _ => by simp
  case startRun p n i =>
    refine onOwnPort_settled fun _ => ?_
    unfold startRun
    exact onProgram_settled fun _ => by simp
  case holdPort p => exact onOwnPort_settled fun _ => by simp [holdCommand]
  case resumePort p => exact onOwnPort_settled fun _ => by simp [resumeCommand]
  case abortRun p => exact onOwnPort_settled fun _ => by simp [abortCommand]
  case clearFault p => exact onOwnPort_settled fun _ => by simp
  case retryIdentify p => exact onPort_settled fun _ => by simp
  case setEnvelope p e => exact onOwnPort_settled fun _ => by simp
  case setReservedPhases p n => exact onOwnPort_settled fun _ => by simp [reservePhases]
  case setInterlockMask p l => exact onOwnPort_settled fun _ => by simp
  case setCalibration p c o g =>
    refine onOwnPort_settled fun _ => ?_
    split <;> simp
  case setSettleEdges p e =>
    refine onOwnPort_settled fun _ => ?_
    split <;> simp
  case setPortDefaults p d => exact onOwnPort_settled fun _ => by simp
  case readPortStatus p => exact onPort_settled fun _ => by simp [readPortStatus]
  case readResult p =>
    refine onOwnPort_settled fun _ => ?_
    unfold readResult
    split <;> simp
  case peekResult p =>
    refine onPort_settled fun _ => ?_
    unfold peekResult
    split <;> simp
  case readCapture p =>
    refine onPort_settled fun _ => ?_
    unfold readCapture
    dsimp only
    split <;> simp
  case readHistory x => exact onEntry_settled fun _ _ => by simp
  case pinEntry x => exact onEntry_settled fun _ _ => by simp
  case unpinEntry x => exact onEntry_settled fun _ _ => by simp
  case importEntry r =>
    show Settled s (importEntry r s)
    unfold importEntry
    simp only [settled_ite, settled_refuse, implies_true, true_and]
    intros
    split <;> simp
  case deleteEntry x => exact onEntry_settled fun _ _ => by simp
  case readEviction =>
    show Settled s (readEviction s)
    unfold readEviction
    split <;> simp
  case setLimits l => simp [runCommand, setLimits]
  case lockLimits => simp [runCommand, lockLimits]
  case setFallbackBudget b => simp [runCommand, setFallback]
  case setStandaloneBudget b => simp [runCommand, setStandalone]
  case setRampTime t => simp [runCommand, setRamp]
  case setLockoutPolicy x =>
    show Settled s (setPolicy m x s)
    unfold setPolicy
    split
    · simp
    · split <;> simp
  case closeContactor => simp [runCommand, closeContactor]
  case openContactor => simp [runCommand, openContactor]
  case clearLockout =>
    show Settled s (clearLockout s)
    unfold clearLockout
    split <;> simp
  case readCabinetStatus => simp [runCommand, readCabinetStatus]
  case readFaultLog => simp [runCommand, readFaultLog]
  case clearFaultLog => simp [runCommand, clearFaultLog]
  case setPhaseService f =>
    show Settled s (servicePhase f s)
    unfold servicePhase
    split <;> simp
  case readAttention => simp [runCommand, readAttention]
  case clearAttention a => simp [runCommand, clearAttention]
  case setAttentionMask a => simp [runCommand, setAttentionMask]

theorem runCommand_refused {m : Master} {c : Command} (h : (runCommand m c s).2.code ≠ .ok) : (runCommand m c s).1 = s :=
  (runCommand_settled m c s).resolve_left h

end

/-- Settles O8: `runCommand_settled`, with the two places a reply is put in. -/
theorem refusedChangesNothing : Obligations.RefusedChangesNothing := by
  refine ⟨fun _ _ _ => runCommand_refused, fun i c s hi h => ?_, fun i tag c s hi h => ?_⟩
  · rw [exec_command hi]
    simp only [deliver, stationReply, Issuer.master, runCommand_refused h]
  · rw [exec_command hi]
    simp only [deliver, hallReply, Issuer.master, runCommand_refused h]

end Sys2Proof.Rows
end

section
/-! PROOFS. Port ownership and the settings that the owner of a port replaces: CLAIM_PORT to TAKE_PORT, calibration, settle edges,
defaults, envelope, and CLEAR_FAULT. -/

open Sys2Proof Sys2Proof.Machine Sys2Proof.Indexing

namespace Sys2Proof.Owners

/-! ### The checks of R28 -/

/-- A port-changing command is its work behind the checks of R28. -/
theorem runCommand_ownedPort {c : Command} {port : Nat} (h : ownedPort c = some port) (m : Master) (s : State) :
    ∃ k, runCommand m c s = onOwnPort m port s k := by
  cases c <;> simp only [ownedPort, Option.some.injEq, reduceCtorEq] at h <;> subst h
  case clearFault p => exact ⟨_, by rw [runCommand, clearFault]⟩
  case setEnvelope p e => exact ⟨_, by rw [runCommand, setEnvelope]⟩
  case setInterlockMask p l => exact ⟨_, by rw [runCommand, setInterlockMask]⟩
  case setCalibration p c o g => exact ⟨_, by rw [runCommand, setCalibration]⟩
  case setSettleEdges p e => exact ⟨_, by rw [runCommand, setSettleEdges]⟩
  case setPortDefaults p d => exact ⟨_, by rw [runCommand, setPortDefaults]⟩
  all_goals exact ⟨_, rfl⟩

theorem onOwnPort_beyond {m : Master} {port : Nat} {s : State} (h : 8 ≤ port) (k : Fin 8 → State × Reply) :
    onOwnPort m port s k = refuse .badField s := onPort_beyond h _

/-- Settles O10. -/
theorem ownershipChecked : Obligations.OwnershipChecked := by
  refine ⟨fun m c port s hc h => ?_, fun m c p s hc h => ?_, fun m port s h => ?_, fun m p s h hn => ?_⟩
  · obtain ⟨k, hk⟩ := runCommand_ownedPort hc m s
    rw [hk, onOwnPort_beyond h]
  · obtain ⟨k, hk⟩ := runCommand_ownedPort hc m s
    rw [hk, onOwnPort_other h]
  · show retryIdentify m port s = _
    rw [retryIdentify, onPort_beyond h]
  · show retryIdentify m p.val s = _
    rw [retryIdentify, onPort_fin, if_pos ⟨h, hn⟩]

/-! ### Owners -/

theorem hasPortFlag_withPortFlag (a : Attention) (p : Fin 8) (f : PortFlag) : hasPortFlag (withPortFlag a p f) p f = true := by
  simp only [hasPortFlag, withPortFlag, Fin.getElem_fin, Vector.getElem_set_self]
  exact byte_or_sets _ _ (by cases f <;> decide)

/-- Settles O17. -/
theorem ownersChange : Obligations.OwnersChange := by
  refine ⟨fun iss port s h => ?_, fun iss p s => ?_, fun iss p s => ?_, fun iss port s h => ?_, fun _ _ => rfl,
    fun tag port s h => ?_, fun tag p s => ?_, fun p s => ⟨hasPortFlag_withPortFlag _ _ _, rfl⟩⟩
  · show replied iss 6 (claimPort iss.master port s) = _
    rw [claimPort, onPort_beyond h]
  · show replied iss 6 (claimPort iss.master p.val s) = _
    rw [claimPort, onPort_fin, ite_not]
    rfl
  · show replied iss 7 (releasePort iss.master p.val s) = _
    rw [releasePort, onOwnPort, onPort_fin]
    rfl
  · show replied iss 7 (releasePort iss.master port s) = _
    rw [releasePort, onOwnPort_beyond h]
  · show replied (.hall tag) 8 (takePort .hall port s) = _
    rw [takePort, if_neg (by simp), onPort_beyond h]
  · show replied (.hall tag) 8 (takePort .hall p.val s) = _
    rw [takePort, if_neg (by simp), onPort_fin]
    rfl

/-! ### Settings -/

/-- The channels of R61 are 0 to 2. -/
theorem withCalibration_eq (channel : Nat) (c : Calibration) (i : Intake) : withCalibration channel c i =
    if 2 < channel then none else some (if channel = 0 then { i with voltageCal := c }
      else if channel = 1 then { i with currentCal := c } else { i with temperatureCal := c }) := by
  match channel with
  | 0 | 1 | 2 => rfl
  | n + 3 =>
    rw [if_pos (by omega)]
    rfl

theorem edgesOf_none_iff (setting : Nat) : edgesOf setting = none ↔ 3 < setting := by
  match setting with
  | 0 | 1 | 2 | 3 => simp [edgesOf]
  | n + 4 => simp [edgesOf]

theorem calibrationInRange_iff (offset : Int) (gain : Nat) :
    calibrationInRange offset gain = false ↔ offset < -8388608 ∨ 8388607 < offset ∨ 65535 < gain := by
  simp only [calibrationInRange, Bool.and_eq_false_iff, decide_eq_false_iff_not]
  omega

theorem defaultsInRange_iff (d : PortDefaults) : defaultsInRange d = false ↔
    65535 < d.currentTol ∨ 65535 < d.voltageTol ∨ 65535 < d.powerTol ∨ d.cvGain < 1 ∨ 255 < d.cvGain := by
  simp only [defaultsInRange, Bool.and_eq_false_iff, decide_eq_false_iff_not]
  omega

/-- A port update by what the port holds. -/
theorem modPort_congr {p : Fin 8} {g g' : Port → Port} {s : State} (h : g s.ports[p] = g' s.ports[p]) :
    modPort p g s = modPort p g' s := by
  simp only [modPort, h]

/-- Settles O18. -/
theorem portSettingsReplaced : Obligations.PortSettingsReplaced := by
  refine fun iss p s h => ⟨fun channel offset gain => ?_, fun setting => ⟨?_, edgesOf_none_iff setting⟩, fun d => ?_⟩
  · show replied iss 18 (setCalibration iss.master p.val channel offset gain s) = _
    rw [setCalibration, onOwnPort_owner h, withCalibration_eq]
    congr 2
    by_cases hc : 2 < channel
    · rw [if_pos hc, if_pos (.inl hc)]
    · rw [if_neg hc]
      dsimp only
      by_cases hr : calibrationInRange offset gain = false
      · rw [if_pos (by simp [hr]), if_pos (.inr ((calibrationInRange_iff _ _).mp hr))]
      · have hn : ¬ (2 < channel ∨ offset < -8388608 ∨ 8388607 < offset ∨ 65535 < gain) := by
          rw [calibrationInRange_iff] at hr
          omega
        rw [if_neg (by simpa using hr), if_neg hn]
        split
        · rfl
        · exact congrArg done (modPort_congr rfl)
  · show replied iss 19 (setSettleEdges iss.master p.val setting s) = _
    rw [setSettleEdges, onOwnPort_owner h]
    cases edgesOf setting <;> rfl
  · show replied iss 20 (setPortDefaults iss.master p.val d s) = _
    rw [setPortDefaults, onOwnPort_owner h]
    simp only [Bool.not_eq_true, defaultsInRange_iff]

/-- Settles O19. -/
theorem envelopeSet : Obligations.EnvelopeSet := by
  refine fun iss p e s h => ⟨fun hr => ?_, fun hr => ?_⟩
  · refine ⟨modProt p (fun x => formEnvelope s.prot.limits { x with requested := e }) s,
      decide (effectiveOf s.prot.limits e ≠ e), ?_, rfl, ?_, ?_⟩
    · show replied iss 15 (setEnvelope iss.master p.val e s) = _
      rw [setEnvelope, onOwnPort_owner h, if_neg (by simp [hr])]
    · rw [modProt, modPort_self]
      simp [formEnvelope]
    · have hle : e.vMin ≤ e.vMax := by
        simp only [envelopeInRange, Bool.and_eq_true, decide_eq_true_eq] at hr
        exact hr.2
      rw [modProt, modPort_self]
      simp only [formEnvelope, effectiveOf]
      omega
  · show replied iss 15 (setEnvelope iss.master p.val e s) = _
    rw [setEnvelope, onOwnPort_owner h, if_pos (by simp [hr])]

theorem clearedState_eq (i : Ident) : clearedState i =
    if i.present = false then .vacant else if i.bound = none then .unidentified else .ready := by
  unfold clearedState
  cases i.present <;> cases i.bound <;> rfl

/-- Settles O24. -/
theorem clearFaultClears : Obligations.ClearFaultClears := by
  intro iss p s h
  show replied iss 13 (clearFault iss.master p.val s) = _
  rw [clearFault, onOwnPort_owner h]
  simp only [clearedState_eq, ite_or, inLockout, decide_eq_true_eq, Bool.and_eq_true, and_assoc]

end Sys2Proof.Owners
end

section
/-! PROOFS. Building and closing programs (R5, R6, R17 to R19): the two building commands, what validation has passed, the LOOP
numbers, and the bounded chain of instant steps that a validated program takes (R31). -/

open Sys2Proof Sys2Proof.Machine Sys2Proof.Indexing Sys2Proof.StepPrograms Sys2Proof.UseCounts

namespace Sys2Proof.Programs

/-! ### Building (R5, R6) -/

theorem recordAt_modHeader_set {n : Fin 32} {i : Nat} {r : StepRecord} {s : State} (hi : i < s.headers[n].steps.length) (j : Nat) :
    recordAt n j (modHeader n (fun h => { h with steps := h.steps.set i (some r) }) s) =
      if j = i then some r else recordAt n j s := by
  rw [recordAt, modHeader_header, if_pos rfl, List.getElem?_set]
  by_cases e : i = j
  · rw [if_pos e, if_pos e.symm, if_pos hi]
    rfl
  · rw [if_neg e, if_neg (Ne.symm e)]
    rfl

/-- A slot written raises the written count where it was unwritten. -/
theorem length_filter_isSome_set {α : Type} (r : α) : ∀ (l : List (Option α)) (i : Nat), i < l.length →
    ((l.set i (some r)).filter Option.isSome).length =
      (l.filter Option.isSome).length + (if (l[i]?).join = none then 1 else 0)
  | none :: l, 0, _ => by simp
  | some x :: l, 0, _ => by simp
  | none :: l, i + 1, h => by simpa using length_filter_isSome_set r l i (by simpa using h)
  | some x :: l, i + 1, h => by
    have ih := length_filter_isSome_set r l i (by simpa using h)
    simp only [List.set_cons_succ, List.filter_cons, Option.isSome_some, if_true, List.length_cons, List.getElem?_cons_succ, ih]
    omega

/-- Settles O12. -/
theorem programBuilt : Obligations.ProgramBuilt := by
  refine ⟨fun iss n k s hs he h1 h64 hk => ?_, fun iss n i record r s hb ha hi hr => ?_⟩
  · have hfree := freeSlots_modHeader hs n fun _ => ⟨.building, iss.master, List.replicate k none, 0, []⟩
    have hempty : s.headers[n].steps = [] := (hs.2 n).1 he
    rw [hempty, List.length_replicate] at hfree
    refine ⟨_, ?_, rfl, ?_, ?_⟩
    · show replied iss 1 (openProgram iss.master n.val k s) = _
      rw [openProgram, onProgram_fin, if_neg (by omega), if_neg (not_not.mpr he), if_neg (by omega)]
      simp only [hfree]
      rfl
    · rw [hfree, List.length_nil]
      omega
    · rw [modHeader_header, if_pos rfl, writtenCount]
      simp
  · refine ⟨_, ?_, rfl, ?_, fun j hj => ?_, ?_⟩
    · show replied iss 2 (writeStep iss.master n.val i record s) = _
      rw [writeStep, onProgram_fin, if_neg (not_not.mpr hb), if_neg (not_not.mpr ha), if_neg (by omega), hr]
    · rw [recordAt_modHeader_set hi, if_pos rfl]
    · rw [recordAt_modHeader_set hi, if_neg hj]
    · rw [modHeader_header, if_pos rfl, writtenCount, length_filter_isSome_set r _ _ hi]
      rfl

/-! ### Validation (R18) -/

theorem validate_none_iff (steps : List (Option StepRecord)) :
    validate steps = none ↔ ∀ i < steps.length, checkStep steps i = none := by
  simp [validate, List.findSome?_eq_none_iff]

/-- The failure reported is that of the first index that fails. -/
theorem validate_some {steps : List (Option StepRecord)} {i : Nat} {f : CloseFailure} (h : validate steps = some (i, f)) :
    i < steps.length ∧ checkStep steps i = some f ∧ ∀ j < i, checkStep steps j = none := by
  obtain ⟨l, a, l', hl, ha, hbefore⟩ := List.findSome?_eq_some_iff.mp h
  obtain ⟨f', hf', he⟩ := Option.map_eq_some_iff.mp ha
  obtain ⟨rfl, rfl⟩ := Prod.mk.inj he
  have hlen : l.length < steps.length := by
    have := congrArg List.length hl
    simp only [List.length_range, List.length_append, List.length_cons] at this
    omega
  have hget (k : Nat) (hk : k < steps.length) : (l ++ a :: l')[k]? = some k := by
    rw [← hl, List.getElem?_range hk]
  have ha : l.length = a := by
    have := hget l.length hlen
    simpa using this.symm
  refine ⟨ha ▸ hlen, hf', fun j hj => ?_⟩
  have hjl : j < l.length := by omega
  have hmem : j ∈ l := by
    have := hget j (by omega)
    rw [List.getElem?_append_left hjl] at this
    exact List.mem_of_getElem? this
  simpa using hbefore j hmem

/-- A record whose fields pass: its LOOP repeats (R7, R18). -/
theorem repeatCount_of_fields {r : StepRecord} (h : recordFieldFailure r = none) (hk : r.kind = .loop) : 1 ≤ r.repeatCount := by
  simp only [recordFieldFailure, Option.map_eq_none_iff, List.find?_eq_none, List.mem_cons, forall_eq_or_imp, hk] at h
  simp at h
  omega

/-- What an index that passes its checks holds (R18). -/
theorem checkStep_none {steps : List (Option StepRecord)} {i : Nat} (h : checkStep steps i = none) :
    ∃ r, (steps[i]?).join = some r ∧ (∀ c ∈ r.conditions, gotoBeyond steps.length c = false) ∧
      (r.kind = .pulse → 1 ≤ r.captureDelay ∧ r.captureDelay ≤ r.pulseTime) ∧
      (r.kind = .loop → 1 ≤ r.repeatCount ∧ r.loopTarget < i ∧ targetInstant steps r.loopTarget = false ∧
        loopsBefore steps i < 16) := by
  unfold checkStep at h
  split at h
  · cases h
  next r hr =>
  split at h
  · cases h
  next hfield =>
  split at h
  · cases h
  split at h
  · cases h
  split at h
  · cases h
  next hgoto =>
  have hfields : recordFieldFailure r = none := by
    unfold fieldRange at hfield
    split at hfield
    · cases hfield
    · assumption
  refine ⟨r, hr, fun c hc => ?_, fun hk => ?_, fun hk => ?_⟩
  · have := List.findIdx?_eq_none_iff.mp hgoto c hc
    simpa using this
  · split at h
    · cases h
    next hdelay =>
    have := not_and.mp hdelay hk
    omega
  · have hrep := repeatCount_of_fields hfields hk
    split at h
    · cases h
    split at h
    · next hk' => exact absurd hk hk'
    split at h
    · cases h
    next htarget =>
    split at h
    · cases h
    next hinstant =>
    split at h
    · cases h
    next hloops =>
    exact ⟨hrep, by omega, by simpa using hinstant, by omega⟩

section
variable {steps : List (Option StepRecord)}

/-- Every index of a validated list holds a record. -/
theorem record_of_validate (h : validate steps = none) {i : Nat} (hi : i < steps.length) : ∃ r, steps[i]? = some (some r) := by
  obtain ⟨r, hr, -⟩ := checkStep_none ((validate_none_iff _).mp h i hi)
  exact ⟨r, by simpa [Option.join_eq_some_iff] using hr⟩

theorem lt_length_of_record {i : Nat} {r : StepRecord} (h : steps[i]? = some (some r)) : i < steps.length :=
  (List.getElem?_eq_some_iff.mp h).1

/-- What validation has passed of a record. -/
theorem checks_of_validate (h : validate steps = none) {i : Nat} {r : StepRecord} (hr : steps[i]? = some (some r)) :
    (∀ c ∈ r.conditions, gotoBeyond steps.length c = false) ∧
      (r.kind = .pulse → 1 ≤ r.captureDelay ∧ r.captureDelay ≤ r.pulseTime) ∧
      (r.kind = .loop → 1 ≤ r.repeatCount ∧ r.loopTarget < i ∧ targetInstant steps r.loopTarget = false ∧
        loopsBefore steps i < 16) := by
  obtain ⟨x, hx, hrest⟩ := checkStep_none ((validate_none_iff _).mp h i (lt_length_of_record hr))
  rw [hr, Option.join_some] at hx
  obtain rfl := Option.some.inj hx
  exact hrest

/-- A LOOP of a validated list goes back to a timed step below it. -/
theorem loopTarget_timed (h : validate steps = none) {i : Nat} {r : StepRecord} (hr : steps[i]? = some (some r))
    (hk : r.kind = .loop) : ∃ x, steps[r.loopTarget]? = some (some x) ∧ isTimed x.kind = true := by
  obtain ⟨-, -, hloop⟩ := checks_of_validate h hr
  obtain ⟨-, hlt, hinstant, -⟩ := hloop hk
  obtain ⟨x, hx⟩ := record_of_validate h (Nat.lt_trans hlt (lt_length_of_record hr))
  exact ⟨x, hx, by simpa [targetInstant, hx] using hinstant⟩

/-! ### LOOP numbers (R19) -/

theorem loopsBefore_zero : loopsBefore steps 0 = 0 := rfl

theorem loopsBefore_length : loopsBefore steps steps.length = loopCount steps := by
  rw [loopsBefore, List.take_length, loopCount]

theorem loopsBefore_succ {i : Nat} {r : Option StepRecord} (hr : steps[i]? = some r) :
    loopsBefore steps (i + 1) = loopsBefore steps i + (if isLoop r then 1 else 0) := by
  rw [loopsBefore, List.take_add_one, hr, Option.toList_some, List.filter_append, List.length_append, loopsBefore,
    List.filter_singleton]
  split <;> simp [*]

theorem isLoop_some (r : StepRecord) : isLoop (some r) = decide (r.kind = .loop) := rfl

theorem loopsBefore_le (h : validate steps = none) : ∀ i ≤ steps.length, loopsBefore steps i ≤ 16
  | 0, _ => Nat.zero_le _
  | i + 1, hi => by
    obtain ⟨r, hr⟩ := record_of_validate h (Nat.lt_of_succ_le hi)
    have ih := loopsBefore_le h i (Nat.le_of_succ_le hi)
    rw [loopsBefore_succ hr, isLoop_some]
    by_cases hk : r.kind = .loop
    · obtain ⟨-, -, hloop⟩ := checks_of_validate h hr
      obtain ⟨-, -, -, hlt⟩ := hloop hk
      rw [if_pos (decide_eq_true hk)]
      exact hlt
    · rw [if_neg (by simpa using hk)]
      exact ih

theorem loopsBefore_le_loopCount (i : Nat) : loopsBefore steps i ≤ loopCount steps :=
  ((List.take_sublist i steps).filter _).length_le

theorem assignLoops_get {i : Nat} {r : StepRecord} (hr : steps[i]? = some (some r)) :
    (assignLoops steps)[i]? = some (if r.kind = .loop then some (loopsBefore steps i) else none) := by
  rw [assignLoops, List.getElem?_map, List.getElem?_range (lt_length_of_record hr), Option.map_some, hr, Option.join_some,
    isLoop_some]
  simp

end

/-- Settles O13. -/
theorem closeProgramJudges : Obligations.CloseProgramJudges := by
  refine ⟨fun iss n s hb ha => ?_, fun steps h => ⟨fun i hi => ?_, ?_, ?_, rfl, loopsBefore_length, fun i r hr => ?_⟩⟩
  · have hclose {x : State × Reply} (hx : closeProgram iss.master n.val s = x) :
        exec (.closeProgram iss n.val) s = replied iss 3 x := by rw [← hx]; rfl
    refine ⟨fun h => hclose ?_, fun i f h => ⟨hclose ?_, validate_some h⟩⟩ <;>
      simp only [closeProgram, onProgram_fin, hb, ha, h, ne_eq, not_true_eq_false, if_false]
  · obtain ⟨r, hr⟩ := record_of_validate h hi
    obtain ⟨hgoto, hpulse, hloop⟩ := checks_of_validate h hr
    refine ⟨r, hr, fun c hc t ht => ?_, fun hk => ?_, hpulse⟩
    · have := hgoto c hc
      simpa [gotoBeyond, ht] using this
    · obtain ⟨hrep, htarget, -, -⟩ := hloop hk
      exact ⟨hrep, htarget, loopTarget_timed h hr hk⟩
  · rw [← loopsBefore_length]
    exact loopsBefore_le h _ le_rfl
  · simp [assignLoops]
  · obtain ⟨-, -, hloop⟩ := checks_of_validate h hr
    rw [assignLoops_get hr, loopsBefore_succ hr, isLoop_some]
    refine ⟨fun hk => ?_, fun hk => ?_⟩
    · obtain ⟨-, -, -, hlt⟩ := hloop hk
      simp [hk, hlt]
    · simp [hk]

/-! ### The chain of instant steps (R31) -/

/-- A LOOP taken leaves the program bound and its steps as they are. -/
theorem takeLoop_program {p : Fin 8} {n m : Fin 32} {i : Nat} {r : StepRecord} {s : State} :
    (takeLoop p n i r s).2.ports[p].run.program = s.ports[p].run.program ∧
    (takeLoop p n i r s).2.headers[m].steps = s.headers[m].steps := by
  refine ⟨(takeLoop_rests n i r).program p, ?_⟩
  have h := (takeLoop_portWork (b := false) (p := p) (s := s) n i r).content m
  exact congrArg (fun x => x.2.2.1) h

/-- A LOOP leads back to its target, or on. -/
theorem takeLoop_next (p : Fin 8) (n : Fin 32) (i : Nat) (r : StepRecord) (s : State) :
    (takeLoop p n i r s).1 = r.loopTarget ∨ (takeLoop p n i r s).1 = i + 1 := by
  unfold takeLoop
  dsimp only
  split
  · exact .inl rfl
  · exact .inr rfl

theorem enterIndex_succ {p : Fin 8} {n : Fin 32} {s : State} (hp : s.ports[p].run.program = some n) (fuel i : Nat) :
    enterIndex p (fuel + 1) i s = match recordAt n i s with
      | none => enterEnding .completed p s
      | some r => match r.kind with
        | .endRun => enterEnding .completed p s
        | .loop => enterIndex p fuel (takeLoop p n i r s).1 (takeLoop p n i r s).2
        | _ => enterTransfer p i r s := by
  rw [enterIndex]
  split
  · next h => rw [hp] at h; cases h
  · next m h =>
    rw [hp] at h
    obtain rfl := Option.some.inj h
    rfl

/-- An index that holds no LOOP is entered at once. -/
theorem enterIndex_stops {p : Fin 8} {n : Fin 32} {i : Nat} {s : State} (hp : s.ports[p].run.program = some n)
    (h : ∀ r, recordAt n i s = some r → r.kind ≠ .loop) (fuel fuel' : Nat) :
    enterIndex p (fuel + 1) i s = enterIndex p (fuel' + 1) i s := by
  rw [enterIndex_succ hp, enterIndex_succ hp]
  split
  · rfl
  · next r hr =>
    split
    · rfl
    · next hk => exact absurd hk (h r hr)
    · rfl

/-- The LOOPs from an index on bound the fuel that the chain from there uses. -/
theorem enterIndex_fuel {p : Fin 8} {n : Fin 32} (extra : Nat) : ∀ (fuel i : Nat) (s : State),
    s.ports[p].run.program = some n → validate s.headers[n].steps = none →
    loopCount s.headers[n].steps + 2 ≤ fuel + loopsBefore s.headers[n].steps i →
    enterIndex p (fuel + extra) i s = enterIndex p fuel i s
  | 0, i, s, _, _, h => by
    have hle := loopsBefore_le_loopCount (steps := s.headers[n].steps) i
    omega
  | fuel + 1, i, s, hp, hv, h => by
    have hle := loopsBefore_le_loopCount (steps := s.headers[n].steps) (i + 1)
    by_cases hloop : ∃ r, recordAt n i s = some r ∧ r.kind = .loop
    · obtain ⟨r, hr, hk⟩ := hloop
      have hget : s.headers[n].steps[i]? = some (some r) := by simpa [recordAt, Option.join_eq_some_iff] using hr
      have hsucc := loopsBefore_succ hget
      rw [isLoop_some, if_pos (decide_eq_true hk)] at hsucc
      obtain ⟨hprog, hsteps⟩ := takeLoop_program (p := p) (n := n) (m := n) (i := i) (r := r) (s := s)
      have hp' := hprog.trans hp
      rw [Nat.add_right_comm, enterIndex_succ hp, enterIndex_succ hp, hr]
      simp only [hk]
      rcases takeLoop_next p n i r s with htarget | hon
      · obtain ⟨x, hx, htimed⟩ := loopTarget_timed hv hget hk
        obtain ⟨f, rfl⟩ : ∃ f, fuel = f + 1 := ⟨fuel - 1, by omega⟩
        rw [htarget, Nat.add_right_comm]
        refine enterIndex_stops hp' (fun y hy hyk => ?_) _ _
        rw [recordAt, hsteps, hx, Option.join_some] at hy
        obtain rfl := Option.some.inj hy
        rw [hyk] at htimed
        exact Bool.false_ne_true htimed
      · rw [hon]
        exact enterIndex_fuel extra fuel (i + 1) _ hp' (by rw [hsteps]; exact hv) (by rw [hsteps]; omega)
    · have hno : ∀ r, recordAt n i s = some r → r.kind ≠ .loop := fun r hr hk => hloop ⟨r, hr, hk⟩
      rw [Nat.add_right_comm]
      exact enterIndex_stops hp hno _ _

/-- Settles O14: at most 16 LOOPs follow one another, and what follows them stops the chain. -/
theorem instantChainBounded : Obligations.InstantChainBounded := by
  intro s p n i extra hp hv
  refine enterIndex_fuel extra 64 i s hp hv ?_
  have h := loopsBefore_le hv _ le_rfl
  rw [loopsBefore_length] at h
  omega

end Sys2Proof.Programs
end

section
/-! PROOFS. What each row leaves alone, block by block: one relation that is told which blocks may change, one lemma per operation,
and from it the frames of the rows, the form of the program store, and the isolation of the ports. -/

open Sys2Proof Sys2Proof.Machine Sys2Proof.Indexing Sys2Proof.Bounded

namespace Sys2Proof.Frames

/-! ### The relation -/

/-- The blocks that may change. -/
structure Allowed where
  programs : Bool
  protection : Bool
  budgets : Bool
  rampTime : Bool
  settings : Bool
  masks : Bool
  reply : Bool
  chain : Bool

/-- Outside the allowed blocks, all stands. -/
structure Leaves (a : Allowed) (s t : State) : Prop where
  pending : t.pending = s.pending
  programs : a.programs = false → ∀ n : Fin 32, programContent t.headers[n] = programContent s.headers[n]
  protection : a.protection = false → t.prot = s.prot
  budgets : a.budgets = false → budgets t = budgets s
  rampTime : a.rampTime = false → t.alloc.rampTime = s.alloc.rampTime
  settings : a.settings = false → ∀ p : Fin 8, settings t.ports[p] = settings s.ports[p]
  masks : a.masks = false → t.cmd.stationMask = s.cmd.stationMask ∧ t.cmd.hallMask = s.cmd.hallMask
  reply : a.reply = false → t.cmd.response = s.cmd.response ∧ t.cmd.responseNumber = s.cmd.responseNumber ∧
    t.cmd.transaction = s.cmd.transaction
  chain : a.chain = false → t.chain = s.chain

section
variable {a : Allowed} {s t u : State}

theorem Leaves.refl (s : State) : Leaves a s s :=
  ⟨rfl, fun _ _ => rfl, fun _ => rfl, fun _ => rfl, fun _ => rfl, fun _ _ => rfl, fun _ => ⟨rfl, rfl⟩, fun _ => ⟨rfl, rfl, rfl⟩,
    fun _ => rfl⟩

theorem Leaves.trans (x : Leaves a s t) (y : Leaves a t u) : Leaves a s u where
  pending := y.pending.trans x.pending
  programs h n := (y.programs h n).trans (x.programs h n)
  protection h := (y.protection h).trans (x.protection h)
  budgets h := (y.budgets h).trans (x.budgets h)
  rampTime h := (y.rampTime h).trans (x.rampTime h)
  settings h p := (y.settings h p).trans (x.settings h p)
  masks h := by
    obtain ⟨hs, hh⟩ := x.masks h
    obtain ⟨hs', hh'⟩ := y.masks h
    exact ⟨hs'.trans hs, hh'.trans hh⟩
  reply h := by
    obtain ⟨hr, hn, ht⟩ := x.reply h
    obtain ⟨hr', hn', ht'⟩ := y.reply h
    exact ⟨hr'.trans hr, hn'.trans hn, ht'.trans ht⟩
  chain h := (y.chain h).trans (x.chain h)

theorem Leaves.foldl {α : Type} (f : State → α → State) (hf : ∀ s x, Leaves a s (f s x)) :
    ∀ (l : List α) (s : State), Leaves a s (l.foldl f s)
  | [], s => .refl s
  | x :: l, s => (hf s x).trans (Leaves.foldl f hf l (f s x))

theorem forPorts_leaves (g : Fin 8 → State → State) (hg : ∀ p s, Leaves a s (g p s)) (s : State) : Leaves a s (forPorts g s) :=
  .foldl _ (fun s p => hg p s) _ s

/-- The work of one port stays within every allowance. -/
theorem portWork_leaves {b : Bool} {p : Fin 8} (h : PortWork b p s t) : Leaves a s t :=
  ⟨h.pending, fun _ => h.content, fun _ => h.prot, fun _ => h.budgets, fun _ => h.rampTime, fun _ => h.own,
    fun _ => ⟨h.cmd.stationMask, h.cmd.hallMask⟩, fun _ => ⟨h.cmd.response, h.cmd.responseNumber, h.cmd.transaction⟩,
    fun _ => h.chain⟩

theorem poolWork_leaves (h : PoolWork s t) : Leaves a s t := portWork_leaves (b := false) (p := 0) h.portWork

/-! ### The updates of the state -/

theorem modHeader_leaves (h : a.programs = true) (n : Fin 32) (g : Header → Header) : Leaves a s (modHeader n g s) :=
  ⟨rfl, fun hf => absurd (h.symm.trans hf) (by simp), fun _ => rfl, fun _ => rfl, fun _ => rfl, fun _ _ => rfl,
    fun _ => ⟨rfl, rfl⟩, fun _ => ⟨rfl, rfl, rfl⟩, fun _ => rfl⟩

/-- A change of the protection unit, of the ports but for their settings, and of both. -/
theorem prot_leaves (h : a.protection = true) (x : Protection) : Leaves a s { s with prot := x } :=
  ⟨rfl, fun _ _ => rfl, fun hf => absurd (h.symm.trans hf) (by simp), fun _ => rfl, fun _ => rfl, fun _ _ => rfl,
    fun _ => ⟨rfl, rfl⟩, fun _ => ⟨rfl, rfl, rfl⟩, fun _ => rfl⟩

theorem ports_leaves {x : Vector Port 8} (h : ∀ p : Fin 8, settings x[p] = settings s.ports[p]) :
    Leaves a s { s with ports := x } :=
  ⟨rfl, fun _ _ => rfl, fun _ => rfl, fun _ => rfl, fun _ => rfl, fun _ => h, fun _ => ⟨rfl, rfl⟩, fun _ => ⟨rfl, rfl, rfl⟩,
    fun _ => rfl⟩

theorem modPort_leaves {p : Fin 8} {g : Port → Port} (h : a.settings = true) : Leaves a s (modPort p g s) :=
  ⟨rfl, fun _ _ => rfl, fun _ => rfl, fun _ => rfl, fun _ => rfl, fun hf => absurd (h.symm.trans hf) (by simp),
    fun _ => ⟨rfl, rfl⟩, fun _ => ⟨rfl, rfl, rfl⟩, fun _ => rfl⟩

theorem budgets_leaves (h : a.budgets = true) (x : Allocator) (hr : x.rampTime = s.alloc.rampTime) :
    Leaves a s { s with alloc := x } :=
  ⟨rfl, fun _ _ => rfl, fun _ => rfl, fun hf => absurd (h.symm.trans hf) (by simp), fun _ => hr, fun _ _ => rfl,
    fun _ => ⟨rfl, rfl⟩, fun _ => ⟨rfl, rfl, rfl⟩, fun _ => rfl⟩

/-- A change of the allocator that moves no budget. -/
theorem alloc_leaves {x : Allocator} (hb : budgets { s with alloc := x } = budgets s) (hr : x.rampTime = s.alloc.rampTime) :
    Leaves a s { s with alloc := x } :=
  ⟨rfl, fun _ _ => rfl, fun _ => rfl, fun _ => hb, fun _ => hr, fun _ _ => rfl, fun _ => ⟨rfl, rfl⟩,
    fun _ => ⟨rfl, rfl, rfl⟩, fun _ => rfl⟩

theorem rampTime_leaves (h : a.rampTime = true) (x : Allocator) (hb : budgets { s with alloc := x } = budgets s) :
    Leaves a s { s with alloc := x } :=
  ⟨rfl, fun _ _ => rfl, fun _ => rfl, fun _ => hb, fun hf => absurd (h.symm.trans hf) (by simp), fun _ _ => rfl,
    fun _ => ⟨rfl, rfl⟩, fun _ => ⟨rfl, rfl, rfl⟩, fun _ => rfl⟩

theorem modChain_leaves (h : a.chain = true) (g : Chain → Chain) : Leaves a s (modChain g s) :=
  ⟨rfl, fun _ _ => rfl, fun _ => rfl, fun _ => rfl, fun _ => rfl, fun _ _ => rfl, fun _ => ⟨rfl, rfl⟩,
    fun _ => ⟨rfl, rfl, rfl⟩, fun hf => absurd (h.symm.trans hf) (by simp)⟩

/-- A change of the attention sets. -/
theorem sets_leaves (x y : Attention) : Leaves a s { s with cmd := { s.cmd with stationSet := x, hallSet := y } } :=
  ⟨rfl, fun _ _ => rfl, fun _ => rfl, fun _ => rfl, fun _ => rfl, fun _ _ => rfl, fun _ => ⟨rfl, rfl⟩,
    fun _ => ⟨rfl, rfl, rfl⟩, fun _ => rfl⟩

theorem masks_leaves (h : a.masks = true) (x y : Attention) :
    Leaves a s { s with cmd := { s.cmd with stationMask := x, hallMask := y } } :=
  ⟨rfl, fun _ _ => rfl, fun _ => rfl, fun _ => rfl, fun _ => rfl, fun _ _ => rfl,
    fun hf => absurd (h.symm.trans hf) (by simp), fun _ => ⟨rfl, rfl, rfl⟩, fun _ => rfl⟩

theorem reply_leaves (h : a.reply = true) {x : CommandUnit} (hs : x.stationMask = s.cmd.stationMask)
    (hh : x.hallMask = s.cmd.hallMask) : Leaves a s { s with cmd := x } :=
  ⟨rfl, fun _ _ => rfl, fun _ => rfl, fun _ => rfl, fun _ => rfl, fun _ _ => rfl, fun _ => ⟨hs, hh⟩,
    fun hf => absurd (h.symm.trans hf) (by simp), fun _ => rfl⟩

theorem raiseCabinet_leaves (f : CabinetFlag) : Leaves a s (raiseCabinet f s) :=
  portWork_leaves (b := false) (p := 0) (raiseCabinet_portWork f)
theorem history_leaves (x : History) : Leaves a s { s with history := x } :=
  portWork_leaves (b := false) (p := 0) (history_portWork x)
theorem modEntry_leaves (e : Fin 64) (g : Option Entry → Option Entry) : Leaves a s (modEntry e g s) := history_leaves _
theorem touch_leaves (e : Fin 64) : Leaves a s (touch e s) := history_leaves _
theorem modPhase_leaves (f : Fin 16) (g : Phase → Phase) : Leaves a s (modPhase f g s) := poolWork_leaves (modPhase_poolWork f g s)
theorem send_leaves (x : Sent) : Leaves a s (send x s) := portWork_leaves (p := 0) (send_portWork x)
theorem round_leaves : Leaves a s (round s) := portWork_leaves (b := false) (p := 0) round_portWork
theorem fold_leaves (p : Fin 8) : Leaves a s (fold p s) := portWork_leaves (b := false) (p := p) fold_portWork
theorem reformNeeds_leaves : Leaves a s (reformNeeds s) := poolWork_leaves (reformNeeds_poolWork s)

theorem faultPort_leaves {p : Fin 8} (c : FaultCode) : Leaves a s (faultPort p c s) :=
  portWork_leaves (b := false) (p := p) (faultPort_portWork c)

theorem unmount_leaves {p : Fin 8} : Leaves a s (unmount p s) := portWork_leaves (b := false) (p := p) unmount_portWork

theorem tickRequests_leaves : Leaves a s (tickRequests s) :=
  (ports_leaves fun p => by simp [Machine.settings, formRequest]).trans round_leaves

theorem changeBudget_leaves (h : a.budgets = true) (src : BudgetSource) (b : Budget) : Leaves a s (changeBudget src b s) := by
  have hb : Leaves a s { s with alloc := { s.alloc with source := src, inForce := b } } := budgets_leaves h _ rfl
  unfold changeBudget
  dsimp only
  split
  · exact hb.trans ((raiseCabinet_leaves _).trans round_leaves)
  · split
    · exact hb.trans round_leaves
    · exact .refl s

/-! ### Identification over several ports -/

theorem makeEntry_leaves {x : Entry} {e : Fin 64} (h : makeEntry x s = some (e, t)) : Leaves a s t :=
  portWork_leaves (b := false) (p := 0) (makeEntry_portWork x h)

theorem serveWaiting_leaves : ∀ (l : List (Fin 8)) (s : State), Leaves a s (serveWaiting l s)
  | [], _ => history_leaves _
  | p :: rest, s => by
    unfold serveWaiting
    split
    · next t h =>
      obtain ⟨n, -, hn⟩ := Option.map_eq_some_iff.mp h
      exact ((history_leaves _).trans (portWork_leaves (b := false) (lookup_portWork n hn))).trans (serveWaiting_leaves rest t)
    · exact history_leaves _
    · exact serveWaiting_leaves rest s

theorem serveHistory_leaves : Leaves a s (serveHistory s) := serveWaiting_leaves _ s

theorem presenceDetection_leaves : Leaves a s (presenceDetection s) := by
  refine forPorts_leaves _ (fun p s => ?_) s
  split
  · exact portWork_leaves packArrives_portWork
  · exact .refl s

end

end Sys2Proof.Frames
end

section
/-! PROOFS. What the protection unit, the chain and the commands leave alone, and so the frames of the rows; the form of the program
store over every step; and the isolation of the ports. -/

open Sys2Proof Sys2Proof.Machine Sys2Proof.Indexing Sys2Proof.Bounded

namespace Sys2Proof.Frames

section
variable {a : Allowed} {s : State} {p : Fin 8} {f : Fin 16}

/-! ### The phase pool's lines -/

theorem riseFault_leaves : Leaves a s (riseFault f s) := by
  unfold riseFault
  split
  · exact .refl s
  · dsimp only
    split
    · exact modPhase_leaves f _
    · exact ((modPhase_leaves f _).trans (modPhase_leaves f _)).trans ((raiseCabinet_leaves _).trans reformNeeds_leaves)

theorem fallActive_leaves : Leaves a s (fallActive f s) := by
  unfold fallActive
  split
  · exact .refl s
  · exact modPhase_leaves f _

/-! ### The protection unit -/

theorem lockoutPort_leaves : Leaves a s (lockoutPort p s) := by
  unfold lockoutPort
  split
  · exact faultPort_leaves _
  · exact .refl s

section
variable (hp : a.protection = true)
include hp

theorem openDoor_leaves : Leaves a s (openDoor s) := by
  unfold openDoor
  split
  · exact .refl s
  · refine (prot_leaves hp _).trans (forPorts_leaves _ (fun p t => ?_) _)
    split
    · exact portWork_leaves (b := false) (holdPort_portWork _)
    · exact .refl t

theorem closeDoor_leaves : Leaves a s (closeDoor s) :=
  (prot_leaves hp { s.prot with doorOpen := false }).trans (ports_leaves fun q => by simp [Machine.settings])

theorem appendLog_leaves (cause : LogCause) (phase : Option (Fin 16)) (effect : LogEffect) :
    Leaves a s (appendLog cause phase effect s) :=
  prot_leaves hp _

theorem startCooldown_leaves : Leaves a s (startCooldown s) := prot_leaves hp _

theorem enterLockout_leaves (cause : LogCause) (phase : Option (Fin 16)) : Leaves a s (enterLockout cause phase s) := by
  unfold enterLockout
  dsimp only
  refine Leaves.trans ?_ (startCooldown_leaves hp)
  refine Leaves.trans ?_ (raiseCabinet_leaves _)
  refine Leaves.trans ?_ (appendLog_leaves hp _ _ _)
  refine Leaves.trans ?_ (forPorts_leaves _ (fun p t => ?_) _)
  · refine Leaves.trans ?_ (forPorts_leaves _ (fun p t => lockoutPort_leaves) _)
    have h : Leaves a s ((List.finRange 16).foldl (fun u f => disablePhase f u) (startCooldown s)) :=
      (startCooldown_leaves hp).trans (.foldl _ (fun t f => modPhase_leaves f _) _ _)
    split
    · exact h
    · exact h.trans (prot_leaves hp _)
  · split
    · exact .refl t
    · exact fold_leaves p

theorem lockoutCause_leaves (cause : LogCause) (phase : Option (Fin 16)) : Leaves a s (lockoutCause cause phase s) := by
  unfold lockoutCause
  split
  · exact ((appendLog_leaves hp _ _ _).trans (raiseCabinet_leaves _)).trans (startCooldown_leaves hp)
  · exact enterLockout_leaves hp _ _

theorem restartBlocks_leaves : Leaves a s (restartBlocks s) := by
  unfold restartBlocks
  dsimp only
  refine Leaves.trans ?_ (raiseCabinet_leaves _)
  refine Leaves.trans ?_ (forPorts_leaves _ (fun p t => poolWork_leaves (takePhases_poolWork p _ t)) _)
  refine (forPorts_leaves (fun p t => unmount p (fold p t)) (fun p t => (fold_leaves p).trans unmount_leaves) s).trans ?_
  generalize forPorts (fun p t => unmount p (fold p t)) s = u
  refine ⟨rfl, fun _ n => ?_, fun hf => absurd (hp.symm.trans hf) (by simp), fun _ => rfl, fun _ => rfl, fun _ p => ?_,
    fun _ => ⟨rfl, rfl⟩, fun _ => ⟨rfl, rfl, rfl⟩, fun _ => rfl⟩
  · simp [programContent]
  · simp [restartPort, Machine.settings]

theorem internalRestart_leaves : Leaves a s (internalRestart s) := (restartBlocks_leaves hp).trans presenceDetection_leaves

theorem endCooldown_leaves : Leaves a s (endCooldown s) := by
  unfold endCooldown
  split
  · exact .refl s
  · split
    · exact prot_leaves hp _
    · split
      · exact prot_leaves hp _
      · exact internalRestart_leaves hp

theorem closeFeedback_leaves : Leaves a s (closeFeedback s) := by
  have h : Leaves a s { s with prot := { s.prot with feedbackClosed := true } } := prot_leaves hp _
  unfold closeFeedback
  split
  · exact .refl s
  · dsimp only
    split
    · exact prot_leaves hp _
    · split
      · exact h
      · split
        · exact prot_leaves hp _
        · exact h.trans (lockoutCause_leaves hp _ _)
    · exact h

theorem openFeedback_leaves : Leaves a s (openFeedback s) := by
  unfold openFeedback
  split
  · exact .refl s
  · dsimp only
    split
    · exact (prot_leaves hp _).trans (lockoutCause_leaves hp _ _)
    · exact prot_leaves hp _
    · split
      · exact (prot_leaves hp _).trans (internalRestart_leaves hp)
      · exact prot_leaves hp _

theorem expireClosing_leaves : Leaves a s (expireClosing s) := by
  unfold expireClosing
  split
  · split
    · exact .refl s
    · exact (prot_leaves hp _).trans (appendLog_leaves hp _ _ _)
  · exact .refl s

theorem expireOpening_leaves : Leaves a s (expireOpening s) := by
  unfold expireOpening
  split
  · split
    · exact .refl s
    · exact (prot_leaves hp _).trans (lockoutCause_leaves hp _ _)
  · exact .refl s

theorem riseActive_leaves : Leaves a s (riseActive f s) := by
  unfold riseActive
  dsimp only
  split
  · exact .refl s
  · split
    · exact (modPhase_leaves f _).trans (lockoutCause_leaves hp _ _)
    · exact modPhase_leaves f _

theorem expireWatch_leaves : Leaves a s (expireWatch f s) := by
  unfold expireWatch
  split
  · split
    · exact .refl s
    · exact (modPhase_leaves f _).trans (lockoutCause_leaves hp _ _)
  · exact .refl s

end

/-! ### The chain but for the commands that its frames carry -/

section
variable (hc : a.chain = true)
include hc

theorem reformLines_leaves : Leaves a s (reformLines s) :=
  (modChain_leaves hc _).trans (forPorts_leaves _ (fun _ _ => portWork_leaves (b := false) (handInterlock_portWork _ _)) _)

theorem sendBroken_leaves (slot : List Byte) : Leaves a s (sendBroken slot s) := (modChain_leaves hc _).trans (send_leaves _)

theorem report_leaves : Leaves a s (report s) := by
  unfold report
  dsimp only
  split
  · exact (modChain_leaves hc _).trans <| (modChain_leaves hc _).trans (send_leaves _)
  · exact (modChain_leaves hc _).trans (modChain_leaves hc _)

theorem takeUpstream_leaves (frame : List Byte) : Leaves a s (takeUpstream frame s) := by
  unfold takeUpstream
  split
  · exact .refl s
  · split
    · exact .refl s
    · split
      · exact (modChain_leaves hc _).trans (send_leaves _)
      · exact sendBroken_leaves hc _

theorem expireUplink_leaves : Leaves a s (expireUplink s) := by
  unfold expireUplink
  split
  · split
    · exact .refl s
    · exact sendBroken_leaves hc _
  · exact .refl s

theorem takeAnswer_leaves (frame : List Byte) : Leaves a s (takeAnswer frame s) := by
  unfold takeAnswer
  split
  · exact .refl s
  · dsimp only
    split
    · exact (modChain_leaves hc _).trans (send_leaves _)
    · exact modChain_leaves hc _

theorem expireAnswer_leaves : Leaves a s (expireAnswer s) := by
  unfold expireAnswer
  split
  · split
    · exact .refl s
    · exact modChain_leaves hc _
  · exact .refl s

variable (hb : a.budgets = true)
include hb

theorem enterStale_leaves : Leaves a s (enterStale s) :=
  (modChain_leaves hc _).trans <| (changeBudget_leaves hb _ _).trans (reformLines_leaves hc)

theorem discardFrame_leaves : Leaves a s (discardFrame s) := by
  unfold discardFrame
  dsimp only
  split
  · exact (modChain_leaves hc _).trans (enterStale_leaves hc hb)
  · exact modChain_leaves hc _

theorem firstNumbering_leaves : Leaves a s (firstNumbering s) := by
  unfold firstNumbering
  split
  · exact .refl s
  · dsimp only
    split
    · exact (modChain_leaves hc _).trans <| (modChain_leaves hc _).trans (reformLines_leaves hc)
    · exact (modChain_leaves hc _).trans (enterStale_leaves hc hb)

theorem takeNumber_leaves (n : Nat) : Leaves a s (takeNumber n s) :=
  (modChain_leaves hc _).trans <| (send_leaves _).trans (firstNumbering_leaves hc hb)

theorem takeDiscover_leaves (frame : List Byte) : Leaves a s (takeDiscover frame s) := by
  unfold takeDiscover
  split
  · exact takeNumber_leaves hc hb _
  · exact (send_leaves _).trans <| (send_leaves _).trans (modChain_leaves hc _)

theorem takeRenumber_leaves (frame : List Byte) : Leaves a s (takeRenumber frame s) := by
  unfold takeRenumber
  dsimp only
  split
  · exact (takeNumber_leaves hc hb _).trans (send_leaves _)
  · split
    · exact .refl s
    · exact (send_leaves _).trans (modChain_leaves hc _)

theorem expireSilence_leaves : Leaves a s (expireSilence s) := by
  unfold expireSilence
  split
  · exact enterStale_leaves hc hb
  · exact .refl s

end

/-! ### Commands -/

theorem Leaves.done {t : State} (h : Leaves a s t) : Leaves a s (done t).1 := h

theorem Leaves.answer {t : State} (h : Leaves a s t) (data : List Byte) : Leaves a s (answer data t).1 := h

theorem pinEntry_leaves (x : Selector) : Leaves a s (pinEntry x s).1 := by
  refine onEntry_cases (P := fun y => Leaves a s y.1) (fun _ => .refl s) fun e x _ => ?_
  iterate 2 (split; · exact .refl s)
  exact modEntry_leaves e _

theorem unpinEntry_leaves (x : Selector) : Leaves a s (unpinEntry x s).1 :=
  onEntry_cases (P := fun y => Leaves a s y.1) (fun _ => .refl s) fun e _ _ => modEntry_leaves e _

theorem importEntry_leaves (r : List Byte) : Leaves a s (importEntry r s).1 := by
  unfold importEntry
  iterate 2 (split; · exact .refl s)
  split
  · exact .refl s
  · next h => exact (makeEntry_leaves h).trans (touch_leaves _)

theorem freeUp_leaves (e : Fin 64) : Leaves a s (freeUp e s) := history_leaves _

theorem deleteEntry_leaves (x : Selector) : Leaves a s (deleteEntry x s).1 := by
  refine onEntry_cases (P := fun y => Leaves a s y.1) (fun _ => .refl s) fun e x _ => ?_
  iterate 2 (split; · exact .refl s)
  exact (freeUp_leaves e).trans serveHistory_leaves

theorem readEviction_leaves : Leaves a s (readEviction s).1 := by
  unfold readEviction
  split
  · exact .refl s
  · next r rest _ =>
    exact Leaves.answer ((history_leaves { s.history with evictions := rest }).trans serveHistory_leaves) _

theorem servicePhase_leaves (f : Nat) : Leaves a s (servicePhase f s).1 := by
  unfold servicePhase
  split
  · dsimp only
    iterate 2 (split; · exact .refl s)
    exact (modPhase_leaves _ _).trans reformNeeds_leaves
  · exact .refl s

theorem onPort_leaves {port : Nat} {k : Fin 8 → State × Reply} (hk : ∀ p, Leaves a s (k p).1) : Leaves a s (onPort port s k).1 :=
  onPort_cases (P := fun x => Leaves a s x.1) (.refl s) hk

theorem onOwnPort_leaves {m : Master} {port : Nat} {k : Fin 8 → State × Reply} (hk : ∀ p, Leaves a s (k p).1) :
    Leaves a s (onOwnPort m port s k).1 := onOwnPort_cases (P := fun x => Leaves a s x.1) (.refl s) (.refl s) fun p _ => hk p

theorem onProgram_leaves {n : Nat} {k : Fin 32 → State × Reply} (hk : ∀ n, Leaves a s (k n).1) :
    Leaves a s (onProgram n s k).1 := onProgram_cases (P := fun x => Leaves a s x.1) (.refl s) hk

theorem clearFault_leaves {m : Master} (port : Nat) : Leaves a s (clearFault m port s).1 := by
  refine onOwnPort_leaves fun p => ?_
  dsimp only
  iterate 3 (split; · exact .refl s)
  exact (portWork_leaves (b := false) (p := p) (modPort_portWork _ (by intros; rfl))).done

theorem retryIdentify_leaves {m : Master} (port : Nat) : Leaves a s (retryIdentify m port s).1 := by
  refine onPort_leaves fun p => ?_
  iterate 2 (split; · exact .refl s)
  exact (portWork_leaves startIdentify_portWork).done

theorem clearAttention_leaves {m : Master} (x : Attention) : Leaves a s (clearAttention m x s).1 := by
  unfold clearAttention
  split
  · exact .refl s
  · cases m <;> exact sets_leaves _ _

/-- A change of the reserved count is refused, or sets the count and works in the pool (R151). -/
theorem reservePhases_cases {P : State → Prop} {n : Nat} (hr : P s)
    (hd : ∀ t, PoolWork (modPort p (fun q => { q with phases := { q.phases with reserved := n } }) s) t → P t) :
    P (reservePhases p n s).1 := by
  unfold reservePhases
  dsimp only
  iterate 3 (split; · exact hr)
  refine hd _ ?_
  rw [done_state]
  have served {c d : Prop} [Decidable c] [Decidable d] {t u : State} (h : PoolWork t u) :
      PoolWork t (if c then reformNeeds u else if d then serveQueue u else u) := by
    split
    · exact h.trans (reformNeeds_poolWork _)
    · split
      · exact h.trans (serveQueue_poolWork _)
      · exact h
  refine served ?_
  split
  · exact takePhases_poolWork _ _ _
  · split
    · exact .refl _
    · exact releaseBeyond_poolWork _ _ _

section
variable {m : Master} (hs : a.settings = true)
include hs

theorem setOwner_leaves (o : Owner) : Leaves a s (setOwner p o s) := modPort_leaves hs

theorem claimPort_leaves (port : Nat) : Leaves a s (claimPort m port s).1 := by
  refine onPort_cases (P := fun x => Leaves a s x.1) (.refl s) fun p => ?_
  split
  · exact .refl s
  · exact setOwner_leaves hs _

theorem releasePort_leaves (port : Nat) : Leaves a s (releasePort m port s).1 :=
  onOwnPort_cases (P := fun x => Leaves a s x.1) (.refl s) (.refl s) fun _ _ => setOwner_leaves hs _

theorem takePort_leaves (port : Nat) : Leaves a s (takePort m port s).1 := by
  unfold takePort
  split
  · exact .refl s
  · refine onPort_cases (P := fun x => Leaves a s x.1) (.refl s) fun p => ?_
    refine Leaves.trans (t := if _ then _ else _) ?_ (setOwner_leaves hs _)
    split
    · exact sets_leaves _ _
    · exact .refl s

theorem setEnvelope_leaves (port : Nat) (e : Envelope) : Leaves a s (setEnvelope m port e s).1 := by
  refine onOwnPort_leaves fun p => ?_
  split
  · exact .refl s
  · exact (modPort_leaves hs).done

theorem reservePhases_leaves (n : Nat) : Leaves a s (reservePhases p n s).1 :=
  reservePhases_cases (P := Leaves a s) (.refl s) fun _ h => (modPort_leaves hs).trans (poolWork_leaves h)

theorem setInterlockMask_leaves (port : Nat) (l : Byte) : Leaves a s (setInterlockMask m port l s).1 :=
  onOwnPort_leaves fun p => (Leaves.trans (modPort_leaves hs)
    (portWork_leaves (b := false) (p := p) (handInterlock_portWork _ _))).done

theorem setCalibration_leaves (port channel : Nat) (o : Int) (g : Nat) : Leaves a s (setCalibration m port channel o g s).1 := by
  refine onOwnPort_leaves fun p => ?_
  split
  · exact .refl s
  · iterate 2 (split; · exact .refl s)
    exact (modPort_leaves hs).done

theorem setSettleEdges_leaves (port setting : Nat) : Leaves a s (setSettleEdges m port setting s).1 := by
  refine onOwnPort_leaves fun p => ?_
  split
  · exact .refl s
  · exact (modPort_leaves hs).done

theorem setPortDefaults_leaves (port : Nat) (d : PortDefaults) : Leaves a s (setPortDefaults m port d s).1 := by
  refine onOwnPort_leaves fun p => ?_
  split
  · exact .refl s
  · exact (modPort_leaves hs).done

end

section
variable {m : Master} (hp : a.programs = true)
include hp

theorem openProgram_leaves (n k : Nat) : Leaves a s (openProgram m n k s).1 := by
  refine onProgram_leaves fun n => ?_
  iterate 3 (split; · exact .refl s)
  exact (modHeader_leaves hp n _).answer _

theorem writeStep_leaves (n i : Nat) (r : List Byte) : Leaves a s (writeStep m n i r s).1 := by
  refine onProgram_leaves fun n => ?_
  dsimp only
  iterate 3 (split; · exact .refl s)
  split
  · exact .refl s
  · exact (modHeader_leaves hp n _).done

theorem closeProgram_leaves (n : Nat) : Leaves a s (closeProgram m n s).1 := by
  refine onProgram_leaves fun n => ?_
  dsimp only
  iterate 2 (split; · exact .refl s)
  split
  · exact .refl s
  · exact (modHeader_leaves hp n _).answer _

theorem deleteProgram_leaves (n : Nat) : Leaves a s (deleteProgram m n s).1 := by
  refine onProgram_leaves fun n => ?_
  dsimp only
  iterate 3 (split; · exact .refl s)
  exact (modHeader_leaves hp n _).answer _

end

section
variable {m : Master} (hp : a.protection = true)
include hp

theorem setLimits_leaves (l : Limits) : Leaves a s (setLimits l s).1 := by
  unfold setLimits
  iterate 2 (split; · exact .refl s)
  exact ((prot_leaves hp { s.prot with limits := l }).trans
    (ports_leaves fun q => by simp [Machine.settings, formEnvelope])).done

theorem lockLimits_leaves : Leaves a s (lockLimits m s).1 := by
  unfold lockLimits
  split
  · exact .refl s
  · exact prot_leaves hp _

theorem setPolicy_leaves (x : Nat) : Leaves a s (setPolicy m x s).1 := by
  unfold setPolicy
  split
  · exact .refl s
  · split
    · exact prot_leaves hp _
    · exact .refl s

theorem closeContactor_leaves : Leaves a s (closeContactor s).1 := by
  unfold closeContactor
  split
  · exact .refl s
  · exact prot_leaves hp _

theorem openContactor_leaves : Leaves a s (openContactor s).1 := by
  unfold openContactor
  iterate 2 (split; · exact .refl s)
  exact prot_leaves hp _

theorem clearLockout_leaves : Leaves a s (clearLockout s).1 := by
  unfold clearLockout
  split
  · split
    · exact .refl s
    · exact (internalRestart_leaves hp).done
  iterate 2 exact .refl s

end

section
variable {m : Master} (hb : a.budgets = true)
include hb

theorem setFallback_leaves (b : Budget) : Leaves a s (setFallback m b s).1 := by
  unfold setFallback
  split
  · exact .refl s
  · dsimp only [doneClamped_state]
    split
    · exact (budgets_leaves hb { s.alloc with fallback := clampBudget b } rfl).trans (changeBudget_leaves hb _ _)
    · exact budgets_leaves hb _ rfl

theorem setStandalone_leaves (b : Budget) : Leaves a s (setStandalone b s).1 := by
  unfold setStandalone
  dsimp only [doneClamped_state]
  split
  · exact (budgets_leaves hb { s.alloc with standalone := clampBudget b } rfl).trans (changeBudget_leaves hb _ _)
  · exact budgets_leaves hb _ rfl

end

/-- What a command is allowed to change beyond a port's own work. -/
def permits (a : Allowed) : Command → Prop
  | .openProgram .. | .writeStep .. | .closeProgram .. | .deleteProgram .. => a.programs = true
  | .setLimits .. | .lockLimits | .setLockoutPolicy .. | .closeContactor | .openContactor | .clearLockout | .clearFaultLog =>
    a.protection = true
  | .setFallbackBudget .. | .setStandaloneBudget .. => a.budgets = true
  | .setRampTime .. => a.rampTime = true
  | .claimPort .. | .releasePort .. | .takePort .. | .setEnvelope .. | .setReservedPhases .. | .setInterlockMask ..
  | .setCalibration .. | .setSettleEdges .. | .setPortDefaults .. => a.settings = true
  | .setAttentionMask .. => a.masks = true
  | _ => True

/-- Every command stays within what it permits. -/
theorem runCommand_leaves (m : Master) (c : Command) (h : permits a c) : Leaves a s (runCommand m c s).1 := by
  cases c
  case openProgram n k => exact openProgram_leaves h n k
  case writeStep n i r => exact writeStep_leaves h n i r
  case closeProgram n => exact closeProgram_leaves h n
  case deleteProgram n => exact deleteProgram_leaves h n
  case readStep n i => exact (readStep_state n i).symm ▸ .refl s
  case claimPort p => exact claimPort_leaves h p
  case releasePort p => exact releasePort_leaves h p
  case takePort p => exact takePort_leaves h p
  case startRun p n i => exact onOwnPort_leaves fun _ => portWork_leaves (b := false) (startRun_portWork n i)
  case holdPort p => exact onOwnPort_leaves fun _ => portWork_leaves (b := false) holdCommand_portWork
  case resumePort p => exact onOwnPort_leaves fun _ => portWork_leaves (b := false) resumeCommand_portWork
  case abortRun p => exact onOwnPort_leaves fun _ => portWork_leaves (b := false) abortCommand_portWork
  case clearFault p => exact clearFault_leaves p
  case retryIdentify p => exact retryIdentify_leaves p
  case setEnvelope p e => exact setEnvelope_leaves h p e
  case setReservedPhases p n => exact onOwnPort_leaves fun _ => reservePhases_leaves h n
  case setInterlockMask p l => exact setInterlockMask_leaves h p l
  case setCalibration p c o g => exact setCalibration_leaves h p c o g
  case setSettleEdges p e => exact setSettleEdges_leaves h p e
  case setPortDefaults p d => exact setPortDefaults_leaves h p d
  case readPortStatus p => exact onPort_leaves fun _ => .refl s
  case readResult p => exact onOwnPort_leaves fun _ => portWork_leaves (b := false) readResult_portWork
  case peekResult p => exact onPort_leaves fun _ => peekResult_state.symm ▸ .refl s
  case readCapture p => exact onPort_leaves fun _ => portWork_leaves (b := false) readCapture_portWork
  case readHistory x => exact (readHistory_state x).symm ▸ .refl s
  case pinEntry x => exact pinEntry_leaves x
  case unpinEntry x => exact unpinEntry_leaves x
  case importEntry r => exact importEntry_leaves r
  case deleteEntry x => exact deleteEntry_leaves x
  case readEviction => exact readEviction_leaves
  case setLimits l => exact setLimits_leaves h l
  case lockLimits => exact lockLimits_leaves h
  case setFallbackBudget b => exact setFallback_leaves h b
  case setStandaloneBudget b => exact setStandalone_leaves h b
  case setRampTime t => exact rampTime_leaves h _ rfl
  case setLockoutPolicy x => exact setPolicy_leaves h x
  case closeContactor => exact closeContactor_leaves h
  case openContactor => exact openContactor_leaves h
  case clearLockout => exact clearLockout_leaves h
  case readCabinetStatus => exact .refl s
  case readFaultLog => exact readFaultLog_state.symm ▸ .refl s
  case clearFaultLog => exact prot_leaves h _
  case setPhaseService f => exact servicePhase_leaves f
  case readAttention => exact .refl s
  case clearAttention x => exact clearAttention_leaves x
  case setAttentionMask x =>
    show Leaves a s (setAttentionMask m x s).1
    unfold setAttentionMask
    split
    · exact .refl s
    · cases m <;> exact masks_leaves h _ _

end

end Sys2Proof.Frames
end

section
/-! PROOFS. The frames of the rows, the form of the program store over every step, and the isolation of the ports. -/

open Sys2Proof Sys2Proof.Machine Sys2Proof.Indexing Sys2Proof.Bounded Sys2Proof.StepPrograms Sys2Proof.Programs Sys2Proof.Rows

namespace Sys2Proof.Frames

/-! ### Frames that carry a command -/

/-- All but the programs may change. -/
def butPrograms : Allowed := ⟨false, true, true, true, true, true, true, true⟩

/-- A relation that every command keeps, and whatever changes no program. -/
structure FrameClosed (R : State → State → Prop) : Prop where
  leaves : ∀ {s t}, Leaves butPrograms s t → R s t
  command : ∀ m c s, R s (runCommand m c s).1
  trans : ∀ {s t u}, R s t → R t u → R s u

section
variable {R : State → State → Prop} (hR : FrameClosed R)
include hR

theorem cmd_closed {s : State} (x : CommandUnit) (hs : x.stationMask = s.cmd.stationMask) (hh : x.hallMask = s.cmd.hallMask) :
    R s { s with cmd := x } := hR.leaves (reply_leaves rfl hs hh)

theorem deliver_closed {s : State} {x : State × Reply} (iss : Issuer) (code : Nat) (h : R s x.1) : R s (deliver iss code x) := by
  refine hR.trans h ?_
  cases iss with
  | station => exact cmd_closed hR _ rfl rfl
  | hall tag =>
    exact hR.leaves (modChain_leaves rfl fun c =>
      { c with lastTag := some tag, lastResponse := some x.2, responsePending := true })

theorem takeCommand_closed (m : Master) (code : Nat) (args : List Byte) (s : State) : R s (takeCommand m code args s).1 := by
  unfold takeCommand
  split
  · exact hR.command _ _ _
  · exact hR.leaves (.refl s)
  · exact hR.leaves (.refl s)

theorem takeStationFrame_closed (bytes : List Byte) (s : State) : R s (takeStationFrame bytes s) := by
  have hr {c : Nat} : R s (frameRefused c s) := cmd_closed hR _ rfl rfl
  unfold takeStationFrame
  dsimp only
  split
  · exact hR.leaves (.refl s)
  · iterate 2 (split; · exact hr)
    exact deliver_closed hR _ _ (takeCommand_closed hR _ _ _ _)

theorem endTransaction_closed (bytes : List Byte) (s : State) : R s (endTransaction bytes s) := by
  unfold endTransaction
  split
  · exact hR.leaves (.refl s)
  · refine hR.trans ?_ (takeStationFrame_closed hR _ _)
    exact hR.leaves (Leaves.trans (reply_leaves rfl rfl rfl (x := { s.cmd with transaction := none })) (send_leaves _))

theorem takeSlot_closed (frame : List Byte) (n : Nat) (s : State) : R s (takeSlot frame n s) := by
  unfold takeSlot
  dsimp only
  split
  · exact hR.leaves (.refl s)
  · split
    · exact hR.leaves (modChain_leaves rfl _)
    · exact deliver_closed hR _ _ (takeCommand_closed hR _ _ _ _)

theorem takeCycle_closed (frame : List Byte) (s : State) : R s (takeCycle frame s) := by
  unfold takeCycle
  split
  · exact hR.leaves (.refl s)
  · dsimp only
    refine hR.trans (hR.leaves ?_) (takeSlot_closed hR _ _ _)
    refine Leaves.trans ?_ ((reformLines_leaves rfl).trans (report_leaves rfl))
    have h {g : Chain → Chain} : Leaves butPrograms s (modChain g (send (.downstream frame) s)) :=
      (send_leaves _).trans (modChain_leaves rfl _)
    split
    · exact h.trans (changeBudget_leaves rfl _ _)
    · exact h

theorem receiveChain_closed (frame : List Byte) (s : State) : R s (receiveChain frame s) := by
  unfold receiveChain
  split
  · dsimp only
    split
    · exact hR.leaves ((modChain_leaves rfl _).trans (takeDiscover_leaves rfl rfl _))
    · exact hR.leaves ((modChain_leaves rfl _).trans (takeRenumber_leaves rfl rfl _))
  · split
    · exact hR.trans (hR.leaves (modChain_leaves rfl _)) (takeCycle_closed hR _ _)
    · exact hR.leaves (discardFrame_leaves rfl rfl)

/-- The rows that take a frame. -/
theorem exec_frame {i : Instr} {s t : State} (hi : takesFrame i = true) (hp : isPowerOn i = false) (h : exec i s = .next t) :
    R s t := by
  cases i <;> simp only [takesFrame, Bool.false_eq_true] at hi
  case powerOnReset => simp [isPowerOn] at hp
  case transactionEnd bytes => obtain rfl := Host.Outcome.next.inj h; exact endTransaction_closed hR bytes s
  all_goals obtain rfl := Host.Outcome.next.inj h; exact receiveChain_closed hR _ s

end

/-! ### The rows -/

/-- What a row may change, by the rows that name an item. -/
def allowedBy (i : Instr) : Allowed :=
  ⟨writesPrograms i, writesProtection i, writesBudgets i, writesRampTime i, writesSettings i, writesMasks i, false, writesChain i⟩

theorem permits_allowedBy {i : Instr} {iss : Issuer} {c : Command} (h : i.command = some (iss, c)) : permits (allowedBy i) c := by
  cases i <;> simp only [Instr.command, Option.some.injEq, Prod.mk.injEq, reduceCtorEq] at h <;>
    obtain ⟨rfl, rfl⟩ := h <;> simp only [permits] <;> rfl

/-- A row that is no command and takes no frame changes what it names; the start of a transaction is apart. -/
theorem exec_leaves {i : Instr} {s t : State} (hc : i.command = none) (hf : takesFrame i = false) (hs : i ≠ .transactionStart)
    (h : exec i s = .next t) : Leaves (allowedBy i) s t := by
  cases i
  case transactionStart => exact absurd rfl hs
  case sampleArrival p reply => obtain rfl := Host.Outcome.next.inj h; exact portWork_leaves (b := false) (receiveReply_portWork reply)
  case sampleStrobe p => obtain rfl := Host.Outcome.next.inj h; exact portWork_leaves strobe_portWork
  case lateSampleReply => obtain rfl := Host.Outcome.next.inj h; exact .refl s
  case thermalSwitch p => obtain rfl := Host.Outcome.next.inj h; exact portWork_leaves (b := false) openThermal_portWork
  case thermalSwitchClose p => obtain rfl := Host.Outcome.next.inj h; exact portWork_leaves (b := false) closeThermal_portWork
  case allocationTick => obtain rfl := Host.Outcome.next.inj h; exact tickRequests_leaves
  case presenceClose p => obtain rfl := Host.Outcome.next.inj h; exact portWork_leaves closePresence_portWork
  case presenceOpen p => obtain rfl := Host.Outcome.next.inj h; exact portWork_leaves (b := false) openPresence_portWork
  case idReply p x r => obtain rfl := Host.Outcome.next.inj h; exact portWork_leaves (receiveId_portWork x r)
  case idAttemptExpiry p => obtain rfl := Host.Outcome.next.inj h; exact portWork_leaves expireAttempt_portWork
  case doorOpen => obtain rfl := Host.Outcome.next.inj h; exact openDoor_leaves rfl
  case doorClose => obtain rfl := Host.Outcome.next.inj h; exact closeDoor_leaves rfl
  case phaseFault f high =>
    obtain rfl := Host.Outcome.next.inj h
    split
    · exact riseFault_leaves
    · exact modPhase_leaves _ _
  case activeLineFall f => obtain rfl := Host.Outcome.next.inj h; exact fallActive_leaves
  case ackWatchExpiry f => obtain rfl := Host.Outcome.next.inj h; exact expireWatch_leaves rfl
  case activeLineRise f => obtain rfl := Host.Outcome.next.inj h; exact riseActive_leaves rfl
  case feedbackClose => obtain rfl := Host.Outcome.next.inj h; exact closeFeedback_leaves rfl
  case feedbackOpen => obtain rfl := Host.Outcome.next.inj h; exact openFeedback_leaves rfl
  case closingWatchExpiry => obtain rfl := Host.Outcome.next.inj h; exact expireClosing_leaves rfl
  case openingWatchExpiry => obtain rfl := Host.Outcome.next.inj h; exact expireOpening_leaves rfl
  case cooldownExpiry => obtain rfl := Host.Outcome.next.inj h; exact endCooldown_leaves rfl
  case silenceTimeout => obtain rfl := Host.Outcome.next.inj h; exact expireSilence_leaves rfl rfl
  case answerFrame frame => obtain rfl := Host.Outcome.next.inj h; exact takeAnswer_leaves rfl frame
  case answerWatchExpiry => obtain rfl := Host.Outcome.next.inj h; exact expireAnswer_leaves rfl
  case upstreamFrame frame => obtain rfl := Host.Outcome.next.inj h; exact takeUpstream_leaves rfl frame
  case upstreamWaitExpiry => obtain rfl := Host.Outcome.next.inj h; exact expireUplink_leaves rfl
  case measurementLost | settleWindowCheck | pulseEdge | captureB | durationEnd | drainComplete | rampComplete | holdDrainComplete |
      endingComplete | trip =>
    obtain rfl := Host.Outcome.next.inj h
    exact portWork_leaves (namedInstant_portWork _ _)
  case transactionEnd | discover | renumber | cycleFrame | chainFrameDiscard | powerOnReset => cases hf
  all_goals cases hc

/-! ### Power-on reset and the start of a transaction -/

/-- The blocks at their reset values, before the levels of the lines act. -/
def resetBlocks (lines : InputLines) (s : State) : State :=
  let t := { State.blocksAtReset lines with instants := s.instants, pending := s.pending }
  { t with pool := { t.pool with phases := t.pool.phases.map fun ph => if ph.faultHigh then outOfService ph else ph } }

theorem powerOn_eq (lines : InputLines) (s : State) :
    powerOn lines s = presenceDetection
      (if lines.feedbackClosed then lockoutCause .contactorStuck none (resetBlocks lines s) else resetBlocks lines s) := rfl

/-- What the levels bring at a reset changes the protection unit and what any event may. -/
theorem powerOn_leaves {a : Allowed} (hp : a.protection = true) (lines : InputLines) (s : State) :
    Leaves a (resetBlocks lines s) (powerOn lines s) := by
  rw [powerOn_eq]
  refine Leaves.trans ?_ presenceDetection_leaves
  split
  · exact lockoutCause_leaves hp _ _
  · exact .refl _

theorem startTransaction_leaves {a : Allowed} (s : State) (h : a.reply = true) : Leaves a s (startTransaction s) := by
  unfold startTransaction
  split
  · exact .refl s
  · exact reply_leaves h rfl rfl

/-! ### What each row leaves alone -/

/-- The part of `BlocksKept` that a relation `Leaves` says, of a row that is no command. -/
theorem keeps_of_leaves {i : Instr} {s t : State} (h : Leaves (allowedBy i) s t) :
    (writesPrograms i = false → ∀ n : Fin 32, programContent t.headers[n] = programContent s.headers[n]) ∧
    (writesProtection i = false → t.prot = s.prot) ∧
    (writesBudgets i = false → budgets t = budgets s) ∧
    (writesRampTime i = false → t.alloc.rampTime = s.alloc.rampTime) ∧
    (writesSettings i = false → ∀ p : Fin 8, settings t.ports[p] = settings s.ports[p]) ∧
    (writesMasks i = false → t.cmd.stationMask = s.cmd.stationMask ∧ t.cmd.hallMask = s.cmd.hallMask) ∧
    ((i.command.map fun x => x.1.master) ≠ some .station →
      t.cmd.response = s.cmd.response ∧ t.cmd.responseNumber = s.cmd.responseNumber) ∧
    (i ≠ .transactionStart → t.cmd.transaction = s.cmd.transaction) ∧
    (writesChain i = false → chainItems t.chain = chainItems s.chain) ∧
    (writesChain i = false → (i.command.map fun x => x.1.master) ≠ some .hall → t.chain = s.chain) := by
  obtain ⟨hr, hn, ht⟩ := h.reply rfl
  exact ⟨h.programs, h.protection, h.budgets, h.rampTime, h.settings, h.masks, fun _ => ⟨hr, hn⟩, fun _ => ht,
    fun hw => congrArg chainItems (h.chain hw), fun hw _ => h.chain hw⟩

theorem frameClosed_pending : FrameClosed fun s t => t.pending = s.pending where
  leaves h := h.pending
  command m c s := (runCommand_leaves (a := ⟨true, true, true, true, true, true, true, true⟩) m c (by cases c <;> trivial)).pending
  trans h h' := h'.trans h

/-- Settles O4: commands by `runCommand_leaves` and the two places of a reply, every other row by `exec_leaves`. -/
theorem blocksKept : Obligations.BlocksKept := by
  intro i s t h
  by_cases hf : takesFrame i = true
  · refine ⟨?_, fun hn => absurd (hf.symm.trans hn) (by simp)⟩
    by_cases hp : isPowerOn i = true
    · cases i <;> simp only [isPowerOn, Bool.false_eq_true] at hp
      case powerOnReset lines =>
        obtain rfl := Host.Outcome.next.inj h
        exact (powerOn_leaves (a := butPrograms) rfl lines s).pending
    · exact exec_frame frameClosed_pending hf (by simpa using hp) h
  by_cases hs : i = .transactionStart
  · subst hs
    obtain rfl := Host.Outcome.next.inj h
    have hl := startTransaction_leaves (a := ⟨false, false, false, false, false, false, true, false⟩) s rfl
    have hr : (startTransaction s).cmd.response = s.cmd.response ∧
        (startTransaction s).cmd.responseNumber = s.cmd.responseNumber := by
      unfold startTransaction
      split <;> exact ⟨rfl, rfl⟩
    exact ⟨hl.pending, fun _ => ⟨hl.programs, hl.protection, hl.budgets, hl.rampTime, hl.settings, hl.masks, fun _ => hr,
      fun hn => absurd rfl hn, fun hw => congrArg chainItems (hl.chain hw), fun hw _ => hl.chain hw⟩⟩
  cases hc : i.command with
  | none =>
    have hl := exec_leaves hc (by simpa using hf) hs h
    exact ⟨hl.pending, fun _ => hc ▸ keeps_of_leaves hl⟩
  | some x =>
    obtain ⟨iss, c⟩ := x
    rw [exec_command hc] at h
    obtain rfl := Host.Outcome.next.inj h
    have hl := runCommand_leaves (s := s) iss.master c (permits_allowedBy hc)
    obtain ⟨kp, kr, kb, kt, ks, km, kc, ktr, kch, kcs⟩ := keeps_of_leaves hl
    obtain ⟨hr, hn, ht⟩ := hl.reply rfl
    cases iss with
    | station =>
      exact ⟨hl.pending, fun _ => ⟨kp, kr, kb, kt, ks, km, fun hm => absurd rfl hm, ktr, kch, fun hw _ => hl.chain hw⟩⟩
    | hall tag =>
      exact ⟨hl.pending, fun _ => ⟨kp, kr, kb, kt, ks, km, fun _ => ⟨hr, hn⟩, ktr, kch, fun _ hm => absurd rfl hm⟩⟩

/-! ### The form of the program store -/

/-- A program's part in the form of the store. -/
def programFormed (h : Header) : Prop :=
  (h.state = .empty → h.steps = []) ∧ (h.state = .ready → validate h.steps = none)

theorem storeFormed_iff (s : State) :
    StoreFormed s ↔ reservedSlots s ≤ 512 ∧ ∀ n : Fin 32, programFormed s.headers[n] := .rfl

/-- The contents of the programs are all that the form speaks of. -/
theorem storeFormed_of_content {s t : State} (h : ∀ n : Fin 32, programContent t.headers[n] = programContent s.headers[n])
    (hs : StoreFormed s) : StoreFormed t := by
  have hstate (n : Fin 32) : t.headers[n].state = s.headers[n].state := congrArg Prod.fst (h n)
  have hsteps (n : Fin 32) : t.headers[n].steps = s.headers[n].steps := congrArg (fun c => c.2.2.1) (h n)
  have hlist : t.headers.toList.map (fun x => x.steps.length) = s.headers.toList.map (fun x => x.steps.length) := by
    refine List.ext_getElem (by simp) fun n hn _ => ?_
    simpa using congrArg List.length (hsteps ⟨n, by simpa using hn⟩)
  obtain ⟨hsum, hform⟩ := hs
  refine ⟨hlist ▸ hsum, fun n => ?_⟩
  rw [hstate, hsteps]
  exact hform n

theorem storeFormed_of_leaves {a : Allowed} {s t : State} (ha : a.programs = false) (h : Leaves a s t) (hs : StoreFormed s) :
    StoreFormed t := storeFormed_of_content (h.programs ha) hs

/-- A replaced header keeps the form where it is formed itself and takes no more slots than are free. -/
theorem storeFormed_modHeader {n : Fin 32} {g : Header → Header} {s : State} (hs : StoreFormed s)
    (hg : programFormed (g s.headers[n])) (hfree : (g s.headers[n]).steps.length ≤ freeSlots s + s.headers[n].steps.length) :
    StoreFormed (modHeader n g s) := by
  refine ⟨?_, fun k => ?_⟩
  · have hmove := reservedSlots_modHeader_add n g s
    have hle := reservedSlots_le hs
    rw [freeSlots_eq] at hfree
    change reservedSlots (modHeader n g s) ≤ 512
    omega
  · change programFormed (modHeader n g s).headers[k]
    rw [modHeader_header]
    split
    · next h => exact h ▸ hg
    · exact hs.2 k

theorem programFormed_building {h : Header} (hb : h.state = .building) : programFormed h :=
  ⟨fun he => absurd (hb.symm.trans he) (by simp), fun hr => absurd (hb.symm.trans hr) (by simp)⟩

section
variable {m : Master} {s : State} (hs : StoreFormed s)
include hs

theorem openProgram_formed (n k : Nat) : StoreFormed (openProgram m n k s).1 := by
  refine onProgram_cases (P := fun x => StoreFormed x.1) hs fun n => ?_
  split; · exact hs
  split; · exact hs
  next hfree =>
  split; · exact hs
  refine storeFormed_modHeader hs (programFormed_building rfl) ?_
  simp only [List.length_replicate]
  omega

theorem writeStep_formed (n i : Nat) (r : List Byte) : StoreFormed (writeStep m n i r s).1 := by
  refine onProgram_cases (P := fun x => StoreFormed x.1) hs fun n => ?_
  dsimp only
  split; · exact hs
  next hb =>
  iterate 2 (split; · exact hs)
  split
  · exact hs
  · refine storeFormed_modHeader hs (programFormed_building (not_not.mp hb)) ?_
    simp

theorem closeProgram_formed (n : Nat) : StoreFormed (closeProgram m n s).1 := by
  refine onProgram_cases (P := fun x => StoreFormed x.1) hs fun n => ?_
  dsimp only
  iterate 2 (split; · exact hs)
  split
  · exact hs
  · next hv => exact storeFormed_modHeader hs ⟨fun he => absurd he (by simp), fun _ => hv⟩ (by simp)

theorem deleteProgram_formed (n : Nat) : StoreFormed (deleteProgram m n s).1 := by
  refine onProgram_cases (P := fun x => StoreFormed x.1) hs fun n => ?_
  dsimp only
  iterate 3 (split; · exact hs)
  exact storeFormed_modHeader hs ⟨fun _ => rfl, fun hr => absurd hr (by simp [Header.empty])⟩ (Nat.zero_le _)

/-- Every command keeps the form: the four that write programs each by its own lemma, the others by what they leave. -/
theorem runCommand_formed (c : Command) : StoreFormed (runCommand m c s).1 := by
  cases c
  case openProgram n k => exact openProgram_formed hs n k
  case writeStep n i r => exact writeStep_formed hs n i r
  case closeProgram n => exact closeProgram_formed hs n
  case deleteProgram n => exact deleteProgram_formed hs n
  all_goals exact storeFormed_of_leaves (a := butPrograms) rfl (runCommand_leaves m _ (by trivial)) hs

end

theorem frameClosed_formed : FrameClosed fun s t => StoreFormed s → StoreFormed t where
  leaves h := storeFormed_of_leaves rfl h
  command _ c _ h := runCommand_formed h c
  trans h h' hs := h' (h hs)

/-- A store of EMPTY headers is formed. -/
theorem storeFormed_of_empty {s : State} (h : s.headers = Vector.replicate 32 .empty) : StoreFormed s := by
  refine ⟨?_, fun n => ?_⟩
  · rw [h]
    decide
  · have hn : s.headers[n] = .empty := by simp [h]
    rw [hn]
    exact ⟨fun _ => rfl, fun hr => absurd hr (by simp [Header.empty])⟩

theorem exec_formed {i : Instr} {s t : State} (h : exec i s = .next t) (hs : StoreFormed s) : StoreFormed t := by
  by_cases hf : takesFrame i = true
  · by_cases hp : isPowerOn i = true
    · cases i <;> simp only [isPowerOn, Bool.false_eq_true] at hp
      case powerOnReset lines =>
        obtain rfl := Host.Outcome.next.inj h
        exact storeFormed_of_leaves (a := butPrograms) rfl (powerOn_leaves rfl lines s) (storeFormed_of_empty rfl)
    · exact exec_frame frameClosed_formed hf (by simpa using hp) h hs
  by_cases hst : i = .transactionStart
  · subst hst
    obtain rfl := Host.Outcome.next.inj h
    exact storeFormed_of_leaves (a := butPrograms) rfl (startTransaction_leaves s rfl) hs
  cases hc : i.command with
  | none =>
    refine storeFormed_of_leaves (a := allowedBy i) ?_ (exec_leaves hc (by simpa using hf) hst h) hs
    revert hc
    cases i <;> simp [Instr.command, allowedBy, writesPrograms]
  | some x =>
    rw [exec_command hc] at h
    obtain rfl := Host.Outcome.next.inj h
    exact deliver_closed frameClosed_formed _ _ (fun hs => runCommand_formed hs _) hs

/-- Settles O16: `exec_formed`, and a millisecond changes no program. -/
theorem storeFormedKept : Obligations.StoreFormedKept := by
  intro s t hs h
  unfold step at h
  split at h
  · obtain rfl := Host.Outcome.next.inj h
    exact hs
  · exact exec_formed h hs

end Sys2Proof.Frames
end

section
/-! PROOFS. The isolation of the ports: what a row of one port leaves in the others. -/

open Sys2Proof Sys2Proof.Machine Sys2Proof.Indexing Sys2Proof.Bounded Sys2Proof.Frames

namespace Sys2Proof.Isolation

/-- The other ports keep their own items. -/
def Elsewhere (p : Fin 8) (s t : State) : Prop := ∀ q : Fin 8, q ≠ p → sameOwnItems s.ports[q] t.ports[q]

section
variable {p : Fin 8} {s t u : State} {m : Master}

theorem Elsewhere.refl (s : State) : Elsewhere p s s := fun _ _ => .refl _

theorem Elsewhere.trans (h : Elsewhere p s t) (h' : Elsewhere p t u) : Elsewhere p s u := fun q hq => (h q hq).trans (h' q hq)

theorem elsewhere_of_work {b : Bool} (h : PortWork b p s t) : Elsewhere p s t := h.others

theorem elsewhere_of_pool (h : PoolWork s t) : Elsewhere p s t := elsewhere_of_work (b := false) h.portWork

theorem modPort_elsewhere (g : Port → Port) : Elsewhere p s (modPort p g s) := by
  intro q hq
  rw [modPort_other _ hq]
  exact .refl _

theorem Elsewhere.done (h : Elsewhere p s t) : Elsewhere p s (done t).1 := h

theorem onPort_elsewhere {k : Fin 8 → State × Reply} (hk : Elsewhere p s (k p).1) : Elsewhere p s (onPort p.val s k).1 := by
  rwa [onPort_fin]

theorem onOwnPort_elsewhere {k : Fin 8 → State × Reply} (hk : Elsewhere p s (k p).1) :
    Elsewhere p s (onOwnPort m p.val s k).1 := by
  refine onPort_elsewhere ?_
  split
  · exact hk
  · exact .refl s

theorem reservePhases_elsewhere (n : Nat) : Elsewhere p s (reservePhases p n s).1 :=
  reservePhases_cases (P := Elsewhere p s) (.refl s) fun _ h => (modPort_elsewhere _).trans (elsewhere_of_pool h)

/-- A command that names a port changes no other port's own items. -/
theorem runCommand_elsewhere {i : Instr} {iss : Issuer} {c : Command} (hc : i.command = some (iss, c)) (hp : portOf i = some p.val) :
    Elsewhere p s (runCommand iss.master c s).1 := by
  have hw {x : State × Reply} (h : PortWork false p s x.1) : Elsewhere p s x.1 := elsewhere_of_work h
  cases i <;> simp only [portOf, reduceCtorEq, Option.some.injEq] at hp <;>
    simp only [Instr.command, reduceCtorEq, Option.some.injEq, Prod.mk.injEq] at hc <;> obtain ⟨rfl, rfl⟩ := hc <;> subst hp
  case claimPort =>
    refine onPort_elsewhere ?_
    split
    · exact .refl s
    · exact modPort_elsewhere _
  case releasePort => exact onOwnPort_elsewhere (modPort_elsewhere _)
  case takePort iss =>
    change Elsewhere p s (takePort iss.master p.val s).1
    unfold takePort
    split
    · exact .refl s
    · refine onPort_elsewhere (Elsewhere.done (Elsewhere.trans (t := if _ then _ else _) ?_ (modPort_elsewhere _)))
      split <;> exact .refl s
  case startRun => exact onOwnPort_elsewhere (hw (startRun_portWork _ _))
  case holdPort => exact onOwnPort_elsewhere (hw holdCommand_portWork)
  case resumePort => exact onOwnPort_elsewhere (hw resumeCommand_portWork)
  case abortRun => exact onOwnPort_elsewhere (hw abortCommand_portWork)
  case clearFault =>
    refine onOwnPort_elsewhere ?_
    dsimp only
    iterate 3 (split; · exact .refl s)
    exact (modPort_elsewhere _).done
  case retryIdentify =>
    refine onPort_elsewhere ?_
    iterate 2 (split; · exact .refl s)
    exact (elsewhere_of_work startIdentify_portWork).done
  case setEnvelope =>
    refine onOwnPort_elsewhere ?_
    split
    · exact .refl s
    · exact (modPort_elsewhere _).done
  case setReservedPhases => exact onOwnPort_elsewhere (reservePhases_elsewhere _)
  case setInterlockMask =>
    exact onOwnPort_elsewhere ((modPort_elsewhere _).trans (elsewhere_of_work (b := false) (handInterlock_portWork _ _))).done
  case setCalibration =>
    refine onOwnPort_elsewhere ?_
    split
    · exact .refl s
    · iterate 2 (split; · exact .refl s)
      exact (modPort_elsewhere _).done
  case setSettleEdges =>
    refine onOwnPort_elsewhere ?_
    split
    · exact .refl s
    · exact (modPort_elsewhere _).done
  case setPortDefaults =>
    refine onOwnPort_elsewhere ?_
    split
    · exact .refl s
    · exact (modPort_elsewhere _).done
  case readPortStatus => exact onPort_elsewhere (.refl s)
  case readResult => exact onOwnPort_elsewhere (hw readResult_portWork)
  case peekResult => exact onPort_elsewhere (peekResult_state.symm ▸ .refl s)
  case readCapture => exact onPort_elsewhere (hw readCapture_portWork)

end

/-- An event of a port is that port's work. -/
theorem exec_portWork {i : Instr} {p : Fin 8} {s t : State} (hc : i.command = none) (hp : portOf i = some p.val)
    (h : exec i s = .next t) : PortWork true p s t := by
  have hw {t : State} (h : PortWork false p s t) : PortWork true p s t := { h with sent := fun h => absurd h (by simp) }
  cases i <;> simp only [portOf, reduceCtorEq, Option.some.injEq, Fin.val_inj] at hp <;> simp only [Instr.command, reduceCtorEq] at hc <;>
    subst hp <;> obtain rfl := Host.Outcome.next.inj h
  case sampleArrival reply => exact receiveReply_portWork reply
  case sampleStrobe => exact strobe_portWork
  case lateSampleReply => exact .refl _ _ s
  case thermalSwitch => exact openThermal_portWork
  case thermalSwitchClose => exact closeThermal_portWork
  case presenceClose => exact closePresence_portWork
  case presenceOpen => exact openPresence_portWork
  case idReply x r => exact receiveId_portWork x r
  case idAttemptExpiry => exact expireAttempt_portWork
  all_goals exact namedInstant_portWork _ _

theorem deliver_ports (iss : Issuer) (code : Nat) (x : State × Reply) :
    (deliver iss code x).ports = x.1.ports ∧ (deliver iss code x).prot = x.1.prot ∧ (deliver iss code x).pending = x.1.pending := by
  cases iss <;> exact ⟨rfl, rfl, rfl⟩

/-- A row that names a port changes no item of the protection unit. -/
theorem writesProtection_of_port {i : Instr} {n : Nat} (h : portOf i = some n) : writesProtection i = false := by
  revert h
  cases i <;> simp [portOf, writesProtection]

/-- Settles O35: an event is its port's work, a command changes one port, and `runCommand_leaves` says the rest. -/
theorem portsIsolated : Obligations.PortsIsolated := by
  intro i p q s t hp hq h
  cases hc : i.command with
  | none =>
    have hw := exec_portWork hc hp h
    exact ⟨hw.others q hq, hw.prot, hw.pending⟩
  | some x =>
    obtain ⟨iss, c⟩ := x
    rw [exec_command hc] at h
    obtain rfl := Host.Outcome.next.inj h
    obtain ⟨hports, hprot, hpending⟩ := deliver_ports iss (commandCode c) (runCommand iss.master c s)
    have hl := runCommand_leaves (s := s) iss.master c (permits_allowedBy hc)
    rw [hports, hprot, hpending]
    exact ⟨runCommand_elsewhere hc hp q hq, hl.protection (writesProtection_of_port hp), hl.pending⟩

end Sys2Proof.Isolation
end

section
/-! PROOFS. The reset state, the fault log, and the settings of the cabinet: budgets, ramp time, policy, contactor, lockout end and
attention. -/

open Sys2Proof Sys2Proof.Machine Sys2Proof.Bounded Sys2Proof.UseCounts Sys2Proof.Frames

namespace Sys2Proof.Cabinet

/-! ### Reset -/

/-- Settles O3: each invariant of the reset blocks. -/
theorem invariantsAtReset : Obligations.InvariantsAtReset := by
  obtain ⟨hqueues, henvelopes, hgrants⟩ := blocksAtReset_invariants quietLines
  exact ⟨storeFormed_of_empty rfl, blocksAtReset_exact quietLines, hgrants, henvelopes, hqueues⟩

theorem foldl_id {α β : Type} {f : α → β → α} {l : List β} {s : α} (h : ∀ x ∈ l, f s x = s) : l.foldl f s = s := by
  induction l with
  | nil => rfl
  | cons x l ih => rw [List.foldl_cons, h x (by simp), ih fun y hy => h y (by simp [hy])]

/-- Presence detection finds no pack where none is present. -/
theorem presenceDetection_quiet {s : State} (h : ∀ p : Fin 8, s.ports[p].ident.present = false) : presenceDetection s = s :=
  foldl_id fun p _ => if_neg (by simp only [h p, Bool.false_eq_true, not_false_eq_true])

theorem powerOn_quiet (s : State) : powerOn quietLines s = { State.reset with instants := s.instants, pending := s.pending } := by
  have hblocks : resetBlocks quietLines s = { State.reset with instants := s.instants, pending := s.pending } := by
    have hphases : State.reset.pool.phases.map (fun ph => if ph.faultHigh then outOfService ph else ph) =
        State.reset.pool.phases :=
      Vector.ext fun f hf => by simp [State.reset, State.blocksAtReset, quietLines, Phase.atReset]
    exact congrArg (fun x : Vector Phase 16 => { State.reset with
      instants := s.instants, pending := s.pending, pool := { State.reset.pool with phases := x } }) hphases
  rw [powerOn_eq, if_neg (by decide), hblocks]
  exact presenceDetection_quiet fun p => by simp [State.reset, State.blocksAtReset, Port.atReset, quietLines]

/-- Settles O5. -/
theorem resetValues : Obligations.ResetValues := by
  refine ⟨fun s => congrArg Host.Outcome.next (powerOn_quiet s), ?_, by decide, fun p => ?_, ?_, rfl, rfl, rfl, ?_, rfl, rfl, rfl, rfl, rfl, rfl, by decide⟩
  · decide
  · fin_cases p <;> exact ⟨rfl, rfl, rfl, rfl, rfl, rfl, rfl, rfl, rfl, rfl⟩
  · decide
  · decide

/-! ### The fault log -/

/-- Settles O55. -/
theorem faultLogCleared : Obligations.FaultLogCleared := by
  refine fun iss s => ⟨rfl, ?_, fun cause phase hl hc => ?_⟩
  · show replied iss 41 (readFaultLog s) = _
    simp only [readFaultLog, List.isEmpty_iff]
  · have hlock : inLockout s = true := decide_eq_true hc
    rw [lockoutCause, if_pos hlock]
    simp [startCooldown, raiseCabinet, appendLog, hl]

/-! ### Budgets, ramp time and policy -/

/-- A change of the budget in force sets source and budget and leaves the stored ones. -/
theorem changeBudget_alloc (src : BudgetSource) (b : Budget) (s : State) :
    (changeBudget src b s).alloc.source = src ∧ (changeBudget src b s).alloc.inForce = b ∧
    (changeBudget src b s).alloc.standalone = s.alloc.standalone ∧ (changeBudget src b s).alloc.fallback = s.alloc.fallback := by
  unfold changeBudget
  dsimp only
  split
  · exact ⟨rfl, rfl, rfl, rfl⟩
  · next hs =>
    split
    · exact ⟨rfl, rfl, rfl, rfl⟩
    · next hb => exact ⟨not_not.mp hs, not_not.mp hb, rfl, rfl⟩

theorem clampBudget_ne_iff (b : Budget) : clampBudget b ≠ b ↔ 1000000 < b.imp ∨ 1000000 < b.exp := by
  obtain ⟨i, e⟩ := b
  simp only [clampBudget, ne_eq, Budget.mk.injEq]
  omega

theorem setStandalone_eq (b : Budget) (s : State) : ∃ u,
    setStandalone b s = doneClamped (decide (1000000 < b.imp ∨ 1000000 < b.exp)) u ∧
    u.alloc.standalone = clampBudget b ∧ u.alloc.source = s.alloc.source ∧ u.alloc.fallback = s.alloc.fallback ∧
    u.alloc.inForce = if s.alloc.source = .standalone then clampBudget b else s.alloc.inForce := by
  refine ⟨_, by simp only [setStandalone, clampBudget_ne_iff]; rfl, ?_⟩
  by_cases h : s.alloc.source = .standalone
  · rw [if_pos h, if_pos h]
    obtain ⟨hsrc, hin, hst, hfb⟩ := changeBudget_alloc .standalone (clampBudget b)
      { s with alloc := { s.alloc with standalone := clampBudget b } }
    exact ⟨hst, hsrc.trans h.symm, hfb, hin⟩
  · rw [if_neg h, if_neg h]
    exact ⟨rfl, rfl, rfl, rfl⟩

theorem setFallback_eq (b : Budget) (s : State) : ∃ u,
    setFallback .hall b s = doneClamped (decide (1000000 < b.imp ∨ 1000000 < b.exp)) u ∧
    u.alloc.fallback = clampBudget b ∧ u.alloc.source = s.alloc.source ∧ u.alloc.standalone = s.alloc.standalone ∧
    u.alloc.inForce = if s.alloc.source = .fallback then clampBudget b else s.alloc.inForce := by
  refine ⟨_, by simp only [setFallback, clampBudget_ne_iff, reduceCtorEq, if_false]; rfl, ?_⟩
  by_cases h : s.alloc.source = .fallback
  · rw [if_pos h, if_pos h]
    obtain ⟨hsrc, hin, hst, hfb⟩ := changeBudget_alloc .fallback (clampBudget b)
      { s with alloc := { s.alloc with fallback := clampBudget b } }
    exact ⟨hfb, hsrc.trans h.symm, hst, hin⟩
  · rw [if_neg h, if_neg h]
    exact ⟨rfl, rfl, rfl, rfl⟩

theorem setRamp_eq (t : Nat) (s : State) : setRamp t s = doneClamped (decide (t < 10 ∨ 500 < t))
    { s with alloc := { s.alloc with rampTime := if t < 10 then 10 else if 500 < t then 500 else t } } := by
  have hmark : max 10 (min 500 t) ≠ t ↔ t < 10 ∨ 500 < t := by omega
  have hvalue : max 10 (min 500 t) = if t < 10 then 10 else if 500 < t then 500 else t := by
    split_ifs <;> omega
  rw [setRamp, decide_eq_decide.mpr hmark, hvalue]

theorem policyOf_beyond {x : Nat} (h : 1 < x) : policyOf x = none := by
  obtain ⟨y, rfl⟩ : ∃ y, x = y + 2 := ⟨x - 2, by omega⟩
  rfl

/-- Settles O44. -/
theorem cabinetSettings : Obligations.CabinetSettings := by
  refine ⟨fun iss b s => ?_, fun tag b s => ?_, fun b s => rfl, fun iss t s => congrArg (replied iss 35) (setRamp_eq t s),
    fun tag s => ⟨rfl, rfl, fun x hx => ?_⟩, fun x s => rfl⟩
  · obtain ⟨u, hu, h⟩ := setStandalone_eq b s
    exact ⟨u, congrArg (replied iss 34) hu, h⟩
  · obtain ⟨u, hu, h⟩ := setFallback_eq b s
    exact ⟨u, congrArg (replied (.hall tag) 33) hu, h⟩
  · have : setPolicy .hall x s = refuse .badField s := by
      simp only [setPolicy, policyOf_beyond hx, reduceCtorEq, if_false]
    exact congrArg (replied (.hall tag) 36) this

/-! ### The contactor -/

theorem ports_any_iff (s : State) (g : Port → Bool) :
    (s.ports.toList.any fun q => g q) = true ↔ ∃ p : Fin 8, g s.ports[p] = true := by
  rw [List.any_eq_true]
  constructor
  · rintro ⟨q, hq, hg⟩
    obtain ⟨k, hk, rfl⟩ := List.getElem_of_mem hq
    exact ⟨⟨k, by simpa using hk⟩, by simpa using hg⟩
  · rintro ⟨p, hg⟩
    exact ⟨s.ports[p], by simp, hg⟩

/-- Settles O51. -/
theorem contactorMoves : Obligations.ContactorMoves := by
  refine ⟨fun iss s => congrArg (replied iss 37) ?close, fun s hc hf => congrArg Host.Outcome.next ?confirm,
    fun s n hw hn hf hl => congrArg Host.Outcome.next ?expiry, fun iss s hb hc => congrArg (replied iss 38) ?opens,
    fun iss p s hb => congrArg (replied iss 38) ?barred, fun s hc hf hw => congrArg Host.Outcome.next ?falls,
    fun s hc hf => ⟨fun n hn => congrArg Host.Outcome.next ?within, fun hn he => congrArg Host.Outcome.next ?sameMs⟩⟩
  case close =>
    have h : (inLockout s ∨ s.prot.contactor ≠ .opened ∨ s.prot.openingWatch.isSome ∨ s.prot.feedbackClosed) ↔
        ¬ (s.prot.cabinet = .normal ∧ s.prot.contactor = .opened ∧ s.prot.openingWatch = none ∧
          s.prot.feedbackClosed = false) := by
      cases s.prot.openingWatch <;> simp [inLockout]; tauto
    rw [closeContactor, ← ite_not]
    simp only [h]
    simp
  case confirm => simp [closeFeedback, hf, hc]
  case expiry => simp [expireClosing, hw, hn, appendLog, openLink, hl, hf]
  case opens =>
    have hany : ¬ (s.ports.toList.any fun q => barsOpening q.run.state) = true := by
      rw [ports_any_iff]
      simpa using hb
    rw [openContactor, if_neg hany, if_neg hc]
    rfl
  case barred => rw [openContactor, if_pos ((ports_any_iff s _).mpr ⟨p, hb⟩)]
  case falls => simp [openFeedback, hf, hc, hw]
  case within => simp [closeFeedback, hf, hc, hn]
  case sameMs => simp [closeFeedback, hf, hc, hn, he]

/-! ### The end of a lockout -/

/-- Settles O53. -/
theorem lockoutEnds : Obligations.LockoutEnds := by
  refine ⟨fun s hc => congrArg Host.Outcome.next ?expiry, fun s hc => congrArg Host.Outcome.next (if_pos hc), fun s hc hf hw => congrArg Host.Outcome.next ?feedback,
    fun iss b s hw hf => congrArg (replied iss 39) ?clears, fun iss s h => congrArg (replied iss 39) ?refused⟩
  case expiry => cases hp : s.prot.policy <;> simp only [endCooldown, hc, hp, ne_eq, not_true_eq_false, if_false]
  case feedback => simp [openFeedback, hf, hc, hw]
  case clears => simp [clearLockout, hw, hf]
  case refused =>
    rcases h with h | ⟨r, h⟩ | h
    · simp [clearLockout, h]
    · simp [clearLockout, h]
    · cases hc : s.prot.cabinet <;> simp [clearLockout, h, hc]

/-! ### Attention -/

theorem attentionSet_setAttentionSet (m : Master) (a : Attention) (s : State) :
    attentionSet m (setAttentionSet m a s) = a := by cases m <;> rfl

theorem clearedSet_ports (m : Master) (a : Attention) (s : State) (p : Fin 8) :
    (clearedSet m (readFlags a) s).ports[p] = (attentionSet m s).ports[p] &&& ~~~a.ports[p] := by
  unfold clearedSet
  dsimp only
  split <;> simp [withoutFlags, withCabinetFlag, readFlags]

/-- The bit of EVICTION_PENDING is read from the six bits that the part reads (R216). -/
theorem readFlags_eviction (c : Byte) : (c &&& 0x3F &&& cabinetBit .evictionPending != 0) = decide (c &&& 0x02 ≠ 0) := by
  have h : c &&& 0x3F &&& 0x02 = c &&& 0x02 := by rw [BitVec.and_assoc]; rfl
  rw [cabinetBit, h]
  exact Bool.eq_iff_iff.mpr (by simp only [bne_iff_ne, decide_eq_true_eq])

theorem clearedSet_cabinet (m : Master) (a : Attention) (s : State) :
    (clearedSet m (readFlags a) s).cabinet = ((attentionSet m s).cabinet &&& ~~~(a.cabinet &&& 0x3F)) |||
      (if a.cabinet &&& 0x02 ≠ 0 ∧ s.history.evictions ≠ [] then 0x02 else 0) := by
  have hflag : (hasCabinetFlag (readFlags a) .evictionPending && !s.history.evictions.isEmpty) =
      decide (a.cabinet &&& 0x02 ≠ 0 ∧ s.history.evictions ≠ []) := by
    rw [hasCabinetFlag, readFlags, readFlags_eviction]
    cases s.history.evictions <;> simp
  rw [clearedSet, hflag]
  by_cases h : a.cabinet &&& 0x02 ≠ 0 ∧ s.history.evictions ≠ []
  · rw [if_pos h, decide_eq_true h]
    rfl
  · rw [if_neg h, decide_eq_false h]
    exact (BitVec.or_zero ..).symm

/-- Settles O56. -/
theorem attentionChanges : Obligations.AttentionChanges := by
  refine ⟨fun iss a s h => ?_, fun iss a s h => congrArg (replied iss 46) (if_neg h),
    fun tag a s h => ⟨congrArg (replied (.hall tag) 45) (if_pos ⟨rfl, h⟩), congrArg (replied (.hall tag) 46) (if_pos ⟨rfl, h⟩)⟩⟩
  set c := clearedSet iss.master (readFlags a) s with hc
  have hset : attentionSet iss.master (setAttentionSet iss.master c s) = c := attentionSet_setAttentionSet _ _ _
  refine ⟨setAttentionSet iss.master c s, ?_, by rw [hset], fun p => ?_, ?_⟩
  · rw [hset]
    exact congrArg (replied iss 45) (if_neg h)
  · rw [hset, hc, clearedSet_ports]
  · rw [hset, hc, clearedSet_cabinet]

end Sys2Proof.Cabinet
end

section
/-! PROOFS. The phase pool (R141 to R150): what takings, releases, enables and disables do to each phase, to the gangs and to the
free count, and what a service of the wait queue leaves. -/

open Sys2Proof Sys2Proof.Machine Sys2Proof.Indexing

namespace Sys2Proof.PoolPhases

section
variable {s t u : State} {p q : Fin 8} {f : Fin 16}

/-! ### Gangs and free phases -/

@[simp] theorem mem_gang : f ∈ gang p s ↔ s.pool.phases[f].state = .assigned p := by simp [gang]

@[simp] theorem mem_freePhases : f ∈ freePhases s ↔ s.pool.phases[f].state = .free := by simp [freePhases]

theorem gang_nodup (p : Fin 8) (s : State) : (gang p s).Nodup := (List.nodup_finRange 16).filter _

theorem freePhases_nodup (s : State) : (freePhases s).Nodup := (List.nodup_finRange 16).filter _

/-- Gangs and free phases are formed from the states of the phases. -/
theorem gang_congr (h : ∀ f : Fin 16, (t.pool.phases[f].state = .assigned p ↔ s.pool.phases[f].state = .assigned p)) :
    gang p t = gang p s := List.filter_congr fun f _ => decide_eq_decide.mpr (h f)

theorem freePhases_congr (h : ∀ f : Fin 16, (t.pool.phases[f].state = .free ↔ s.pool.phases[f].state = .free)) :
    freePhases t = freePhases s := List.filter_congr fun f _ => decide_eq_decide.mpr (h f)

/-! ### Folds of changes of one phase each -/

theorem modPhase_phase (g : Phase → Phase) (k : Fin 16) :
    (modPhase f g s).pool.phases[k] = if k = f then g s.pool.phases[k] else s.pool.phases[k] := by
  by_cases h : k = f
  · subst h; simp [modPhase]
  · simp [modPhase, h, Fin.val_inj, Ne.symm h]

/-- A change of each phase of a list. -/
theorem foldl_modPhase (g : Phase → Phase) {l : List (Fin 16)} (hl : l.Nodup) (s : State) (k : Fin 16) :
    (l.foldl (fun t f => modPhase f g t) s).pool.phases[k] = if k ∈ l then g s.pool.phases[k] else s.pool.phases[k] := by
  induction l generalizing s with
  | nil => simp
  | cons f l ih =>
    obtain ⟨hf, hl⟩ := List.nodup_cons.mp hl
    rw [List.foldl_cons, ih hl, modPhase_phase]
    by_cases hk : k = f
    · subst hk; simp [hf]
    · simp [hk]

theorem disabled_state (ph : Phase) : (disabled ph).state = ph.state := by unfold disabled; split <;> rfl

theorem enabled_state (ph : Phase) : (enabled ph).state = ph.state := by unfold enabled; split <;> rfl

theorem disabled_off (ph : Phase) : (disabled ph).enabled = false ∧ (disabled ph).command = 0 := by
  unfold disabled
  split
  · exact ⟨rfl, rfl⟩
  · next h => exact ⟨by simpa using h, rfl⟩

/-- A disable begins a watch unless one is pending or the active line reads low (R160). -/
theorem disabled_watch (ph : Phase) : (disabled ph).watch =
    if ph.enabled = true ∧ ph.watch = none ∧ ph.activeHigh = true then some 0 else ph.watch := by
  unfold disabled
  cases he : ph.enabled <;> cases hw : ph.watch <;> simp

theorem disablePort_phase (k : Fin 16) : (disablePort p s).pool.phases[k] =
    if s.pool.phases[k].state = .assigned p then disabled s.pool.phases[k] else s.pool.phases[k] := by
  rw [disablePort]
  simp only [disablePhase, foldl_modPhase disabled (gang_nodup p s), mem_gang]

theorem disablePort_state (k : Fin 16) : (disablePort p s).pool.phases[k].state = s.pool.phases[k].state := by
  rw [disablePort_phase]
  split
  · exact disabled_state _
  · rfl

theorem disablePort_gang : gang q (disablePort p s) = gang q s := gang_congr fun f => by rw [disablePort_state]

theorem disablePort_free : freePhases (disablePort p s) = freePhases s := freePhases_congr fun f => by rw [disablePort_state]

/-- The enables of an enabled port's phases (R155). -/
theorem refreshEnables_phase (h : isEnabledState s.ports[p].run.state = true) (k : Fin 16) : (refreshEnables p s).pool.phases[k] =
    if s.pool.phases[k].state = .assigned p then enabled s.pool.phases[k] else s.pool.phases[k] := by
  rw [refreshEnables, if_pos h]
  simp only [foldl_modPhase enabled (gang_nodup p s), mem_gang]

theorem refreshEnables_state (k : Fin 16) : (refreshEnables p s).pool.phases[k].state = s.pool.phases[k].state := by
  by_cases h : isEnabledState s.ports[p].run.state = true
  · rw [refreshEnables_phase h]
    split
    · exact enabled_state _
    · rfl
  · rw [refreshEnables, if_neg h, disablePort_state]

theorem refreshEnables_gang : gang q (refreshEnables p s) = gang q s := gang_congr fun f => by rw [refreshEnables_state]

theorem refreshEnables_free : freePhases (refreshEnables p s) = freePhases s := freePhases_congr fun f => by rw [refreshEnables_state]

/-! ### Releases -/

/-- A released phase (R142). -/
def released (ph : Phase) : Phase := { disabled ph with state := .free }

theorem releaseBeyond_phase (keep : Nat) (k : Fin 16) : (releaseBeyond p keep s).pool.phases[k] =
    if k ∈ (gang p s).drop keep then released s.pool.phases[k] else s.pool.phases[k] :=
  foldl_modPhase released ((gang_nodup p s).sublist (List.drop_sublist _ _)) s k

theorem assigned_of_drop {keep : Nat} (h : f ∈ (gang p s).drop keep) : s.pool.phases[f].state = .assigned p :=
  mem_gang.mp (List.mem_of_mem_drop h)

theorem assigned_of_take {keep : Nat} (h : f ∈ (gang p s).take keep) : s.pool.phases[f].state = .assigned p :=
  mem_gang.mp (List.mem_of_mem_take h)

theorem filter_not_drop {α : Type} [DecidableEq α] {l : List α} (h : l.Nodup) (n : Nat) :
    l.filter (fun x => x ∉ l.drop n) = l.take n := by
  have hsplit : (l.take n ++ l.drop n).filter (fun x => x ∉ l.drop n) = l.take n := by
    have hd : List.Disjoint (l.take n) (l.drop n) := List.disjoint_take_drop h (Nat.le_refl n)
    rw [List.filter_append, List.filter_eq_self.mpr fun x hx => by simpa using hd hx, List.filter_eq_nil_iff.mpr (by simp),
      List.append_nil]
  rwa [List.take_append_drop] at hsplit

theorem releaseBeyond_gang (keep : Nat) : gang p (releaseBeyond p keep s) = (gang p s).take keep := by
  rw [← filter_not_drop (gang_nodup p s), gang, gang, List.filter_filter]
  refine List.filter_congr fun f _ => ?_
  rw [← gang, releaseBeyond_phase]
  by_cases h : f ∈ (gang p s).drop keep <;> simp [h, released]

theorem releaseBeyond_gang_other (h : q ≠ p) (keep : Nat) : gang q (releaseBeyond p keep s) = gang q s := by
  refine gang_congr fun f => ?_
  rw [releaseBeyond_phase]
  split
  · next hf => rw [assigned_of_drop hf]; simp [released, h.symm]
  · rfl

/-- The length of a filter of one list by two conditions, the second a list's members. -/
theorem length_filter_or_mem {α : Type} [DecidableEq α] {l d : List α} (hl : l.Nodup) (hd : d.Nodup) (P : α → Bool)
    (hsub : ∀ x ∈ d, x ∈ l) (hP : ∀ x ∈ d, P x = false) :
    (l.filter fun x => P x || decide (x ∈ d)).length = (l.filter P).length + d.length := by
  rw [← List.length_append]
  refine List.Perm.length_eq ((List.perm_ext_iff_of_nodup (hl.filter _) ?_).mpr fun x => ?_)
  · exact List.Nodup.append (hl.filter _) hd fun x hx hxd => by simp [hP x hxd] at hx
  · simp only [List.mem_filter, List.mem_append, Bool.or_eq_true, decide_eq_true_eq]
    constructor
    · rintro ⟨hx, h | h⟩
      · exact .inl ⟨hx, h⟩
      · exact .inr h
    · rintro (⟨hx, h⟩ | h)
      · exact ⟨hx, .inl h⟩
      · exact ⟨hsub x h, .inr h⟩

theorem releaseBeyond_freeCount (keep : Nat) :
    freeCount (releaseBeyond p keep s) = freeCount s + (heldCount p s - keep) := by
  have h := length_filter_or_mem (d := (gang p s).drop keep) (List.nodup_finRange 16)
    ((gang_nodup p s).sublist (List.drop_sublist _ _)) (fun f : Fin 16 => s.pool.phases[f].state = .free) (fun _ _ => by simp)
    (fun f hf => decide_eq_false (by rw [assigned_of_drop hf]; simp))
  rw [List.length_drop] at h
  rw [freeCount, freePhases, freeCount, freePhases, heldCount, ← h]
  refine congrArg List.length (List.filter_congr fun f _ => ?_)
  rw [releaseBeyond_phase]
  by_cases hf : f ∈ (gang p s).drop keep <;> simp [hf, released]

/-! ### Takings -/

/-- A FREE phase as a port takes it (R142, R155). -/
def taken (p : Fin 8) (s : State) (ph : Phase) : Phase :=
  let ph := { ph with state := .assigned p, command := 0 }
  if isEnabledState s.ports[p].run.state then enabled ph else ph

theorem taken_state (ph : Phase) : (taken p s ph).state = .assigned p := by
  unfold taken
  dsimp only
  split
  · exact enabled_state _
  · rfl

theorem taken_watch (ph : Phase) : (taken p s ph).watch = ph.watch := by
  unfold taken enabled
  dsimp only
  split_ifs <;> rfl

theorem takePhases_foldl (l : List (Fin 16)) {t : State} (h : t.ports = s.ports) :
    l.foldl (assignPhase p) t = l.foldl (fun u f => modPhase f (taken p s) u) t := by
  induction l generalizing t with
  | nil => rfl
  | cons f l ih =>
    have hstep : assignPhase p t f = modPhase f (taken p s) t := by
      unfold assignPhase taken
      rw [h]
    rw [List.foldl_cons, List.foldl_cons, hstep]
    exact ih h

theorem takePhases_phase (n : Nat) (k : Fin 16) : (takePhases p n s).pool.phases[k] =
    if k ∈ (freePhases s).take n then taken p s s.pool.phases[k] else s.pool.phases[k] := by
  rw [takePhases, takePhases_foldl _ rfl, foldl_modPhase _ ((freePhases_nodup s).sublist (List.take_sublist _ _))]

theorem free_of_take {n : Nat} (h : f ∈ (freePhases s).take n) : s.pool.phases[f].state = .free :=
  mem_freePhases.mp (List.mem_of_mem_take h)

theorem takePhases_mem_gang (n : Nat) : f ∈ gang p (takePhases p n s) ↔ f ∈ gang p s ∨ f ∈ (freePhases s).take n := by
  rw [mem_gang, mem_gang, takePhases_phase]
  split
  · next h => simp [taken_state, h]
  · next h => simp [h]

theorem takePhases_gang_other (h : q ≠ p) (n : Nat) : gang q (takePhases p n s) = gang q s := by
  refine gang_congr fun f => ?_
  rw [takePhases_phase]
  split
  · next hf => rw [free_of_take hf]; simp [taken_state, h.symm]
  · rfl

theorem takePhases_heldCount (n : Nat) : heldCount p (takePhases p n s) = heldCount p s + min n (freeCount s) := by
  have h := length_filter_or_mem (d := (freePhases s).take n) (List.nodup_finRange 16)
    ((freePhases_nodup s).sublist (List.take_sublist _ _)) (fun f : Fin 16 => s.pool.phases[f].state = .assigned p)
    (fun _ _ => by simp) (fun f hf => decide_eq_false (by rw [free_of_take hf]; simp))
  rw [List.length_take] at h
  rw [heldCount, gang, heldCount, gang, freeCount, ← h]
  refine congrArg List.length (List.filter_congr fun f _ => ?_)
  rw [takePhases_phase]
  by_cases hf : f ∈ (freePhases s).take n <;> simp [hf, taken_state]

theorem takePhases_freeCount (n : Nat) : freeCount (takePhases p n s) = freeCount s - n := by
  have h := length_filter_or_mem (d := (freePhases s).take n) (List.nodup_finRange 16)
    ((freePhases_nodup s).sublist (List.take_sublist _ _)) (fun f : Fin 16 => (takePhases p n s).pool.phases[f].state = .free)
    (fun _ _ => by simp) (fun f hf => decide_eq_false (by rw [takePhases_phase, if_pos hf, taken_state]; simp))
  have hall : ((List.finRange 16).filter fun f : Fin 16 =>
      decide ((takePhases p n s).pool.phases[f].state = .free) || decide (f ∈ (freePhases s).take n)) = freePhases s := by
    refine List.filter_congr fun f _ => ?_
    rw [takePhases_phase]
    by_cases hf : f ∈ (freePhases s).take n
    · simp only [hf, free_of_take hf, decide_true, Bool.or_true]
    · simp [hf]
  rw [hall, List.length_take] at h
  rw [freeCount, freeCount, freePhases]
  change (freePhases s).length = _ at h
  omega

end

end Sys2Proof.PoolPhases
end

section
/-! PROOFS. The phase wait queue (R144 to R150): what a service leaves of the queue, the pool and the ports, and from it what it
means to leave the queue, to release and to acquire. -/

open Sys2Proof Sys2Proof.Machine Sys2Proof.Indexing

namespace Sys2Proof.PoolPhases

/-- A port has no place in a list of waiting ports. -/
def Absent (p : Fin 8) (l : List (Fin 8 × Nat)) : Prop := ∀ x ∈ l, x.1 ≠ p

/-- The FREE count that a service leaves (R148). -/
def remaining : Nat → List (Fin 8 × Nat) → Nat
  | a, [] => a
  | a, x :: rest => if x.2 ≤ a then remaining (a - x.2) rest else a

theorem unserved_more (b : Nat) : ∀ (a : Nat) (l : List (Fin 8 × Nat)),
    unserved (remaining a l + b) (unserved a l) = unserved (a + b) l
  | _, [] => rfl
  | a, x :: rest => by
    by_cases h : x.2 ≤ a
    · rw [remaining, unserved, unserved, if_pos h, if_pos h, if_pos (by omega), unserved_more b (a - x.2) rest]
      congr 1
      omega
    · rw [remaining, if_neg h, unserved, if_neg h]

theorem unserved_absent {p : Fin 8} : ∀ {a : Nat} {l : List (Fin 8 × Nat)}, Absent p l → Absent p (unserved a l)
  | _, [], h => h
  | a, x :: rest, h => by
    rw [unserved]
    split
    · exact unserved_absent fun y hy => h y (List.mem_cons_of_mem x hy)
    · exact h

section
variable {s t : State} {p q : Fin 8} {f : Fin 16} {l : List (Fin 8 × Nat)}

theorem isQueued_false : isQueued p s = false ↔ Absent p s.pool.queue := by
  simp [isQueued, Absent]

/-! ### A service -/

theorem serveList_fits {x : Fin 8 × Nat} (h : x.2 ≤ freeCount s) :
    serveList (x :: l) s = serveList l (meetNeed x.1 (takePhases x.1 x.2 s)) := if_pos h

theorem serveList_stays {x : Fin 8 × Nat} (h : ¬ x.2 ≤ freeCount s) :
    serveList (x :: l) s = { s with pool := { s.pool with queue := x :: l } } := if_neg h

theorem met_freeCount (p : Fin 8) (n : Nat) : freeCount (meetNeed p (takePhases p n s)) = freeCount s - n := takePhases_freeCount n

theorem serveList_queue (l : List (Fin 8 × Nat)) (s : State) : (serveList l s).pool.queue = unserved (freeCount s) l := by
  induction l generalizing s with
  | nil => rfl
  | cons x rest ih =>
    rw [unserved]
    by_cases h : x.2 ≤ freeCount s
    · rw [serveList_fits h, ih, met_freeCount, if_pos h]
    · rw [serveList_stays h, if_neg h]

theorem serveList_freeCount (l : List (Fin 8 × Nat)) (s : State) : freeCount (serveList l s) = remaining (freeCount s) l := by
  induction l generalizing s with
  | nil => rfl
  | cons x rest ih =>
    rw [remaining]
    by_cases h : x.2 ≤ freeCount s
    · rw [serveList_fits h, ih, met_freeCount, if_pos h]
    · rw [serveList_stays h, if_neg h]
      rfl

/-- A service changes FREE phases alone. -/
theorem serveList_phase (l : List (Fin 8 × Nat)) (s : State) (h : s.pool.phases[f].state ≠ .free) :
    (serveList l s).pool.phases[f] = s.pool.phases[f] := by
  induction l generalizing s with
  | nil => rfl
  | cons x rest ih =>
    by_cases hx : x.2 ≤ freeCount s
    · have hstep : (takePhases x.1 x.2 s).pool.phases[f] = s.pool.phases[f] := by
        rw [takePhases_phase, if_neg fun hf => h (free_of_take hf)]
      rw [serveList_fits hx, ih _ (by rw [meetNeed, modPort_pool, hstep]; exact h)]
      exact hstep
    · rw [serveList_stays hx]

/-- A service ends no watch and begins none. -/
theorem serveList_watch (l : List (Fin 8 × Nat)) (s : State) :
    (serveList l s).pool.phases[f].watch = s.pool.phases[f].watch := by
  induction l generalizing s with
  | nil => rfl
  | cons x rest ih =>
    by_cases hx : x.2 ≤ freeCount s
    · rw [serveList_fits hx, ih, meetNeed, modPort_pool, takePhases_phase]
      split
      · exact taken_watch _
      · rfl
    · rw [serveList_stays hx]

/-- A port that does not wait keeps its items and its gang through a service. -/
theorem serveList_absent (h : Absent p l) (s : State) :
    (serveList l s).ports[p] = s.ports[p] ∧ gang p (serveList l s) = gang p s := by
  induction l generalizing s with
  | nil => exact ⟨rfl, rfl⟩
  | cons x rest ih =>
    have hx : p ≠ x.1 := (h x (by simp)).symm
    by_cases hfit : x.2 ≤ freeCount s
    · obtain ⟨hport, hgang⟩ := ih (fun y hy => h y (by simp [hy])) (meetNeed x.1 (takePhases x.1 x.2 s))
      rw [serveList_fits hfit, hport, hgang, meetNeed, modPort_other _ hx, takePhases_ports]
      exact ⟨rfl, takePhases_gang_other hx _⟩
    · rw [serveList_stays hfit]
      exact ⟨rfl, rfl⟩

/-- The last of a list: served, and then ramping with its shortfall, or waiting with all as it was. -/
theorem serveList_last (h : Absent p l) (n : Nat) (s : State) :
    (isQueued p (serveList (l ++ [(p, n)]) s) = true →
      (serveList (l ++ [(p, n)]) s).ports[p] = s.ports[p] ∧ gang p (serveList (l ++ [(p, n)]) s) = gang p s) ∧
    (isQueued p (serveList (l ++ [(p, n)]) s) = false →
      rampsOn (serveList (l ++ [(p, n)]) s).ports[p] ∧
      heldCount p (serveList (l ++ [(p, n)]) s) = heldCount p s + n) := by
  induction l generalizing s with
  | nil =>
    rw [List.nil_append]
    by_cases hfit : n ≤ freeCount s
    · rw [serveList_fits hfit]
      refine ⟨fun hq => by simp [serveList, isQueued] at hq, fun _ => ⟨?_, ?_⟩⟩
      · rw [serveList, rampsOn]
        simp only [meetNeed, modPort_self, and_self]
      · have hheld := takePhases_heldCount (p := p) (s := s) n
        rw [Nat.min_eq_left hfit] at hheld
        exact hheld
    · rw [serveList_stays hfit]
      exact ⟨fun _ => ⟨rfl, rfl⟩, fun hq => by simp [isQueued] at hq⟩
  | cons x rest ih =>
    have hx : p ≠ x.1 := (h x (by simp)).symm
    rw [List.cons_append]
    by_cases hfit : x.2 ≤ freeCount s
    · have hport : (meetNeed x.1 (takePhases x.1 x.2 s)).ports[p] = s.ports[p] := by
        rw [meetNeed, modPort_other _ hx, takePhases_ports]
      have hgang : gang p (meetNeed x.1 (takePhases x.1 x.2 s)) = gang p s := takePhases_gang_other hx _
      obtain ⟨hwaits, hserved⟩ := ih (fun y hy => h y (by simp [hy])) (meetNeed x.1 (takePhases x.1 x.2 s))
      rw [hport, hgang] at hwaits
      rw [show heldCount p (meetNeed x.1 (takePhases x.1 x.2 s)) = heldCount p s from congrArg List.length hgang] at hserved
      rw [serveList_fits hfit]
      exact ⟨hwaits, hserved⟩
    · rw [serveList_stays hfit]
      exact ⟨fun _ => ⟨rfl, rfl⟩, fun hq => by simp [isQueued] at hq⟩

/-! ### Leaving the queue (R147) -/

/-- The queue without a port. -/
def others (p : Fin 8) (s : State) : List (Fin 8 × Nat) := s.pool.queue.filter fun x => x.1 ≠ p

theorem others_absent : Absent p (others p s) := fun x hx => by simpa [others] using (List.mem_filter.mp hx).2

theorem others_of_absent (h : Absent p s.pool.queue) : others p s = s.pool.queue :=
  List.filter_eq_self.mpr fun x hx => by simpa using h x hx

/-- A port stands at the head of the queue. -/
abbrev heads (p : Fin 8) (s : State) : Prop := s.pool.queue.head?.map Prod.fst = some p

theorem not_heads_of_absent (h : Absent p s.pool.queue) : ¬ heads p s := by
  unfold heads
  cases hq : s.pool.queue with
  | nil => simp
  | cons x rest => simpa using h x (by simp [hq])

/-- A port has left the queue and its gang stands (R147). -/
structure Left (p : Fin 8) (s u : State) : Prop where
  gang : gang p u = gang p s
  reserved : u.ports[p].phases.reserved = s.ports[p].phases.reserved
  queue : u.pool.queue = if heads p s then unserved (freeCount s) (others p s) else others p s
  free : freeCount u = if heads p s then remaining (freeCount s) (others p s) else freeCount s

theorem Left.absent {u : State} (h : Left p s u) : Absent p u.pool.queue := by
  rw [h.queue]
  split
  · exact unserved_absent others_absent
  · exact others_absent

/-- A port that does not wait has left. -/
theorem left_of_absent (h : Absent p s.pool.queue) : Left p s s where
  gang := rfl
  reserved := rfl
  queue := by rw [if_neg (not_heads_of_absent h), others_of_absent h]
  free := by rw [if_neg (not_heads_of_absent h)]

/-- What does not touch the states of the phases, the queue and the reserved count keeps it so. -/
theorem Left.congr {u v : State} (h : Left p s u) (hstate : ∀ f : Fin 16, v.pool.phases[f].state = u.pool.phases[f].state)
    (hqueue : v.pool.queue = u.pool.queue) (hres : v.ports[p].phases.reserved = u.ports[p].phases.reserved) : Left p s v where
  gang := (gang_congr fun f => by rw [hstate]).trans h.gang
  reserved := hres.trans h.reserved
  queue := hqueue.trans h.queue
  free := (congrArg List.length (freePhases_congr fun f => by rw [hstate])).trans h.free

/-- The same start, seen before a change that does not touch them. -/
theorem Left.of_start {r u : State} (h : Left p s u) (hstate : ∀ f : Fin 16, s.pool.phases[f].state = r.pool.phases[f].state)
    (hqueue : s.pool.queue = r.pool.queue) (hres : s.ports[p].phases.reserved = r.ports[p].phases.reserved) : Left p r u := by
  have hfree : freeCount s = freeCount r := congrArg List.length (freePhases_congr fun f => by rw [hstate])
  have hheads : heads p s ↔ heads p r := by rw [heads, heads, hqueue]
  have hothers : others p s = others p r := by rw [others, others, hqueue]
  exact ⟨h.gang.trans (gang_congr fun f => by rw [hstate]), h.reserved.trans hres,
    by rw [h.queue, hfree, hothers]; simp only [hheads], by rw [h.free, hfree, hothers]; simp only [hheads]⟩

theorem leaveQueue_eq (p : Fin 8) (s : State) : leaveQueue p s =
    (if heads p s then serveList (others p s) else id)
      (modPort p (fun q => { q with phases := { q.phases with need := none } }) { s with pool := { s.pool with queue := others p s } }) := by
  unfold leaveQueue
  dsimp only
  split <;> rfl

theorem leaveQueue_left (p : Fin 8) (s : State) : Left p s (leaveQueue p s) := by
  rw [leaveQueue_eq]
  split
  · next h =>
    refine ⟨(serveList_absent others_absent _).2, ?_, ?_, ?_⟩
    · rw [(serveList_absent others_absent _).1, modPort_self]
    · rw [serveList_queue, if_pos h]
      rfl
    · rw [serveList_freeCount, if_pos h]
      rfl
  · next h => exact ⟨rfl, by rw [id, modPort_self], by rw [if_neg h]; rfl, by rw [if_neg h]; rfl⟩

/-- Leaving the queue changes FREE phases alone. -/
theorem leaveQueue_phase (h : s.pool.phases[f].state ≠ .free) : (leaveQueue p s).pool.phases[f] = s.pool.phases[f] := by
  rw [leaveQueue_eq]
  split
  · exact serveList_phase _ _ h
  · rfl

theorem leaveQueue_port (p : Fin 8) (s : State) :
    (leaveQueue p s).ports[p] = { s.ports[p] with phases := { s.ports[p].phases with need := none } } := by
  rw [leaveQueue_eq]
  split
  · rw [(serveList_absent others_absent _).1, modPort_self]
  · exact modPort_self ..

/-! ### Releases with their service (R150) -/

section
variable {keep : Nat}

theorem releaseAndServe_gang (h : Absent p s.pool.queue) : gang p (releaseAndServe p keep s) = (gang p s).take keep := by
  unfold releaseAndServe serveQueue
  split
  · rw [(serveList_absent (by rwa [releaseBeyond_queue]) _).2, releaseBeyond_gang]
  · next hk => rw [List.take_of_length_le (Nat.not_lt.mp hk)]

theorem releaseAndServe_port (h : Absent p s.pool.queue) : (releaseAndServe p keep s).ports[p] = s.ports[p] := by
  unfold releaseAndServe serveQueue
  split
  · rw [(serveList_absent (by rwa [releaseBeyond_queue]) _).1, releaseBeyond_ports]
  · rfl

theorem releaseAndServe_queue : (releaseAndServe p keep s).pool.queue =
    if keep < heldCount p s then unserved (freeCount s + (heldCount p s - keep)) s.pool.queue else s.pool.queue := by
  unfold releaseAndServe serveQueue
  split
  · rw [serveList_queue, releaseBeyond_freeCount, releaseBeyond_queue]
  · rfl

/-- The phases that are kept stand as they were. -/
theorem releaseAndServe_kept (h : f ∈ (gang p s).take keep) : (releaseAndServe p keep s).pool.phases[f] = s.pool.phases[f] := by
  have hdrop : f ∉ (gang p s).drop keep := List.disjoint_take_drop (gang_nodup p s) (Nat.le_refl keep) h
  have hph : (releaseBeyond p keep s).pool.phases[f] = s.pool.phases[f] := by rw [releaseBeyond_phase, if_neg hdrop]
  unfold releaseAndServe serveQueue
  split
  · rw [serveList_phase _ _ (by rw [hph, assigned_of_take h]; simp), hph]
  · rfl

theorem releaseAndServe_dropped_watch (h : f ∈ (gang p s).drop keep) :
    (releaseAndServe p keep s).pool.phases[f].watch = (disabled s.pool.phases[f]).watch := by
  have hlt : keep < heldCount p s := by
    have := List.length_pos_of_mem h
    rw [List.length_drop] at this
    exact Nat.lt_of_sub_pos this
  rw [releaseAndServe, if_pos hlt, serveQueue, serveList_watch, releaseBeyond_phase, if_pos h]
  rfl

theorem releaseAndServe_dropped_free (h : f ∈ (gang p s).drop keep) (hq : s.pool.queue = []) :
    (releaseAndServe p keep s).pool.phases[f].state = .free := by
  have hlt : keep < heldCount p s := by
    have := List.length_pos_of_mem h
    rw [List.length_drop] at this
    exact Nat.lt_of_sub_pos this
  rw [releaseAndServe, if_pos hlt, serveQueue, releaseBeyond_queue, hq]
  change (releaseBeyond p keep s).pool.phases[f].state = _
  rw [releaseBeyond_phase, if_pos h]
  rfl

end

/-- A port that has left the queue releases what is beyond its reserved count (R150). -/
theorem releasesUnreserved_of_left {u : State} (h : Left p s u) : releasesUnreserved p s (releaseUnreserved p u) := by
  have hheld : heldCount p u = heldCount p s := congrArg List.length h.gang
  refine ⟨?_, ?_, fun hrest f hf => ?_⟩
  · rw [releaseUnreserved, releaseAndServe_gang h.absent, h.gang, h.reserved]
  · rw [releaseUnreserved, releaseAndServe_queue, h.reserved, hheld, h.queue, h.free]
    change _ = if s.ports[p].phases.reserved < heldCount p s ∨ heads p s
      then unserved (freeCount s + (heldCount p s - s.ports[p].phases.reserved)) (others p s) else others p s
    by_cases hr : s.ports[p].phases.reserved < heldCount p s
    · simp only [hr, true_or, if_true]
      split
      · rw [unserved_more]
      · rfl
    · rw [if_neg hr, Nat.sub_eq_zero_of_le (Nat.not_lt.mp hr), Nat.add_zero]
      simp only [hr, false_or]
  · rw [releaseUnreserved]
    refine releaseAndServe_dropped_free ?_ ?_
    · rwa [h.gang, h.reserved]
    · have hnil : others p s = [] := hrest
      rw [h.queue, hnil]
      split <;> rfl

/-- What does not touch the states of the phases and the queue keeps a release. -/
theorem releasesUnreserved_congr {t v : State} (h : releasesUnreserved p s t)
    (hstate : ∀ f : Fin 16, v.pool.phases[f].state = t.pool.phases[f].state) (hqueue : v.pool.queue = t.pool.queue) :
    releasesUnreserved p s v := by
  obtain ⟨hgang, hq, hfree⟩ := h
  exact ⟨(gang_congr fun f => by rw [hstate]).trans hgang, hqueue.trans hq, fun hr f hf => (hstate f).trans (hfree hr f hf)⟩

/-! ### Enables that fall (R155, R160) -/

/-- Every phase of a port's gang has been disabled. -/
def AllDown (p : Fin 8) (s u : State) : Prop := ∀ f ∈ gang p s, u.pool.phases[f] = disabled s.pool.phases[f]

theorem disabled_watch_again (ph : Phase) : (disabled (disabled ph)).watch = (disabled ph).watch := by
  rw [disabled_watch (disabled ph), if_neg]
  rw [(disabled_off ph).1]
  simp

theorem allDown_disablePort (p : Fin 8) (s : State) : AllDown p s (disablePort p s) := fun f hf => by
  rw [disablePort_phase, if_pos (mem_gang.mp hf)]

/-- The enables down, then the phases beyond the reserved count released. -/
theorem enablesFall_of_down {u : State} (h : AllDown p s u) (hg : gang p u = gang p s) (ha : Absent p u.pool.queue) :
    enablesFall p s (releaseUnreserved p u) := by
  intro f hf
  by_cases hkept : f ∈ (gang p u).take u.ports[p].phases.reserved
  · have hph : (releaseUnreserved p u).pool.phases[f] = disabled s.pool.phases[f] := (releaseAndServe_kept hkept).trans (h f hf)
    rw [hph]
    exact ⟨disabled_watch _, fun _ => disabled_off _⟩
  · have hdrop : f ∈ (gang p u).drop u.ports[p].phases.reserved := by
      rw [← hg, ← List.take_append_drop u.ports[p].phases.reserved (gang p u), List.mem_append] at hf
      exact hf.resolve_left hkept
    refine ⟨?_, fun hmem => absurd hmem ?_⟩
    · rw [releaseUnreserved, releaseAndServe_dropped_watch hdrop, h f hf, disabled_watch_again, disabled_watch]
    · rwa [releaseUnreserved, releaseAndServe_gang ha]

/-- The phases beyond the reserved count released, then the enables of the others down. -/
theorem enablesFall_of_released {u v : State} (h : ∀ f ∈ gang p s, u.pool.phases[f] = s.pool.phases[f])
    (hg : gang p u = gang p s) (ha : Absent p u.pool.queue) (hv : v.pool = (releaseUnreserved p u).pool) :
    enablesFall p s (disablePort p v) := by
  intro f hf
  have hmem : f ∈ gang p v ↔ f ∈ (gang p u).take u.ports[p].phases.reserved := by
    rw [mem_gang, hv, ← mem_gang, releaseUnreserved, releaseAndServe_gang ha]
  rw [disablePort_gang, hmem, disablePort_phase]
  by_cases hkept : f ∈ (gang p u).take u.ports[p].phases.reserved
  · have hph : v.pool.phases[f] = s.pool.phases[f] := by rw [hv, releaseUnreserved, releaseAndServe_kept hkept, h f hf]
    rw [if_pos (mem_gang.mp (hmem.mpr hkept)), hph]
    exact ⟨disabled_watch _, fun _ => disabled_off _⟩
  · have hdrop : f ∈ (gang p u).drop u.ports[p].phases.reserved := by
      rw [← hg, ← List.take_append_drop u.ports[p].phases.reserved (gang p u), List.mem_append] at hf
      exact hf.resolve_left hkept
    rw [if_neg fun hs => hkept (hmem.mp (mem_gang.mpr hs))]
    refine ⟨?_, fun hk => absurd hk hkept⟩
    rw [hv, releaseUnreserved, releaseAndServe_dropped_watch hdrop, h f hf, disabled_watch]

/-- A fall that later work does not touch. -/
theorem enablesFall_congr {t v : State} (h : enablesFall p s t) (hp : v.pool = t.pool) : enablesFall p s v := by
  intro f hf
  obtain ⟨hwatch, hoff⟩ := h f hf
  rw [mem_gang, hp, ← mem_gang]
  exact ⟨hwatch, hoff⟩

end

end Sys2Proof.PoolPhases
end

section
/-! PROOFS. The fault paths (R49, R50, R174): what a fault makes of a port in a run and of an idle one. -/

open Sys2Proof Sys2Proof.Machine Sys2Proof.Indexing Sys2Proof.PoolPhases

namespace Sys2Proof.Faults

section
variable {s t : State} {p : Fin 8} {code : FaultCode}

/-! ### The pool -/

/-- A disable looks at the pool alone. -/
theorem disablePort_pool (h : t.pool = s.pool) : (disablePort p t).pool = (disablePort p s).pool := by
  have hphases : (disablePort p t).pool.phases = (disablePort p s).pool.phases := by
    refine Vector.ext fun k hk => ?_
    have ht := disablePort_phase (p := p) (s := t) ⟨k, hk⟩
    have hs := disablePort_phase (p := p) (s := s) ⟨k, hk⟩
    rw [h] at ht
    exact ht.trans hs.symm
  have hqueue : (disablePort p t).pool.queue = (disablePort p s).pool.queue := by
    rw [disablePort_queue, disablePort_queue, h]
  exact congrArg₂ Pool.mk hphases hqueue

theorem enablesFall_disablePort : enablesFall p s (disablePort p s) := fun f hf => by
  rw [allDown_disablePort p s f hf]
  exact ⟨disabled_watch _, fun _ => disabled_off _⟩

theorem resultRecord_recordFault (time : Nat) (q : Port) (r : EndReason) :
    resultRecord (recordFault code time q) r = resultRecord q r := by
  have hstep : (recordFault code time q).acct.step = q.acct.step := by
    unfold recordFault
    split
    · rfl
    · dsimp only
      split <;> rfl
  simp only [resultRecord, latestSample, recordFault_run, recordFault_intake, hstep]

/-! ### A port in a run -/

/-- The fault path up to its records: enables down, fault record, and the record of a current step (R49). -/
def recorded (p : Fin 8) (code : FaultCode) (s : State) : State :=
  if hasStep (disablePort p s).ports[p].run.state ∧ code ≠ .programFault
    then queueResult p (faultReason code) (writeFault p code (disablePort p s)) else writeFault p code (disablePort p s)

/-- The port out of the wait queue and FAULTED, before it releases (R49). -/
def abandoned (p : Fin 8) (s : State) : State :=
  restartSettle p (discardCapture p (modRun p (fun r => { r with
    state := .faulted, slew := none, applied := 0, throttled := false, outcome := .faulted })
    (leaveQueue p (modRun p (fun r => { r with causes := .none }) s))))

/-- The fault path from the release on (R49). -/
def unbound (p : Fin 8) (s : State) : State :=
  let t := fold p (setBasis p none (releaseUnreserved p s))
  raisePort .fault p (modRun p (fun r => { r with program := none }) (releaseProgram t.ports[p].run.program t))

theorem faultBound_eq (p : Fin 8) (code : FaultCode) (s : State) :
    faultBound p code s = unbound p (abandoned p (recorded p code s)) := rfl

theorem recorded_cases {P : State → Prop} (hq : hasStep s.ports[p].run.state = true → code ≠ .programFault →
      P (queueResult p (faultReason code) (writeFault p code (disablePort p s))))
    (hw : hasStep s.ports[p].run.state = false ∨ code = .programFault → P (writeFault p code (disablePort p s))) :
    P (recorded p code s) := by
  unfold recorded
  rw [disablePort_ports]
  split
  · next h => exact hq h.1 h.2
  · next h =>
    refine hw ?_
    by_cases hs : hasStep s.ports[p].run.state = true
    · exact .inr (not_not.mp fun hc => h ⟨hs, hc⟩)
    · exact .inl (by simpa using hs)

theorem recorded_pool : (recorded p code s).pool = (disablePort p s).pool :=
  recorded_cases (P := fun x => x.pool = (disablePort p s).pool) (fun _ _ => rfl) fun _ => rfl

theorem recorded_reserved : (recorded p code s).ports[p].phases.reserved = s.ports[p].phases.reserved :=
  recorded_cases (P := fun x => x.ports[p].phases.reserved = s.ports[p].phases.reserved) (fun _ _ => by simp) fun _ => by simp

theorem recorded_prot : (recorded p code s).ports[p].prot = (recordFault code s.prot.time s.ports[p]).prot :=
  recorded_cases (P := fun x => x.ports[p].prot = (recordFault code s.prot.time s.ports[p]).prot) (fun _ _ => by simp)
    fun _ => by simp

/-- The gang of a faulted port on its way: out of the queue, disabled, then released (R49). -/
theorem abandoned_recorded_pool (p : Fin 8) (code : FaultCode) (s : State) :
    Left p s (abandoned p (recorded p code s)) ∧ AllDown p s (abandoned p (recorded p code s)) := by
  have hstate (f : Fin 16) : (recorded p code s).pool.phases[f].state = s.pool.phases[f].state := by
    rw [recorded_pool, disablePort_state]
  constructor
  · refine Left.congr (u := leaveQueue p (modRun p (fun r => { r with causes := .none }) (recorded p code s))) ?_
      (fun f => rfl) rfl (by simp [abandoned])
    refine (leaveQueue_left p _).of_start hstate ?_ ?_
    · rw [modRun_pool, recorded_pool, disablePort_queue]
    · rw [modRun, modPort_self]
      exact recorded_reserved
  · intro f hf
    have hne : (recorded p code s).pool.phases[f].state ≠ .free := by
      rw [hstate, mem_gang.mp hf]
      simp
    have hleave := leaveQueue_phase (p := p) (s := modRun p (fun r => { r with causes := .none }) (recorded p code s)) hne
    rw [modRun_pool, recorded_pool, allDown_disablePort p s f hf] at hleave
    exact hleave

theorem unbound_pool : (unbound p s).pool = (releaseUnreserved p s).pool := by simp [unbound]

/-- A port in a run takes the fault path with the reason that its code gives (R49). -/
theorem faultBound_faulted (h : code ≠ .programFault) (p : Fin 8) (s : State) :
    runFaulted p (faultReason code) s (faultBound p code s) := by
  obtain ⟨hleft, hdown⟩ := abandoned_recorded_pool p code s
  have hresults : (faultBound p code s).ports[p].results = (recorded p code s).ports[p].results := by
    simp [faultBound_eq, unbound, abandoned]
  have hflags : FlagsRise (recorded p code s).cmd (faultBound p code s).cmd := by
    have hleave : PortWork false p (recorded p code s) (abandoned p (recorded p code s)) :=
      (modRun_portWork _).trans <| leaveQueue_portWork.trans <| (modRun_portWork _).trans restart_portWork
    have hunbind (x : State) : PortWork false p x (unbound p x) :=
      releaseUnreserved_portWork.trans <| (setBasis_portWork none).trans <| fold_portWork.trans <|
        (releaseProgram_portWork _).trans <| (modRun_portWork _).trans (raisePort_portWork _ _)
    exact (hleave.trans (hunbind _)).cmd
  refine ⟨enablesFall_congr (enablesFall_of_down hdown hleft.gang hleft.absent) unbound_pool,
    releasesUnreserved_congr (releasesUnreserved_of_left hleft) (fun f => by rw [faultBound_eq, unbound_pool])
      (by rw [faultBound_eq, unbound_pool]),
    fun hs => ⟨?_, ?_⟩, fun hs => ?_, ?_⟩
  · refine hflags.flagged ?_
    rw [recorded, disablePort_ports, if_pos ⟨hs, h⟩]
    exact queueResult_flagged ..
  · refine ⟨resultRecord s.ports[p] (faultReason code), ?_, rfl, rfl, rfl⟩
    rw [hresults, recorded, disablePort_ports, if_pos ⟨hs, h⟩, ← resultRecord_recordFault (code := code) s.prot.time]
    simp
  · rw [hresults, recorded, disablePort_ports, if_neg (by rw [hs]; simp)]
    simp
  · refine ⟨by simp [faultBound], by simp [faultBound], by simp [faultBound], by simp [faultBound], by simp [faultBound],
      by simp [faultBound], by simp [faultBound], flagged_raisePort ..⟩

theorem faultBound_fault (p : Fin 8) (code : FaultCode) (s : State) :
    (faultBound p code s).ports[p].prot = (recordFault code s.prot.time s.ports[p]).prot := by
  rw [← recorded_prot, faultBound_eq]
  simp [unbound, abandoned]

/-! ### An idle port -/

/-- A port without an entry folds nothing (R86). -/
theorem fold_unbound (h : s.ports[p].ident.bound = none) : fold p s = s := by
  rw [fold, h]

theorem faultIdle_pool (p : Fin 8) (code : FaultCode) (s : State) : (faultIdle p code s).pool = (disablePort p s).pool :=
  disablePort_pool (fold_pool ..)

theorem faultIdle_fault (p : Fin 8) (code : FaultCode) (s : State) :
    (faultIdle p code s).ports[p].prot = (recordFault code s.prot.time s.ports[p]).prot := by simp [faultIdle]

theorem faultIdle_gang (p : Fin 8) (code : FaultCode) (s : State) : gang p (faultIdle p code s) = gang p s :=
  (gang_congr fun f => by rw [faultIdle_pool]).trans disablePort_gang

theorem faultIdle_queue (p : Fin 8) (code : FaultCode) (s : State) : (faultIdle p code s).pool.queue = s.pool.queue := by
  rw [faultIdle_pool, disablePort_queue]

/-- An idle port faults in place (R50). -/
theorem faultIdle_faulted (p : Fin 8) (code : FaultCode) {s : State} (hi : s.ports[p].run.state ≠ .identifying) :
    idleFaulted p s (faultIdle p code s) :=
  ⟨enablesFall_congr enablesFall_disablePort (faultIdle_pool p code s), faultIdle_gang p code s, faultIdle_queue p code s,
    by simp [faultIdle], by simp [faultIdle], by simp [faultIdle], fun h => absurd h hi, flagged_raisePort ..⟩

/-! ### A fault by the port's state (R49, R50, R174) -/

/-- An identification is abandoned (R50). -/
def unread (p : Fin 8) (s : State) : State :=
  { modIdent p (fun i => { i with attempt := none, serialRead := none }) s with
    history := { s.history with waiting := s.history.waiting.filter fun q => q ≠ p } }

theorem unread_port (p : Fin 8) (s : State) :
    (unread p s).ports[p] = { s.ports[p] with ident := { s.ports[p].ident with attempt := none, serialRead := none } } := by
  change (modIdent p (fun i => { i with attempt := none, serialRead := none }) s).ports[p] = _
  rw [modIdent, modPort_self]

theorem faultPort_identifying (h : s.ports[p].run.state = .identifying) : faultPort p code s = faultIdle p code (unread p s) := by
  simp only [faultPort, h]
  rfl

theorem faultPort_still (h : s.ports[p].run.state = .ready ∨ s.ports[p].run.state = .unidentified) :
    faultPort p code s = faultIdle p code s := by
  rcases h with h | h <;> simp only [faultPort, h]

theorem faultPort_bound (h : isBound s.ports[p].run.state = true) : faultPort p code s = faultBound p code s := by
  unfold faultPort
  cases hs : s.ports[p].run.state <;> simp_all [isBound]

theorem faultPort_again (h : s.ports[p].run.state = .faulted) : faultPort p code s = writeFault p code s := by
  simp only [faultPort, h]

theorem faultPort_vacant (h : s.ports[p].run.state = .vacant) : faultPort p code s = s := by
  simp only [faultPort, h]

theorem faultPort_identifying_faulted (h : s.ports[p].run.state = .identifying) : idleFaulted p s (faultPort p code s) := by
  have hport := unread_port p s
  rw [faultPort_identifying h]
  refine ⟨enablesFall_congr (enablesFall_disablePort (s := s)) ?_, faultIdle_gang p code _, faultIdle_queue p code _, ?_, ?_, ?_,
    fun _ => ⟨?_, ?_, ?_⟩, flagged_raisePort ..⟩
  · rw [faultIdle_pool]
    exact disablePort_pool rfl
  · simp [faultIdle, unread]
  · simp [faultIdle]
  · simp [faultIdle, unread]
  · simp [faultIdle, unread]
  · simp [faultIdle, unread]
  · simp [faultIdle, unread]

theorem not_vacant_cases {x : PortState} (hi : isIdle x = true) (hv : x ≠ .vacant) :
    x = .identifying ∨ x = .ready ∨ x = .unidentified := by
  cases x <;> simp_all [isIdle]

theorem isBound_of_isIdle {x : PortState} (h : isIdle x = true) : isBound x = false := by
  cases x <;> simp_all [isIdle, isBound]

/-- A port with a pack that is not FAULTED becomes so, by the path of its state. -/
theorem faultPort_faulted (h : code ≠ .programFault) (hv : s.ports[p].run.state ≠ .vacant) :
    hasFaulted p (faultReason code) s (faultPort p code s) := by
  refine ⟨fun hb => ?_, fun hi => ?_⟩
  · rw [faultPort_bound hb]
    exact faultBound_faulted h p s
  · rcases not_vacant_cases hi hv with hs | hs
    · exact faultPort_identifying_faulted hs
    · rw [faultPort_still hs]
      refine faultIdle_faulted p code ?_
      rcases hs with hs | hs <;> simp only [hs, ne_eq, reduceCtorEq, not_false_eq_true]

/-- The record of a fault, with the latch and the filters as they were (R174). -/
theorem faultPort_prot (hv : s.ports[p].run.state ≠ .vacant) (code : FaultCode) :
    (faultPort p code s).ports[p].prot = (recordFault code s.prot.time s.ports[p]).prot := by
  have hunread : (recordFault code s.prot.time (unread p s).ports[p]).prot = (recordFault code s.prot.time s.ports[p]).prot := by
    rw [unread_port]
    unfold recordFault
    dsimp only
    split <;> rfl
  cases hs : s.ports[p].run.state with
  | vacant => exact absurd hs hv
  | identifying =>
    rw [faultPort_identifying hs, faultIdle_fault]
    exact hunread
  | unidentified => rw [faultPort_still (.inr hs), faultIdle_fault]
  | ready => rw [faultPort_still (.inl hs), faultIdle_fault]
  | faulted => rw [faultPort_again hs, writeFault, modPort_self]
  | transfer | running | holding | held | ending =>
    rw [faultPort_bound (by rw [hs]; rfl), faultBound_fault]

/-- The identification is abandoned in IDENTIFYING, and left elsewhere (R50). -/
theorem faultPort_ident (code : FaultCode) : (faultPort p code s).ports[p].ident =
    if s.ports[p].run.state = .identifying then { s.ports[p].ident with attempt := none, serialRead := none }
    else s.ports[p].ident := by
  cases hs : s.ports[p].run.state with
  | vacant => simp [faultPort_vacant hs]
  | identifying =>
    rw [faultPort_identifying hs, if_pos rfl]
    simp [faultIdle, unread]
  | unidentified =>
    rw [faultPort_still (.inr hs), if_neg (by simp)]
    simp [faultIdle]
  | ready =>
    rw [faultPort_still (.inl hs), if_neg (by simp)]
    simp [faultIdle]
  | faulted =>
    rw [faultPort_again hs, if_neg (by simp)]
    simp [writeFault]
  | transfer | running | holding | held | ending =>
    rw [faultPort_bound (by rw [hs]; rfl), if_neg (by simp), faultBound_eq]
    refine Eq.trans (b := (recorded p code s).ports[p].ident) (by simp [unbound, abandoned]) ?_
    exact recorded_cases (P := fun x => x.ports[p].ident = s.ports[p].ident) (fun _ _ => by simp) fun _ => by simp

end

end Sys2Proof.Faults
end

section
/-! PROOFS. The history table (R99 to R116): entries made and evicted, the lookup of a serial, the wait list's service, pins, imports
and deletions; and the identification of a pack (R93 to R98). -/

open Sys2Proof Sys2Proof.Machine Sys2Proof.Indexing Sys2Proof.Faults

namespace Sys2Proof.HistoryTable

section
variable {s : State} {e : Fin 64} {x y : Entry} {p : Fin 8}

/-! ### Entries -/

theorem modEntry_self (g : Option Entry → Option Entry) : (modEntry e g s).history.entries[e] = g s.history.entries[e] := by
  simp [modEntry]

theorem modEntry_other (g : Option Entry → Option Entry) {k : Fin 64} (h : k ≠ e) :
    (modEntry e g s).history.entries[k] = s.history.entries[k] := by
  simp [modEntry, Fin.val_inj, h.symm]

/-- A change of an entry that is known sets it. -/
theorem modEntry_known (h : s.history.entries[e] = some x) (g : Entry → Entry) :
    modEntry e (Option.map g) s = modEntry e (fun _ => some (g x)) s := by
  rw [modEntry, modEntry, h, Option.map_some]

theorem freeEntry_none {k : Fin 64} (h : freeEntry s = some k) : s.history.entries[k] = none := by
  simpa using List.find?_some h

/-- The evictable entry is one that is neither mounted nor pinned (R102). -/
theorem evictable_unheld (h : evictable s = some e) (hx : s.history.entries[e] = some x) : x.mounted = none ∧ x.pinned = false := by
  have hp := List.find?_some h
  rw [hx] at hp
  simpa using hp

/-- What an eviction leaves of the history, with the entry's number made anew (R103). -/
theorem evict_eq (hx : s.history.entries[e] = some x) :
    evict e s = raiseCabinet .evictionPending
      (freeUp e { s with history := { s.history with evictions := s.history.evictions ++ [⟨x, e, s.prot.time⟩] } }) := by
  rw [evict, hx]

theorem makeEntry_free (h : freeEntry s = some e) : makeEntry y s = some (e, modEntry e (fun _ => some y) s) := by
  rw [makeEntry, h]

theorem makeEntry_evicts (h : freeEntry s = none) (he : evictable s = some e) (hroom : s.history.evictions.length < 16) :
    makeEntry y s = some (e, modEntry e (fun _ => some y) (evict e s)) := by
  rw [makeEntry, h]
  simp only [he, hroom, if_true]

theorem makeEntry_full (h : freeEntry s = none) (hfull : evictable s = none ∨ 16 ≤ s.history.evictions.length) :
    makeEntry y s = none := by
  rw [makeEntry, h]
  rcases hfull with he | hroom
  · simp only [he]
  · cases he : evictable s with
    | none => rfl
    | some e => simp only [Nat.not_lt.mpr hroom, if_false]

/-! ### The lookup of a serial -/

theorem lookup_inUse {serial : Nat} (h : serialInUse p serial s = true) :
    lookup p serial s = some (unidentified p .serialInUse s) := by rw [lookup, if_pos h]

theorem lookup_hit {serial : Nat} (h : serialInUse p serial s = false) (he : entryOf serial s = some e) :
    lookup p serial s = some (mount p e s) := by
  rw [lookup, if_neg (by simp [h]), he]

theorem lookup_miss {serial : Nat} (h : serialInUse p serial s = false) (he : entryOf serial s = none) :
    lookup p serial s = (makeEntry (freshEntry serial) s).map fun x => mount p x.1 x.2 := by
  rw [lookup, if_neg (by simp [h]), he]

/-- The port's own serial does not count as in use for it (R101). -/
theorem serialInUse_modIdent (g : Ident → Ident) (serial : Nat) : serialInUse p serial (modIdent p g s) = serialInUse p serial s := by
  have hw : (modIdent p g s).history.waiting.any
        (fun q => decide (q ≠ p) && decide ((modIdent p g s).ports[q].ident.serialRead = some serial)) =
      s.history.waiting.any fun q => decide (q ≠ p) && decide (s.ports[q].ident.serialRead = some serial) := by
    refine congrArg _ (funext fun q => ?_)
    by_cases hq : q = p
    · simp [hq]
    · rw [modIdent, modPort_other _ hq]
  rw [serialInUse, hw]
  rfl

/-- What a mount leaves (R106). -/
theorem mount_port : (mount p e s).ports[p] = { s.ports[p] with
    ident := { s.ports[p].ident with bound := some e, lastFailure := .none, attempt := none }
    run := { s.ports[p].run with state := .ready } } := by
  rw [mount, modPort_self]
  rfl

theorem mount_entry : (mount p e s).history.entries[e] =
    s.history.entries[e].map fun x => { x with mounted := some p, lastPort := some p } := modEntry_self _

theorem mount_newest : (mount p e s).history.recency.getLast? = some e := List.getLast?_concat

theorem mount_evictions : (mount p e s).history.evictions = s.history.evictions := rfl

/-! ### The wait list's service -/

theorem serveHistory_empty (h : s.history.waiting = []) : serveHistory s = s := by
  rw [serveHistory, h, serveWaiting, ← h]

/-- The state with another wait list. -/
def listed (l : List (Fin 8)) (s : State) : State := { s with history := { s.history with waiting := l } }

theorem serveWaiting_nil : serveWaiting [] s = listed [] s := rfl

section
variable {rest : List (Fin 8)} {serial : Nat}

theorem serveWaiting_skips (hs : s.ports[p].ident.serialRead = none) : serveWaiting (p :: rest) s = serveWaiting rest s := by
  simp only [serveWaiting, hs, Option.map_none]

theorem serveWaiting_stays (hs : s.ports[p].ident.serialRead = some serial) (hl : lookup p serial (listed (p :: rest) s) = none) :
    serveWaiting (p :: rest) s = listed (p :: rest) s := by
  rw [listed] at hl
  simp only [serveWaiting, hs, Option.map_some, hl, listed]

theorem serveWaiting_serves {t : State} (hs : s.ports[p].ident.serialRead = some serial)
    (hl : lookup p serial (listed (p :: rest) s) = some t) : serveWaiting (p :: rest) s = serveWaiting rest t := by
  rw [listed] at hl
  simp only [serveWaiting, hs, Option.map_some, hl]

end

/-- A service does not look at the list that the state holds. -/
theorem serveWaiting_listed (l l' : List (Fin 8)) (s : State) : serveWaiting l (listed l' s) = serveWaiting l s := by
  induction l generalizing s with
  | nil => rfl
  | cons p rest ih =>
    cases hs : s.ports[p].ident.serialRead with
    | none => rw [serveWaiting_skips hs, ← ih s, serveWaiting_skips (by exact hs)]
    | some serial =>
      cases hl : lookup p serial (listed (p :: rest) s) with
      | none => rw [serveWaiting_stays hs hl, serveWaiting_stays (by exact hs) (by exact hl)]; rfl
      | some t => rw [serveWaiting_serves hs hl, serveWaiting_serves (by exact hs) (by exact hl)]

/-- A service ends with the list empty, or with a head for which no entry can be made. -/
theorem serveWaiting_ends (l : List (Fin 8)) (s : State) : (serveWaiting l s).history.waiting = [] ∨
    ∃ p rest serial, (serveWaiting l s).history.waiting = p :: rest ∧
      (serveWaiting l s).ports[p].ident.serialRead = some serial ∧ lookup p serial (serveWaiting l s) = none := by
  induction l generalizing s with
  | nil => exact .inl rfl
  | cons p rest ih =>
    cases hs : s.ports[p].ident.serialRead with
    | none =>
      rw [serveWaiting_skips hs]
      exact ih s
    | some serial =>
      cases hl : lookup p serial (listed (p :: rest) s) with
      | none =>
        rw [serveWaiting_stays hs hl]
        exact .inr ⟨p, rest, serial, rfl, hs, hl⟩
      | some t =>
        rw [serveWaiting_serves hs hl]
        exact ih t

/-- The head of the list is looked up on the state as it stands (R105). -/
theorem serveHistory_head {rest : List (Fin 8)} {serial : Nat} (h : s.history.waiting = p :: rest)
    (hs : s.ports[p].ident.serialRead = some serial) :
    (lookup p serial s = none → serveHistory s = s) ∧ ∀ u, lookup p serial s = some u → serveHistory s = serveHistory (listed rest u) := by
  have hstate : listed (p :: rest) s = s := by rw [listed, ← h]
  refine ⟨fun hl => ?_, fun u hl => ?_⟩
  · rw [serveHistory, h, serveWaiting_stays hs (hstate.symm ▸ hl), hstate]
  · rw [serveHistory, h, serveWaiting_serves hs (hstate.symm ▸ hl)]
    exact (serveWaiting_listed rest rest u).symm

end

/-! ### Imported records -/

theorem parseHistory_serial (record : List Byte) : (importedEntry record).serial = natAt record 0 8 := rfl

theorem importEntry_bad {record : List Byte} {s : State} (h : importBad record = true) : importEntry record s = refuse .badField s :=
  if_pos h

theorem importEntry_duplicate {record : List Byte} {s : State} (h : importBad record = false)
    (he : entryOf (natAt record 0 8) s ≠ none) : importEntry record s = refuse .duplicate s := by
  rw [importEntry, if_neg (by simp [h]), parseHistory_serial, if_pos (Option.isSome_iff_ne_none.mpr he)]

theorem importEntry_new {record : List Byte} {s : State} (h : importBad record = false)
    (he : entryOf (natAt record 0 8) s = none) {e : Fin 64} {t : State} (hm : makeEntry (importedEntry record) s = some (e, t)) :
    importEntry record s = answer (u8 e.val) (touch e t) := by
  rw [importEntry, if_neg (by simp [h]), parseHistory_serial, if_neg (by simp [he]), hm]

theorem importEntry_noSpace {record : List Byte} {s : State} (h : importBad record = false)
    (he : entryOf (natAt record 0 8) s = none) (hm : makeEntry (importedEntry record) s = none) :
    importEntry record s = refuse .noSpace s := by
  rw [importEntry, if_neg (by simp [h]), parseHistory_serial, if_neg (by simp [he]), hm]

/-- Settles O41. -/
theorem entriesLeave : Obligations.EntriesLeave := by
  refine ⟨fun iss e x s hx => ⟨fun hm hp => congrArg (replied iss 29) ?deleted, fun hm => congrArg (replied iss 29) ?mounted,
      fun hm hp => congrArg (replied iss 29) ?pinned⟩,
    fun iss serial e s h0 he => congrArg (replied iss 29) ?selector, fun iss r rest s h => congrArg (replied iss 30) ?read,
    fun iss s h => congrArg (replied iss 30) ?noRecord,
    ⟨fun s h => serveHistory_empty h, fun p rest serial s h hs => serveHistory_head h hs, fun s => serveWaiting_ends _ s⟩,
    fun iss record e x s hok hnew hfree he hx hroom => ?evicts⟩
  case deleted => rw [deleteEntry, onEntry_number hx, if_neg (by simp [hm]), if_neg (by simp [hp])]; rfl
  case mounted => rw [deleteEntry, onEntry_number hx, if_pos (Option.isSome_iff_ne_none.mpr hm)]
  case pinned => rw [deleteEntry, onEntry_number hx, if_neg (by simp [hm]), if_pos hp]
  case selector =>
    obtain ⟨x, hx, -⟩ : ∃ x, s.history.entries[e] = some x ∧ x.serial = serial := by
      simpa [Option.any_eq_true] using List.find?_some he
    rw [deleteEntry, deleteEntry, onEntry_number hx, onEntry]
    simp only [one_ne_zero, if_false, if_true, h0, he, hx]
  case read => simp only [readEviction, h]
  case noRecord => simp only [readEviction, h]
  case evicts =>
    obtain ⟨hm, hp⟩ := evictable_unheld he hx
    have hmade := makeEntry_evicts (y := importedEntry record) hfree he hroom
    rw [evict_eq hx] at hmade
    refine ⟨_, congrArg (replied iss 28) (importEntry_new hok hnew hmade), rfl, hm, hp, cabinetFlagged_raiseCabinet _ _,
      by rw [touch_entries, modEntry_self], ?_, fun k hk => ?_, rfl, rfl⟩
    · simp [freeUp, List.filter_filter]
    · rw [touch_entries, modEntry_other _ hk, raiseCabinet_history, freeUp, modEntry_other _ hk]

/-- Settles O40. -/
theorem pinsAndImports : Obligations.PinsAndImports := by
  refine ⟨fun iss e x s hx => ⟨congrArg (replied iss 26) ?pin, congrArg (replied iss 27) ?unpin⟩,
    fun iss record s => ⟨fun h => congrArg (replied iss 28) (importEntry_bad h),
      fun h he => congrArg (replied iss 28) (importEntry_duplicate h he), fun e h he hf => ?free,
      fun h he hf hfull => congrArg (replied iss 28) (importEntry_noSpace h he (makeEntry_full hf hfull))⟩,
    fun record => ⟨?bad, rfl, rfl, ?_, ?_, ?_, ?_, ?_, rfl, rfl, rfl, ?port, rfl, rfl, ?saturated⟩⟩
  case pin => rw [pinEntry, onEntry_number hx, modEntry_known hx]
  case unpin => rw [unpinEntry, onEntry_number hx, modEntry_known hx]
  case free =>
    refine ⟨_, congrArg (replied iss 28) (importEntry_new h he (makeEntry_free hf)),
      by rw [touch_entries, modEntry_self], rfl, fun k hk => by rw [touch_entries, modEntry_other _ hk], rfl, rfl⟩
  case bad => simp only [importBad, Bool.or_eq_true, decide_eq_true_eq, or_assoc]; rfl
  case port =>
    intro p
    have hp := p.isLt
    simp only [importedEntry, parseHistory]
    split
    · simp [Fin.ext_iff]
    · simp; omega
  case saturated => simp only [importedEntry, Bool.or_eq_true, decide_eq_true_eq, or_assoc]; exact or_congr decide_eq_true_iff .rfl
  all_goals
    simp only [importedEntry, importQuantity, parseHistory, chargeAt, energyAt, timeAt, importedCount]
    split <;> simp_all

/-! ### Attempts and their replies -/

section
variable {s : State} {e : Fin 64} {p : Fin 8} {a : Attempt} {reply : List Byte} {serial : Nat}

theorem receiveId_good (ha : s.ports[p].ident.attempt = some a) (hl : reply.length = 9) (hz : sumsToZero reply = true)
    (h0 : natOf (reply.take 8) ≠ 0) : receiveId p .presentAttempt reply s = succeedAttempt p (natOf (reply.take 8)) s := by
  simp only [receiveId, ha]
  rw [if_neg (by simp [hl]), if_neg (not_not.mpr hz), if_neg h0]

theorem receiveId_failed (ha : s.ports[p].ident.attempt = some a) (hl : reply.length = 9) {why : IdFailure}
    (h : (sumsToZero reply = false ∧ why = .badCheck) ∨
      (sumsToZero reply = true ∧ natOf (reply.take 8) = 0 ∧ why = .zeroSerial)) :
    receiveId p .presentAttempt reply s = failAttempt p a.number why s := by
  simp only [receiveId, ha]
  rw [if_neg (by simp [hl])]
  rcases h with ⟨hz, rfl⟩ | ⟨hz, h0, rfl⟩
  · rw [if_pos (by simp [hz])]
  · rw [if_neg (not_not.mpr hz), if_pos h0]

theorem receiveId_discarded {x : IdSource} (h : x ≠ .presentAttempt ∨ reply.length ≠ 9) : receiveId p x reply s = s := by
  rw [receiveId]
  split
  · rfl
  · exact if_pos h

theorem expireAttempt_due (ha : s.ports[p].ident.attempt = some a) (h : 50 ≤ a.elapsed) :
    expireAttempt p s = failAttempt p a.number .noReply s := by
  simp only [expireAttempt, ha, h, if_true]

/-- A failed attempt is followed by the next, or after the third by UNIDENTIFIED (R97). -/
theorem failAttempt_again {n : Nat} (why : IdFailure) (h : n < 3) : failAttempt p n why s =
    send (.idRequest p) (modIdent p (fun i => { i with lastFailure := why, attempt := some ⟨n + 1, 0⟩ }) s) := by
  rw [failAttempt, if_pos h, beginAttempt, modIdent, modIdent, modPort_modPort]
  rfl

theorem failAttempt_last {n : Nat} (why : IdFailure) (h : 3 ≤ n) : failAttempt p n why s = modPort p (fun q => { q with
    ident := { q.ident with lastFailure := why, attempt := none }
    run := { q.run with state := .unidentified } }) s := if_neg (Nat.not_lt.mpr h)

/-- The port's identification once its serial is read (R97). -/
def serialTaken (p : Fin 8) (serial : Nat) (s : State) : State :=
  modIdent p (fun i => { i with attempt := none, serialRead := some serial }) s

theorem succeedAttempt_looked {u : State} (h : lookup p serial (serialTaken p serial s) = some u) : succeedAttempt p serial s = u := by
  rw [serialTaken] at h
  simp only [succeedAttempt, h]

theorem succeedAttempt_waits (h : lookup p serial (serialTaken p serial s) = none) : succeedAttempt p serial s =
    { modIdent p (fun i => { i with attempt := none, serialRead := some serial }) s with
      history := { s.history with waiting := s.history.waiting ++ [p] } } := by
  rw [serialTaken] at h
  simp only [succeedAttempt, h]
  rfl

end

/-- Settles O39: the reply's checks, then the lookup of its serial. -/
theorem identificationEnds : Obligations.IdentificationEnds := by
  refine fun p a s ha => ⟨fun reply serial hl hz hserial h0 => ?good, fun reply why hl h => ?failed,
    fun reply => congrArg Host.Outcome.next (receiveId_discarded (.inl (by simp))),
    fun reply hl => congrArg Host.Outcome.next (receiveId_discarded (.inr hl)),
    fun he hn => congrArg Host.Outcome.next ((expireAttempt_due ha he).trans (failAttempt_again _ hn)),
    fun he hn => congrArg Host.Outcome.next ((expireAttempt_due ha he).trans (failAttempt_last _ hn))⟩
  case failed =>
    have hf := receiveId_failed ha hl h
    exact ⟨fun hn => congrArg Host.Outcome.next (hf.trans (failAttempt_again _ hn)),
      fun hn => congrArg Host.Outcome.next (hf.trans (failAttempt_last _ hn))⟩
  case good =>
    subst hserial
    generalize hserial : natOf (reply.take 8) = serial at h0 ⊢
    have hgood := receiveId_good ha hl hz (hserial ▸ h0)
    rw [hserial] at hgood
    have hrow : exec (.idReply p .presentAttempt reply) s = .next (receiveId p .presentAttempt reply s) := rfl
    have huse (b : Bool) (h : serialInUse p serial s = b) : serialInUse p serial (serialTaken p serial s) = b :=
      (serialInUse_modIdent _ serial).trans h
    rw [hrow, hgood]
    refine ⟨fun hu => congrArg Host.Outcome.next ?inUse, fun hu e he => ?hit,
      fun hu he => ⟨fun e hf => ?free, fun e x hf hv hx hroom => ?evicts, fun hf hfull => congrArg Host.Outcome.next ?full⟩⟩
    case inUse =>
      rw [succeedAttempt_looked (lookup_inUse (huse true hu)), unidentified, serialTaken, modIdent, modPort_modPort]
    case hit =>
      refine ⟨_, congrArg Host.Outcome.next (succeedAttempt_looked (lookup_hit (huse false hu) he)), ?_, ?_, ?_, mount_entry, mount_newest⟩
      all_goals rw [mount_port]
    case free =>
      have hlook := lookup_miss (huse false hu) (s := serialTaken p serial s) he
      rw [makeEntry_free (s := serialTaken p serial s) hf] at hlook
      refine ⟨_, congrArg Host.Outcome.next (succeedAttempt_looked hlook), ?_, ?_, rfl, ?_, mount_newest⟩
      · rw [mount_port]
      · rw [mount_port]
      · rw [mount_entry, modEntry_self]
        rfl
    case evicts =>
      have hlook := lookup_miss (huse false hu) (s := serialTaken p serial s) he
      rw [makeEntry_evicts (s := serialTaken p serial s) hf hv hroom, evict_eq (s := serialTaken p serial s) hx] at hlook
      refine ⟨_, congrArg Host.Outcome.next (succeedAttempt_looked hlook), ?_, ?_, rfl, ?_, mount_newest, cabinetFlagged_raiseCabinet _ _⟩
      · rw [mount_port]
      · rw [mount_port]
      · rw [mount_entry, modEntry_self]
        rfl
    case full =>
      have hlook := lookup_miss (huse false hu) (s := serialTaken p serial s) he
      rw [makeEntry_full (s := serialTaken p serial s) hf hfull] at hlook
      exact succeedAttempt_waits hlook

/-! ### Identifications begun -/

section
variable {s : State} {p : Fin 8}

/-- A pack in an empty port whose thermal switch is CLOSED starts an identification, and an OPEN one trips (R94, R172). -/
theorem packArrives_eq (s : State) (p : Fin 8) : packArrives p s =
    (if s.ports[p].prot.thermalOpen then thermalTrip p else id) (if s.ports[p].run.state = .vacant then startIdentify p s else s) := by
  unfold packArrives
  dsimp only
  split_ifs <;> rfl

theorem closePresence_absent (h : s.ports[p].ident.present = false) :
    closePresence p s = packArrives p (modIdent p (fun i => { i with present := true }) s) :=
  if_neg (by rw [h]; exact Bool.false_ne_true)

theorem modIdent_self (g : Ident → Ident) : (modIdent p g s).ports[p] = { s.ports[p] with ident := g s.ports[p].ident } := by
  rw [modIdent, modPort_self]

theorem startIdentify_eq (s : State) (p : Fin 8) : startIdentify p s = send (.idRequest p) (modPort p (fun q => { q with
    ident := { q.ident with lastFailure := .none, serialRead := none, attempt := some ⟨1, 0⟩ }
    run := { q.run with state := .identifying } }) s) := by
  rw [startIdentify, beginAttempt, modIdent, modPort_modPort]

theorem startIdentify_modIdent (g : Ident → Ident) : startIdentify p (modIdent p g s) = send (.idRequest p) (modPort p (fun q => { q with
    ident := { g q.ident with lastFailure := .none, serialRead := none, attempt := some ⟨1, 0⟩ }
    run := { q.run with state := .identifying } }) s) := by
  rw [startIdentify_eq, modIdent, modPort_modPort]

end

/-- Settles O37. -/
theorem identificationStarts : Obligations.IdentificationStarts := by
  refine ⟨fun p s ha hv ht => congrArg Host.Outcome.next ?begins, fun p s ha hf ht => congrArg Host.Outcome.next ?stays,
    fun p s ha hv ht hb hr => ?faults, fun p r s ha hf ht hr => congrArg Host.Outcome.next ?further,
    fun iss p s ho => congrArg (replied iss 14) ?retry⟩
  case begins =>
    rw [closePresence_absent ha, packArrives_eq, if_neg, if_pos, startIdentify_modIdent]
    · rfl
    · rw [modIdent_self]; exact hv
    · rw [modIdent_self]; simp only [ht, Bool.false_eq_true, not_false_eq_true]
  case stays =>
    rw [closePresence_absent ha, packArrives_eq, if_neg, if_neg]
    · rfl
    · simp only [modIdent_self, hf, reduceCtorEq, not_false_eq_true]
    · rw [modIdent_self]; simp only [ht, Bool.false_eq_true, not_false_eq_true]
  case further =>
    rw [closePresence_absent ha, packArrives_eq, if_pos, if_neg]
    · rw [thermalTrip, faultPort_again, writeFault, modProt, modIdent, modPort_modPort, modPort_modPort]
      · refine Owners.modPort_congr ?_
        simp only [recordFault, hr]
      · rw [modProt, modPort_self, modIdent_self]
        exact hf
    · simp only [modIdent_self, hf, reduceCtorEq, not_false_eq_true]
    · rw [modIdent_self]; exact ht
  case retry =>
    rw [retryIdentify, onPort_fin, if_neg (by rintro ⟨h1, h2⟩; exact ho.elim h2 h1), startIdentify_eq, ite_not]
  case faults =>
    have hstart : closePresence p s = thermalTrip p (startIdentify p (modIdent p (fun i => { i with present := true }) s)) := by
      rw [closePresence_absent ha, packArrives_eq, if_pos, if_pos]
      · rw [modIdent_self]; exact hv
      · rw [modIdent_self]; exact ht
    obtain ⟨y, hy, hport, hhist, htime⟩ : ∃ y : State, thermalTrip p (startIdentify p (modIdent p (fun i => { i with present := true }) s)) =
        faultPort p .thermalSwitch y ∧ y.ports[p] = { s.ports[p] with
          ident := ⟨true, some ⟨1, 0⟩, .none, none, none⟩
          run := { s.ports[p].run with state := .identifying }
          prot := { s.ports[p].prot with thermalLatch := true } } ∧ y.history = s.history ∧ y.prot = s.prot := by
      refine ⟨_, rfl, ?_, rfl, rfl⟩
      rw [startIdentify_modIdent, modProt, modPort_self, send_ports, modPort_self, hb]
    have hid : y.ports[p].run.state = .identifying := by rw [hport]
    have hhistory : (faultPort p .thermalSwitch y).history = (unread p y).history := by
      have hb' : (writeFault p .thermalSwitch (unread p y)).ports[p].ident.bound = none := by
        rw [writeFault, modPort_self, recordFault_ident, unread_port, hport]
      rw [faultPort_identifying hid, faultIdle, fold_unbound hb']
      simp
    have hident := faultPort_ident (p := p) (s := y) .thermalSwitch
    have hprot := faultPort_prot (p := p) (s := y) (by rw [hid]; simp) .thermalSwitch
    rw [if_pos hid, hport] at hident
    obtain ⟨-, -, -, hresults, hstate, houtcome, -, hflag⟩ := faultPort_identifying_faulted (code := .thermalSwitch) hid
    have hrecord := recordFault_first .thermalSwitch y.prot.time y.ports[p] (by rw [hport]; exact hr)
    rw [← hprot] at hrecord
    refine ⟨_, _, congrArg Host.Outcome.next (hstart.trans hy), hident, ?_, hstate, ?_, ?_, hflag, hrecord, rfl,
      congrArg Protection.time htime, hid, rfl, ?_⟩
    · rw [hprot, recordFault_prot_thermalLatch, hport]
    · rw [houtcome, hport]
    · rw [hresults, hport]
    · rw [hhistory, unread, hhist]

end Sys2Proof.HistoryTable
end

section
/-! PROOFS. The fault paths seen from before and after the work that surrounds them at one event; and the lines that fault a port:
the thermal switch (R172) and the presence contact that opens (R95). -/

open Sys2Proof Sys2Proof.Machine Sys2Proof.Indexing Sys2Proof.PoolPhases Sys2Proof.Faults Sys2Proof.HistoryTable

namespace Sys2Proof.FaultPaths

/-! ### Before and after -/

/-- What a fault path looks at before the fault stands between two states. -/
structure SameStart (p : Fin 8) (s y : State) : Prop where
  state : ∀ f : Fin 16, y.pool.phases[f].state = s.pool.phases[f].state
  enabled : ∀ f : Fin 16, y.pool.phases[f].enabled = s.pool.phases[f].enabled
  watch : ∀ f : Fin 16, y.pool.phases[f].watch = s.pool.phases[f].watch
  active : ∀ f : Fin 16, y.pool.phases[f].activeHigh = s.pool.phases[f].activeHigh
  queue : y.pool.queue = s.pool.queue
  reserved : y.ports[p].phases.reserved = s.ports[p].phases.reserved
  runState : y.ports[p].run.state = s.ports[p].run.state
  program : y.ports[p].run.program = s.ports[p].run.program
  stepIndex : y.ports[p].run.stepIndex = s.ports[p].run.stepIndex
  outcome : y.ports[p].run.outcome = s.ports[p].run.outcome
  results : y.ports[p].results = s.ports[p].results

/-- What a fault path leaves stands between two states, or is stronger in the later. -/
structure SameEnd (p : Fin 8) (t v : State) : Prop where
  state : ∀ f : Fin 16, v.pool.phases[f].state = t.pool.phases[f].state
  enabled : ∀ f : Fin 16, v.pool.phases[f].enabled = t.pool.phases[f].enabled
  watch : ∀ f : Fin 16, v.pool.phases[f].watch = t.pool.phases[f].watch
  command : ∀ f ∈ gang p t, t.pool.phases[f].command = 0 → v.pool.phases[f].command = 0
  queue : v.pool.queue = t.pool.queue
  runState : v.ports[p].run.state = t.ports[p].run.state
  outcome : v.ports[p].run.outcome = t.ports[p].run.outcome
  causes : v.ports[p].run.causes = t.ports[p].run.causes
  program : v.ports[p].run.program = t.ports[p].run.program
  applied : t.ports[p].run.applied = 0 → v.ports[p].run.applied = 0
  results : v.ports[p].results = t.ports[p].results
  basis : v.ports[p].alloc.basis = t.ports[p].alloc.basis
  request : v.ports[p].alloc.request = t.ports[p].alloc.request
  attempt : v.ports[p].ident.attempt = t.ports[p].ident.attempt
  serialRead : v.ports[p].ident.serialRead = t.ports[p].ident.serialRead
  waiting : v.history.waiting = t.history.waiting
  flags : FlagsRise t.cmd v.cmd

section
variable {p : Fin 8} {s t u v y : State} {r : EndReason}

theorem SameStart.refl (s : State) : SameStart p s s :=
  ⟨fun _ => rfl, fun _ => rfl, fun _ => rfl, fun _ => rfl, rfl, rfl, rfl, rfl, rfl, rfl, rfl⟩

theorem SameStart.trans (h : SameStart p s t) (h' : SameStart p t u) : SameStart p s u :=
  ⟨fun f => (h'.state f).trans (h.state f), fun f => (h'.enabled f).trans (h.enabled f), fun f => (h'.watch f).trans (h.watch f),
    fun f => (h'.active f).trans (h.active f), h'.queue.trans h.queue, h'.reserved.trans h.reserved,
    h'.runState.trans h.runState, h'.program.trans h.program, h'.stepIndex.trans h.stepIndex, h'.outcome.trans h.outcome,
    h'.results.trans h.results⟩

/-- A change of the port outside what a fault looks at. -/
theorem sameStart_of_port (hpool : y.pool = s.pool) (hres : y.ports[p].phases.reserved = s.ports[p].phases.reserved)
    (hst : y.ports[p].run.state = s.ports[p].run.state) (hpr : y.ports[p].run.program = s.ports[p].run.program)
    (hix : y.ports[p].run.stepIndex = s.ports[p].run.stepIndex) (hout : y.ports[p].run.outcome = s.ports[p].run.outcome)
    (hr : y.ports[p].results = s.ports[p].results) : SameStart p s y :=
  ⟨fun f => by rw [hpool], fun f => by rw [hpool], fun f => by rw [hpool], fun f => by rw [hpool], by rw [hpool], hres, hst, hpr,
    hix, hout, hr⟩

theorem SameStart.gang (h : SameStart p s y) : gang p y = gang p s := gang_congr fun f => by rw [h.state]

theorem SameStart.enablesFall (h : SameStart p s y) (hy : enablesFall p y t) : enablesFall p s t := by
  intro f hf
  obtain ⟨hwatch, hoff⟩ := hy f (h.gang ▸ hf)
  rw [h.enabled, h.watch, h.active] at hwatch
  exact ⟨hwatch, hoff⟩

theorem SameStart.releasesUnreserved (h : SameStart p s y) (hy : releasesUnreserved p y t) : releasesUnreserved p s t := by
  have hfree : freeCount y = freeCount s := congrArg List.length (freePhases_congr fun f => by rw [h.state])
  have hheld : heldCount p y = heldCount p s := congrArg List.length h.gang
  simpa only [Machine.releasesUnreserved, h.gang, h.reserved, hheld, hfree, h.queue] using hy

theorem SameStart.runFaulted (h : SameStart p s y) (hy : runFaulted p r y t) : runFaulted p r s t := by
  obtain ⟨hfall, hrel, hstep, hnone, hrest⟩ := hy
  rw [h.runState, h.program, h.stepIndex] at hstep
  rw [h.runState, h.results] at hnone
  exact ⟨h.enablesFall hfall, h.releasesUnreserved hrel, hstep, hnone, hrest⟩

theorem SameStart.idleFaulted (h : SameStart p s y) (hy : idleFaulted p y t) : idleFaulted p s t := by
  obtain ⟨hfall, hgang, hqueue, hres, hstate, hout, hident, hflag⟩ := hy
  rw [h.runState] at hident
  exact ⟨h.enablesFall hfall, hgang.trans h.gang, hqueue.trans h.queue, hres.trans h.results, hstate, hout.trans h.outcome, hident,
    hflag⟩

theorem SameStart.hasFaulted (h : SameStart p s y) (hy : hasFaulted p r y t) : hasFaulted p r s t := by
  obtain ⟨hb, hi⟩ := hy
  rw [h.runState] at hb hi
  exact ⟨fun hs => h.runFaulted (hb hs), fun hs => h.idleFaulted (hi hs)⟩

theorem SameEnd.refl (t : State) : SameEnd p t t :=
  ⟨fun _ => rfl, fun _ => rfl, fun _ => rfl, fun _ _ h => h, rfl, rfl, rfl, rfl, rfl, fun h => h, rfl, rfl, rfl, rfl, rfl, rfl, .refl _⟩

theorem SameEnd.gang (h : SameEnd p t v) : gang p v = gang p t := gang_congr fun f => by rw [h.state]

theorem SameEnd.trans (h : SameEnd p t u) (h' : SameEnd p u v) : SameEnd p t v :=
  ⟨fun f => (h'.state f).trans (h.state f), fun f => (h'.enabled f).trans (h.enabled f), fun f => (h'.watch f).trans (h.watch f),
    fun f hf hc => h'.command f (h.gang.symm ▸ hf) (h.command f hf hc), h'.queue.trans h.queue, h'.runState.trans h.runState,
    h'.outcome.trans h.outcome, h'.causes.trans h.causes, h'.program.trans h.program, fun ha => h'.applied (h.applied ha),
    h'.results.trans h.results, h'.basis.trans h.basis, h'.request.trans h.request, h'.attempt.trans h.attempt,
    h'.serialRead.trans h.serialRead, h'.waiting.trans h.waiting, h.flags.trans h'.flags⟩

theorem SameEnd.enablesFall (h : SameEnd p t v) (ht : enablesFall p s t) : enablesFall p s v := by
  intro f hf
  obtain ⟨hwatch, hoff⟩ := ht f hf
  refine ⟨(h.watch f).trans hwatch, fun hmem => ?_⟩
  rw [h.gang] at hmem
  obtain ⟨hen, hcom⟩ := hoff hmem
  exact ⟨(h.enabled f).trans hen, h.command f hmem hcom⟩

theorem SameEnd.runFaulted (h : SameEnd p t v) (ht : runFaulted p r s t) : runFaulted p r s v := by
  obtain ⟨hfall, hrel, hstep, hnone, hstate, hout, hcauses, hprog, happ, hbasis, hreq, hflag⟩ := ht
  refine ⟨h.enablesFall hfall, releasesUnreserved_congr hrel h.state h.queue, fun hs => ?_, fun hs => h.results.trans (hnone hs),
    h.runState.trans hstate, h.outcome.trans hout, h.causes.trans hcauses, h.program.trans hprog, h.applied happ,
    h.basis.trans hbasis, h.request.trans hreq, h.flags.flagged hflag⟩
  rw [h.results]
  exact ⟨h.flags.flagged (hstep hs).1, (hstep hs).2⟩

theorem SameEnd.idleFaulted (h : SameEnd p t v) (ht : idleFaulted p s t) : idleFaulted p s v := by
  obtain ⟨hfall, hgang, hqueue, hres, hstate, hout, hident, hflag⟩ := ht
  refine ⟨h.enablesFall hfall, h.gang.trans hgang, h.queue.trans hqueue, h.results.trans hres, h.runState.trans hstate,
    h.outcome.trans hout, fun hs => ?_, h.flags.flagged hflag⟩
  rw [h.attempt, h.serialRead, h.waiting]
  exact hident hs

theorem SameEnd.hasFaulted (h : SameEnd p t v) (ht : hasFaulted p r s t) : hasFaulted p r s v :=
  ⟨fun hs => h.runFaulted (ht.1 hs), fun hs => h.idleFaulted (ht.2 hs)⟩

theorem isBound_or_isIdle {x : PortState} (hf : x ≠ .faulted) : isBound x = true ∨ isIdle x = true := by
  cases x <;> simp_all [isBound, isIdle]

/-- What both paths leave of the port. -/
theorem hasFaulted_state (h : hasFaulted p r s t) (hf : s.ports[p].run.state ≠ .faulted) :
    t.ports[p].run.state = .faulted ∧ flagged p .fault t := by
  rcases isBound_or_isIdle hf with hb | hi
  · obtain ⟨-, -, -, -, hstate, -, -, -, -, -, -, hflag⟩ := h.1 hb
    exact ⟨hstate, hflag⟩
  · obtain ⟨-, -, -, -, hstate, -, -, hflag⟩ := h.2 hi
    exact ⟨hstate, hflag⟩

end

/-! ### The thermal switch (R172) -/

section
variable {p : Fin 8} {s : State}

theorem modProt_self (g : PortProtection → PortProtection) :
    (modProt p g s).ports[p] = { s.ports[p] with prot := g s.ports[p].prot } := by
  rw [modProt, modPort_self]

theorem openThermal_closed (h : s.ports[p].prot.thermalOpen = false) : openThermal p s =
    if s.ports[p].ident.present then thermalTrip p (modProt p (fun x => { x with thermalOpen := true }) s)
    else modProt p (fun x => { x with thermalOpen := true }) s :=
  if_neg (by rw [h]; exact Bool.false_ne_true)

/-- Settles O49. -/
theorem thermalSwitch : Obligations.ThermalSwitch := by
  refine ⟨fun p s ho hpres hv hf hnone => ?opens, fun p r s ho hpres hf hr => congrArg Host.Outcome.next ?further,
    fun p s ho hpres => congrArg Host.Outcome.next ?absent, fun p s => rfl⟩
  case absent => rw [openThermal_closed ho, if_neg (by rw [hpres]; exact Bool.false_ne_true)]
  case further =>
    rw [openThermal_closed ho, if_pos hpres, thermalTrip, faultPort_again, writeFault, modProt, modProt, modPort_modPort,
      modPort_modPort, modProt]
    · refine Owners.modPort_congr ?_
      simp only [recordFault, hr]
    · rw [modProt_self, modProt_self]
      exact hf
  case opens =>
    obtain ⟨y, hy, hport, hpool, htime⟩ : ∃ y, openThermal p s = faultPort p .thermalSwitch y ∧
        y.ports[p] = { s.ports[p] with prot := { s.ports[p].prot with thermalOpen := true, thermalLatch := true } } ∧
        y.pool = s.pool ∧ y.prot = s.prot := by
      rw [openThermal_closed ho, if_pos hpres]
      exact ⟨_, rfl, by rw [modProt_self, modProt_self], rfl, rfl⟩
    have hstart : SameStart p s y := by
      apply sameStart_of_port hpool <;> rw [hport]
    have hvy : y.ports[p].run.state ≠ .vacant := by rwa [hport]
    have hfaulted := hstart.hasFaulted (faultPort_faulted (code := .thermalSwitch) (by simp) hvy)
    obtain ⟨hstate, hflag⟩ := hasFaulted_state hfaulted hf
    have hprot := faultPort_prot (p := p) hvy .thermalSwitch
    have hrecord := recordFault_first .thermalSwitch y.prot.time y.ports[p] (by rw [hport]; exact hnone)
    rw [← hprot] at hrecord
    refine ⟨_, _, congrArg Host.Outcome.next hy, ?_, ?_, hstate, hrecord, rfl, by rw [htime], by rw [hport], rfl, hflag, hfaulted⟩
    · rw [hprot, recordFault_prot_thermalOpen, hport]
    · rw [hprot, recordFault_prot_thermalLatch, hport]

end

/-! ### Folds and unmounts (R86, R107) -/

section
variable {p : Fin 8} {s t : State} {e : Fin 64}

theorem fold_bound (h : s.ports[p].ident.bound = some e) : fold p s =
    modAcct p (fun a => { a with unfolded := .cleared }) (modEntry e (Option.map (foldEntry s.ports[p].acct.unfolded)) s) := by
  rw [fold, h]

theorem fold_port (p : Fin 8) (s : State) : (fold p s).ports[p] = { s.ports[p] with acct := { s.ports[p].acct with
    unfolded := if s.ports[p].ident.bound.isSome then .cleared else s.ports[p].acct.unfolded } } := by
  cases h : s.ports[p].ident.bound with
  | none => simp [fold_unbound h]
  | some e => rw [fold_bound h, modAcct, modPort_self, modEntry_ports]; rfl

theorem fold_entry (h : s.ports[p].ident.bound = some e) :
    (fold p s).history.entries[e] = s.history.entries[e].map (foldEntry s.ports[p].acct.unfolded) := by
  rw [fold_bound h]
  exact modEntry_self _

theorem unmount_bound (h : s.ports[p].ident.bound = some e) : unmount p s = modIdent p (fun i => { i with bound := none })
    (touch e (modEntry e (Option.map fun x => { x with mounted := none }) s)) := by
  rw [unmount, h]

theorem unmount_none (h : s.ports[p].ident.bound = none) : unmount p s = s := by
  rw [unmount, h]

theorem unmount_port (p : Fin 8) (s : State) :
    (unmount p s).ports[p] = { s.ports[p] with ident := { s.ports[p].ident with bound := none } } := by
  cases h : s.ports[p].ident.bound with
  | none => rw [unmount_none h, ← h]
  | some e => rw [unmount_bound h, modIdent_self, touch_ports, modEntry_ports]

theorem unmount_acct (p : Fin 8) (s : State) : (unmount p s).ports[p].acct = s.ports[p].acct := by rw [unmount_port]

theorem unmount_prot (p : Fin 8) (s : State) : (unmount p s).ports[p].prot = s.ports[p].prot := by rw [unmount_port]

theorem unmount_newest (h : s.ports[p].ident.bound = some e) : (unmount p s).history.recency.getLast? = some e := by
  rw [unmount_bound h]
  exact List.getLast?_concat

theorem unmount_entry (h : s.ports[p].ident.bound = some e) :
    (unmount p s).history.entries[e] = s.history.entries[e].map fun x => { x with mounted := none } := by
  rw [unmount_bound h, modIdent_history, touch_entries]
  exact modEntry_self _

theorem unmount_cases {P : State → Prop} (hn : P s)
    (hb : ∀ e, P (modIdent p (fun i => { i with bound := none })
      (touch e (modEntry e (Option.map fun x => { x with mounted := none }) s)))) : P (unmount p s) := by
  cases h : s.ports[p].ident.bound with
  | none => rwa [unmount_none h]
  | some e => rw [unmount_bound h]; exact hb e

/-- An unmount leaves what a fault path left. -/
theorem unmount_sameEnd : SameEnd p t (unmount p t) := by
  have hport := unmount_port p t
  have hpool : (unmount p t).pool = t.pool := unmount_cases (P := fun x => x.pool = t.pool) rfl fun _ => rfl
  have hcmd : (unmount p t).cmd = t.cmd := unmount_cases (P := fun x => x.cmd = t.cmd) rfl fun _ => rfl
  have hwait : (unmount p t).history.waiting = t.history.waiting :=
    unmount_cases (P := fun x => x.history.waiting = t.history.waiting) rfl fun _ => rfl
  exact ⟨fun f => by rw [hpool], fun f => by rw [hpool], fun f => by rw [hpool], fun f _ h => by rwa [hpool], by rw [hpool],
    by rw [hport], by rw [hport], by rw [hport], by rw [hport], fun h => by rwa [hport], by rw [hport], by rw [hport], by rw [hport],
    by rw [hport], by rw [hport], hwait, hcmd ▸ .refl _⟩

/-- A faulted run folds its unfolded set (R49, R86). -/
theorem faultBound_unfolded {code : FaultCode} (h : s.ports[p].ident.bound = some e) :
    (faultBound p code s).ports[p].acct.unfolded = .cleared := by
  have hb (x : State) (hx : x.ports[p].ident.bound = some e) : (unbound p x).ports[p].acct.unfolded = .cleared := by
    have hb' : (setBasis p none (releaseUnreserved p x)).ports[p].ident.bound = some e := by
      simpa using hx
    have hf := fold_port p (setBasis p none (releaseUnreserved p x))
    rw [hb'] at hf
    have hacct : (unbound p x).ports[p].acct = (fold p (setBasis p none (releaseUnreserved p x))).ports[p].acct := by
      simp [unbound]
    rw [hacct, hf]
    rfl
  rw [faultBound_eq]
  refine hb _ ?_
  have hrec : (recorded p code s).ports[p].ident = s.ports[p].ident :=
    recorded_cases (P := fun x => x.ports[p].ident = s.ports[p].ident) (fun _ _ => by simp) fun _ => by simp
  have : (abandoned p (recorded p code s)).ports[p].ident = (recorded p code s).ports[p].ident := by simp [abandoned]
  rw [this, hrec, h]

end

/-! ### The presence contact opens (R95) -/

section
variable {p : Fin 8} {s : State} {e : Fin 64}

/-- The contact reads OPEN. -/
def packGone (p : Fin 8) (s : State) : State := modIdent p (fun i => { i with present := false }) s

theorem packGone_port (p : Fin 8) (s : State) :
    (packGone p s).ports[p] = { s.ports[p] with ident := { s.ports[p].ident with present := false } } := modIdent_self _

theorem toVacant_port (p : Fin 8) (s : State) :
    (toVacant p s).ports[p] = { s.ports[p] with run := { s.ports[p].run with state := .vacant } } := by
  rw [toVacant, modRun, modPort_self]

/-- An entry's unfolded set goes into it and the entry is unmounted, newest of the list. -/
theorem unmount_fold (h : s.ports[p].ident.bound = some e) :
    (unmount p (fold p s)).history.recency.getLast? = some e ∧ (unmount p (fold p s)).ports[p].acct.unfolded = .cleared ∧
    (unmount p (fold p s)).history.entries[e] =
      s.history.entries[e].map fun x => { foldEntry s.ports[p].acct.unfolded x with mounted := none } := by
  have hb : (fold p s).ports[p].ident.bound = some e := by rw [fold_port, h]
  refine ⟨unmount_newest hb, ?_, ?_⟩
  · rw [unmount_port, fold_port, h]
    rfl
  · rw [unmount_entry hb, fold_entry h, Option.map_map]
    rfl

theorem not_mounted_of_map {o : Option Entry} {g : Entry → Entry} {x : Entry} (h : o.map (fun x => { g x with mounted := none }) = some x) :
    x.mounted = none := by
  obtain ⟨y, -, rfl⟩ := Option.map_eq_some_iff.mp h
  rfl

/-- A pack that is removed from a run: the fault path, then the unmount (R49, R95). -/
theorem packRemoved_bound (hb : isBound s.ports[p].run.state = true) :
    let t := unmount p (faultPort p .packRemoved (packGone p s))
    t.ports[p].ident.present = false ∧ t.ports[p].ident.bound = none ∧
    (∀ e, s.ports[p].ident.bound = some e → t.history.recency.getLast? = some e ∧
      t.ports[p].acct.unfolded = .cleared ∧ ∀ x, t.history.entries[e] = some x → x.mounted = none) ∧
    (s.ports[p].prot.fault = none → t.ports[p].run.state = .faulted ∧ t.ports[p].run.program = none ∧ flagged p .fault t ∧
      (∃ r, t.ports[p].prot.fault = some r ∧ r.code = .packRemoved ∧ r.portState = s.ports[p].run.state) ∧
      runFaulted p .packRemoved s t) := by
  have hgone := packGone_port p s
  have hbg : isBound (packGone p s).ports[p].run.state = true := by rwa [hgone]
  have hnot {x : PortState} (hx : isBound x = false) : (packGone p s).ports[p].run.state ≠ x := fun he => by
    rw [he, hx] at hbg
    exact Bool.false_ne_true hbg
  have hident := faultPort_ident (p := p) (s := packGone p s) .packRemoved
  rw [if_neg (hnot rfl), hgone] at hident
  have hprot := faultPort_prot (p := p) (hnot rfl) .packRemoved
  have hpool : (packGone p s).pool = s.pool := rfl
  have hstart : SameStart p s (packGone p s) := by
    apply sameStart_of_port hpool <;> rw [hgone]
  have hrun : runFaulted p .packRemoved s (unmount p (faultPort p .packRemoved (packGone p s))) :=
    unmount_sameEnd.runFaulted (hstart.runFaulted ((faultPort_faulted (by simp) (hnot rfl)).1 hbg))
  refine ⟨?_, ?_, fun e he => ?_, fun hn => ?_⟩
  · rw [unmount_port, hident]
  · rw [unmount_port]
  · have hbe : (faultPort p .packRemoved (packGone p s)).ports[p].ident.bound = some e := by rw [hident]; exact he
    refine ⟨unmount_newest hbe, ?_, fun x hx => ?_⟩
    · rw [unmount_acct, faultPort_bound hbg, faultBound_unfolded (e := e)]
      rw [hgone]
      exact he
    · rw [unmount_entry hbe] at hx
      exact not_mounted_of_map (g := id) hx
  · obtain ⟨-, -, -, -, hstate, -, -, hprog, -, -, -, hflag⟩ := id hrun
    have hrecord := recordFault_first .packRemoved (packGone p s).prot.time (packGone p s).ports[p] (by rw [hgone]; exact hn)
    rw [← hprot] at hrecord
    have hfault := (congrArg PortProtection.fault (unmount_prot p (faultPort p .packRemoved (packGone p s)))).trans hrecord
    exact ⟨hstate, hprog, hflag, ⟨_, hfault, rfl, by rw [hgone]⟩, hrun⟩

/-- Settles O38: one case per kind of state that the contact can open in. -/
theorem presenceOpens : Obligations.PresenceOpens := by
  intro p s h
  have hgone := packGone_port p s
  have hrow {u : State} (hu : openPresence p s = u) : exec (.presenceOpen p) s = .next u := congrArg Host.Outcome.next hu
  cases hs : s.ports[p].run.state with
  | vacant =>
    refine ⟨packGone p s, hrow (by simp only [openPresence, h, hs]; rfl), ?_⟩
    rw [hgone]
    exact ⟨rfl, fun _ => hs, by simp, by simp [isBound], by simp, by simp [isBound], fun _ => ⟨rfl, rfl⟩⟩
  | identifying =>
    refine ⟨toVacant p (unread p (packGone p s)), hrow (by simp only [openPresence, h, hs]; rfl), ?_⟩
    rw [toVacant_port, unread_port, hgone]
    simp [isIdle, isBound, toVacant, unread]
  | unidentified =>
    refine ⟨toVacant p (packGone p s), hrow (by simp only [openPresence, h, hs]; rfl), ?_⟩
    rw [toVacant_port, hgone]
    simp [isIdle, isBound]
  | ready =>
    refine ⟨toVacant p (unmount p (fold p (packGone p s))), hrow (by simp only [openPresence, h, hs]; rfl), ?_⟩
    have hfold {e : Fin 64} (he : s.ports[p].ident.bound = some e) := unmount_fold (p := p) (s := packGone p s) (e := e) (by rw [hgone]; exact he)
    rw [toVacant_port, unmount_port, fold_port, hgone]
    refine ⟨rfl, fun _ => rfl, by simp, fun _ => ⟨rfl, fun e he => ?_⟩, fun _ e he => ?_, by simp [isBound], fun _ => ⟨rfl, rfl⟩⟩
    · obtain ⟨hnew, hun, hent⟩ := hfold he
      refine ⟨hnew, by rw [he]; rfl, fun x hx => not_mounted_of_map (hent.symm.trans hx)⟩
    · rw [← congrArg Port.acct hgone]
      exact (hfold he).2.2
  | faulted =>
    refine ⟨unmount p (fold p (packGone p s)), hrow (by simp only [openPresence, h, hs]; rfl), ?_⟩
    have hfold {e : Fin 64} (he : s.ports[p].ident.bound = some e) := unmount_fold (p := p) (s := packGone p s) (e := e) (by rw [hgone]; exact he)
    rw [unmount_port, fold_port, hgone]
    refine ⟨rfl, by simp [isIdle], by simp, fun _ => ⟨rfl, fun e he => ?_⟩, fun _ e he => ?_, by simp [isBound], fun _ => ⟨rfl, rfl⟩⟩
    · obtain ⟨hnew, hun, hent⟩ := hfold he
      refine ⟨hnew, by rw [he]; rfl, fun x hx => not_mounted_of_map (hent.symm.trans hx)⟩
    · rw [← congrArg Port.acct hgone]
      exact (hfold he).2.2
  | transfer | running | holding | held | ending =>
    have hb : isBound s.ports[p].run.state = true := by rw [hs]; rfl
    obtain ⟨hpres, hbound, hentry, hfault⟩ := packRemoved_bound hb
    refine ⟨unmount p (faultPort p .packRemoved (packGone p s)), hrow (by simp only [openPresence, h, hs]; rfl), hpres,
      by simp [isIdle], by simp, fun _ => ⟨hbound, hentry⟩, by simp, fun _ hn => hs ▸ hfault hn, by simp [isIdle]⟩

end

end Sys2Proof.FaultPaths
end

section
/-! PROOFS. Answers from below and reports upstream (R191, R192, R199 to R201). -/

open Sys2Proof Sys2Proof.Machine

namespace Sys2Proof.ChainReports

section
variable {f : List Byte} {s : State} {x : Uplink}

theorem takeAnswer_discarded (h : answerValid f = false) : takeAnswer f s = s := if_pos (.inr (by simp [h]))

theorem takeAnswer_taken (h : answerValid f = true) (hd : s.chain.downstream = true) : takeAnswer f s = { s with
    chain := { s.chain with last := false, answerWatch := none }
    sent := if natAt f 1 1 = 1 then s.sent ++ [.upstream f] else s.sent } := by
  rw [takeAnswer, if_neg (by simp [h, hd])]
  dsimp only
  split <;> rfl

/-- A slot that waits goes on a list from below that has room, and up in a frame of its own behind a full one (R201). -/
theorem takeUpstream_taken (h : upstreamValid f = true) (hu : s.chain.uplink = some x) (he : x.elapsed ≤ 5)
    (hl : s.chain.last = false) (hd : s.chain.downstream = true) : takeUpstream f s =
    if natAt f 2 1 < 15 then send (.upstream (withCrc (slice f 0 2 ++ u8 (natAt f 2 1 + 1) ++ slotBytesOf f ++ x.slot)))
        (modChain (fun c => { c with uplink := none }) s)
    else sendBroken x.slot s := by
  simp only [takeUpstream, hu]
  rw [if_neg]
  simp [hl, hd, h, he]

theorem takeUpstream_discarded (h : s.chain.uplink = none ∨ s.chain.last = true ∨ upstreamValid f = false) :
    takeUpstream f s = s := by
  unfold takeUpstream
  split
  · rfl
  · next hu =>
    refine if_pos ?_
    rcases h with h | h | h
    · rw [h] at hu
      cases hu
    · exact .inl h
    · exact .inr (.inr (.inr (by simp [h])))

end

/-- Settles O60. -/
theorem chainAnswersAndReports : Obligations.ChainAnswersAndReports := by
  refine ⟨fun f s h hd => congrArg Host.Outcome.next (takeAnswer_taken h hd),
    fun f s h => congrArg Host.Outcome.next (takeAnswer_discarded h),
    fun s n hw hn => congrArg Host.Outcome.next ?watch, fun f x s h hc hu he hl hd => congrArg Host.Outcome.next ?joins,
    fun f x s h hc hu he hl hd => congrArg Host.Outcome.next ?broken,
    fun f s h => congrArg Host.Outcome.next (takeUpstream_discarded h),
    fun x s hu he => congrArg Host.Outcome.next ?expires⟩
  case watch => simp only [expireAnswer, hw, Nat.not_lt.mpr hn, if_false]; rfl
  case joins => rw [takeUpstream_taken h hu he hl hd, if_pos hc]; rfl
  case broken => rw [takeUpstream_taken h hu he hl hd, if_neg (by omega)]; rfl
  case expires => simp only [expireUplink, hu, Nat.not_lt.mpr he, if_false]; rfl

end Sys2Proof.ChainReports
end

section
/-! PROOFS. Holds and run ends (R43 to R48): entry into HELD, the completion of ENDING, and the commands that lead there. -/

open Sys2Proof Sys2Proof.Machine Sys2Proof.Indexing Sys2Proof.PoolPhases Sys2Proof.Faults

namespace Sys2Proof.Holds

section
variable {p : Fin 8} {s x : State}

/-! ### Leaving with the gang as it was -/

/-- A port has left the wait queue and its phases are as they were. -/
structure Departed (p : Fin 8) (s x : State) : Prop where
  left : Left p s x
  phases : ∀ f ∈ gang p s, x.pool.phases[f] = s.pool.phases[f]

theorem departed_leaveQueue (p : Fin 8) (s : State) : Departed p s (leaveQueue p s) :=
  ⟨leaveQueue_left p s, fun f hf => leaveQueue_phase (by rw [mem_gang.mp hf]; simp)⟩

theorem departed_of_absent (h : Absent p s.pool.queue) : Departed p s s := ⟨left_of_absent h, fun _ _ => rfl⟩

/-- Work outside the pool and the reserved count, before and after. -/
theorem Departed.frame {r y : State} (h : Departed p s x) (hs : s.pool = r.pool)
    (hsr : s.ports[p].phases.reserved = r.ports[p].phases.reserved) (hy : y.pool = x.pool)
    (hyr : y.ports[p].phases.reserved = x.ports[p].phases.reserved) : Departed p r y := by
  have hgang : gang p s = gang p r := gang_congr fun f => by rw [hs]
  refine ⟨(h.left.congr (fun f => by rw [hy]) (by rw [hy]) hyr).of_start (fun f => by rw [hs]) (by rw [hs]) hsr, fun f hf => ?_⟩
  rw [hy, h.phases f (hgang ▸ hf), hs]

/-- The enables down and then the release (R44). -/
theorem Departed.heldRelease (h : Departed p s x) :
    releasesUnreserved p s (releaseUnreserved p (disablePort p x)) ∧ enablesFall p s (releaseUnreserved p (disablePort p x)) := by
  have hleft : Left p s (disablePort p x) :=
    h.left.congr (fun f => disablePort_state f) (disablePort_queue ..) (by rw [disablePort_ports])
  refine ⟨releasesUnreserved_of_left hleft, enablesFall_of_down (fun f hf => ?_) hleft.gang hleft.absent⟩
  rw [disablePort_phase, if_pos (mem_gang.mp (h.left.gang.symm ▸ hf)), h.phases f hf]

/-- The release and then the enables down (R47). -/
theorem Departed.endRelease (h : Departed p s x) {v : State} (hv : v.pool = (releaseUnreserved p x).pool) :
    releasesUnreserved p s (disablePort p v) ∧ enablesFall p s (disablePort p v) := by
  refine ⟨releasesUnreserved_congr (releasesUnreserved_of_left h.left) (fun f => ?_) ?_,
    enablesFall_of_released h.phases h.left.gang h.left.absent hv⟩
  · rw [disablePort_state, hv]
  · rw [disablePort_queue, hv]

/-! ### Entry into HELD (R44) -/

/-- A port on its way into HELD, before it leaves the wait queue. -/
def stopped (p : Fin 8) (s : State) : State :=
  setBasis p none (restartSettle p (discardCapture p (modRun p (fun r => { r with
    state := .held, slew := none, applied := 0, throttled := false, cvIntegrator := 0 }) s)))

theorem enterHeld_eq (p : Fin 8) (s : State) :
    enterHeld p s = raisePort .hold p (fold p (releaseUnreserved p (disablePort p (leaveQueue p (stopped p s))))) := rfl

theorem enterHeld_pool (p : Fin 8) (s : State) : releasesUnreserved p s (enterHeld p s) ∧ enablesFall p s (enterHeld p s) := by
  have hdep : Departed p s (leaveQueue p (stopped p s)) :=
    (departed_leaveQueue p (stopped p s)).frame rfl (by simp [stopped]) rfl rfl
  obtain ⟨hrel, hfall⟩ := hdep.heldRelease
  have hpool : (enterHeld p s).pool = (releaseUnreserved p (disablePort p (leaveQueue p (stopped p s)))).pool := by
    rw [enterHeld_eq, raisePort_pool, fold_pool]
  exact ⟨releasesUnreserved_congr hrel (fun f => by rw [hpool]) (by rw [hpool]), enablesFall_congr hfall hpool⟩

/-- The port at its entry into HELD. -/
theorem enterHeld_port (p : Fin 8) (s : State) :
    let t := enterHeld p s
    t.ports[p].run.state = .held ∧ t.ports[p].run.applied = 0 ∧ t.ports[p].run.cvIntegrator = 0 ∧
    t.ports[p].run.causes = s.ports[p].run.causes ∧ t.ports[p].run.stepTimer = s.ports[p].run.stepTimer ∧
    t.ports[p].intake.captureA = none ∧ t.ports[p].alloc.basis = none ∧ t.ports[p].alloc.request = 0 ∧ flagged p .hold t := by
  refine ⟨?_, ?_, ?_, ?_, ?_, ?_, ?_, ?_, flagged_raisePort ..⟩ <;> simp [enterHeld]

/-! ### HOLD_PORT (R43) -/

theorem holdPort_drains {c : HoldCauses} (h : s.ports[p].run.state = .running ∨ s.ports[p].run.state = .transfer)
    (ha : s.ports[p].run.applied ≠ 0) : holdPort c p s = restartSettle p (discardCapture p (startDrain p
      (modRun p (fun x => { x with state := .holding }) (modRun p (addCauses c) s)))) := by
  rw [holdPort, if_pos h, if_neg ha]

theorem holdPort_halts {c : HoldCauses} (h : s.ports[p].run.state = .running ∨ s.ports[p].run.state = .transfer)
    (ha : s.ports[p].run.applied = 0) : holdPort c p s = enterHeld p (modRun p (addCauses c) s) := by
  rw [holdPort, if_pos h, if_pos ha]

theorem holdPort_stands {c : HoldCauses} (h : s.ports[p].run.state = .holding ∨ s.ports[p].run.state = .held) :
    holdPort c p s = modRun p (addCauses c) s := by
  rw [holdPort, if_neg]
  rcases h with h | h <;> rw [h] <;> simp

/-- What a fall of the enables and a release look at. -/
theorem heldPool_of_start {r t : State} (hs : s.pool = r.pool) (hres : s.ports[p].phases.reserved = r.ports[p].phases.reserved)
    (h : releasesUnreserved p s t ∧ enablesFall p s t) : releasesUnreserved p r t ∧ enablesFall p r t := by
  have hgang : gang p s = gang p r := gang_congr fun f => by rw [hs]
  have hfree : freeCount s = freeCount r := congrArg List.length (freePhases_congr fun f => by rw [hs])
  have hheld : heldCount p s = heldCount p r := congrArg List.length hgang
  obtain ⟨hrel, hfall⟩ := h
  refine ⟨?_, fun f hf => ?_⟩
  · simpa only [releasesUnreserved, hheld, hgang, hres, hfree, hs] using hrel
  · have := hfall f (hgang ▸ hf)
    rwa [hs] at this

theorem holdCommand_hasStep (h : hasStep s.ports[p].run.state = true) : holdCommand p s = done (holdPort masterCause p s) :=
  if_pos h

end

end Sys2Proof.Holds
end

section
/-! PROOFS. Acquiring phases (R144 to R149) and the enables that rise with a port's state (R155). -/

open Sys2Proof Sys2Proof.Machine Sys2Proof.Indexing Sys2Proof.PoolPhases

namespace Sys2Proof.Acquiring

section
variable {p : Fin 8} {s t u y : State} {f : Fin 16} {raw : Nat}

/-! ### What an acquisition looks at -/

/-- The states of the phases, the wait queue and the reserved counts stand. -/
structure SamePool (s y : State) : Prop where
  state : ∀ f : Fin 16, y.pool.phases[f].state = s.pool.phases[f].state
  queue : y.pool.queue = s.pool.queue
  reserved : ∀ q : Fin 8, y.ports[q].phases.reserved = s.ports[q].phases.reserved

theorem SamePool.gang (h : SamePool s y) : gang p y = gang p s := gang_congr fun f => by rw [h.state]

theorem SamePool.cap (h : SamePool s y) : cap p y = cap p s := by
  have hin : inServiceCount y = inServiceCount s :=
    congrArg List.length (List.filter_congr fun f _ => by rw [h.state])
  simp only [Machine.cap, hin, h.reserved]

theorem SamePool.acquired (h : SamePool s y) (hy : acquired p raw y t) : acquired p raw s t := by
  have hheld : heldCount p y = heldCount p s := congrArg List.length h.gang
  have hfree : freePhases y = freePhases s := freePhases_congr fun f => by rw [h.state]
  have hcount : freeCount y = freeCount s := congrArg List.length hfree
  simpa only [Machine.acquired, h.gang, h.cap, hheld, hfree, hcount, h.queue, h.reserved] using hy

/-- What later work must leave of an acquisition. -/
theorem acquired_then {v : State} (ht : acquired p raw s t) (hpool : v.pool = t.pool) (hstage : v.ports[p].run.stage = t.ports[p].run.stage)
    (hneed : v.ports[p].phases.need = t.ports[p].phases.need) (hflags : FlagsRise t.cmd v.cmd) : acquired p raw s v := by
  have hgang : gang p v = gang p t := gang_congr fun f => by rw [hpool]
  have hheld : heldCount p v = heldCount p t := congrArg List.length hgang
  have hqueued : isQueued p v = isQueued p t := by rw [isQueued, isQueued, hpool]
  obtain ⟨h1, h2, h3⟩ := ht
  simp only [rampsOn, hstage, hneed, hgang, hheld, hqueued, Machine.acquired, hpool]
  refine ⟨h1, h2, fun h h' => ?_⟩
  obtain ⟨hflag, hrest⟩ := h3 h h'
  exact ⟨hflags.flagged hflag, hrest⟩

/-! ### Entry into ACQUIRING (R144, R146) -/

/-- The port's items as the need is formed. -/
def asking (p : Fin 8) (raw n : Nat) (s : State) : State :=
  modPort p (fun q => { q with
    run := { q.run with state := .transfer, stage := .acquiring, slew := none, applied := 0 }
    phases := { q.phases with need := some ⟨raw, n⟩ } }) s

theorem asking_port (raw n : Nat) : (asking p raw n s).ports[p] = { s.ports[p] with
    run := { s.ports[p].run with state := .transfer, stage := .acquiring, slew := none, applied := 0 }
    phases := { s.ports[p].phases with need := some ⟨raw, n⟩ } } := modPort_self ..

/-- A port that joins the wait queue's tail (R146). -/
def joins (p : Fin 8) (n : Nat) (s : State) : State :=
  raisePort .phaseWait p { s with pool := { s.pool with queue := s.pool.queue ++ [(p, n)] } }

theorem acquire_eq (p : Fin 8) (s : State) : acquire p s =
    let raw := rawNeed (s.ports[p].run.step.getD default) s.ports[p].prot.effective.vMin
    let n := min raw (cap p s)
    let h := heldCount p s
    let r := s.ports[p].phases.reserved
    if n ≤ h then releaseAndServe p (max n r) (meetNeed p (asking p raw n s))
    else if s.pool.queue.isEmpty ∧ n - h ≤ freeCount s then meetNeed p (takePhases p (n - h) (asking p raw n s))
    else serveQueue (joins p (n - min h r) (releaseBeyond p r (asking p raw n s))) := rfl

theorem met_rampsOn (s : State) : rampsOn (meetNeed p s).ports[p] := by
  rw [meetNeed, modPort_self]
  exact ⟨rfl, rfl⟩

/-- A port that does not wait acquires by the three situations of R146. -/
theorem acquire_acquired (h : Absent p s.pool.queue) :
    acquired p (rawNeed (s.ports[p].run.step.getD default) s.ports[p].prot.effective.vMin) s (acquire p s) := by
  generalize hraw : rawNeed (s.ports[p].run.step.getD default) s.ports[p].prot.effective.vMin = raw
  have heq := acquire_eq p s
  simp only [hraw] at heq
  refine ⟨fun hn => ?_, fun hn hq hf => ?_, fun hn hwait => ?_⟩
  · rw [if_pos hn] at heq
    rw [heq]
    have habs : Absent p (meetNeed p (asking p raw (min raw (cap p s)) s)).pool.queue := h
    refine ⟨?_, releaseAndServe_gang habs, releaseAndServe_queue⟩
    rw [releaseAndServe_port habs]
    exact met_rampsOn _
  · rw [if_neg (Nat.not_le.mpr hn), if_pos ⟨by rw [hq]; rfl, hf⟩] at heq
    rw [heq]
    refine ⟨met_rampsOn _, ?_, ?_, fun f hmem => ?_⟩
    · have hheld := takePhases_heldCount (p := p) (s := asking p raw (min raw (cap p s)) s) (min raw (cap p s) - heldCount p s)
      have hs : heldCount p (asking p raw (min raw (cap p s)) s) = heldCount p s := rfl
      have hfs : freeCount (asking p raw (min raw (cap p s)) s) = freeCount s := rfl
      rw [hs, hfs, Nat.min_eq_left hf] at hheld
      exact hheld.trans (by omega)
    · rw [meetNeed, modPort_pool, takePhases_queue]
      exact hq
    · exact (takePhases_mem_gang _).mpr hmem
  · have hneg : ¬ (s.pool.queue.isEmpty = true ∧ min raw (cap p s) - heldCount p s ≤ freeCount s) := by
      rintro ⟨he, hf⟩
      rcases hwait with hq | hf'
      · exact hq (List.isEmpty_iff.mp he)
      · omega
    rw [if_neg (Nat.not_le.mpr hn), if_neg hneg] at heq
    generalize hx : releaseBeyond p s.ports[p].phases.reserved (asking p raw (min raw (cap p s)) s) = x at heq
    have hqx : x.pool.queue = s.pool.queue := by rw [← hx, releaseBeyond_queue]; rfl
    have hfx : freeCount x = freeCount s + (heldCount p s - s.ports[p].phases.reserved) := by
      rw [← hx, releaseBeyond_freeCount]
      rfl
    have hgx : gang p x = (gang p s).take s.ports[p].phases.reserved := by rw [← hx, releaseBeyond_gang]; rfl
    have hpx : x.ports[p] = (asking p raw (min raw (cap p s)) s).ports[p] := by rw [← hx, releaseBeyond_ports]
    have hserve : acquire p s = serveList (s.pool.queue ++ [(p, min raw (cap p s) - min (heldCount p s) s.ports[p].phases.reserved)])
        (joins p (min raw (cap p s) - min (heldCount p s) s.ports[p].phases.reserved) x) := by
      rw [heq, serveQueue]
      congr 1
      exact congrArg (· ++ _) hqx
    obtain ⟨hwaits, hserved⟩ := serveList_last h (min raw (cap p s) - min (heldCount p s) s.ports[p].phases.reserved)
      (joins p (min raw (cap p s) - min (heldCount p s) s.ports[p].phases.reserved) x)
    rw [← hserve] at hwaits hserved
    refine ⟨?_, ?_, fun hq => ?_, fun hq => ?_⟩
    · rw [heq]
      exact (serveQueue_poolWork _).cmd.flagged (flagged_raisePort ..)
    · rw [hserve, serveList_queue]
      congr 1
    · obtain ⟨hport, hgang⟩ := hwaits hq
      rw [hport, hgang]
      change x.ports[p].run.stage = _ ∧ x.ports[p].phases.need = _ ∧ gang p x = _
      rw [hpx, asking_port]
      exact ⟨rfl, rfl, hgx⟩
    · obtain ⟨hramps, hheld⟩ := hserved hq
      refine ⟨hramps, hheld.trans ?_⟩
      change heldCount p x + _ = _
      have hxh : heldCount p x = min s.ports[p].phases.reserved (heldCount p s) := by
        rw [heldCount, hgx, List.length_take, heldCount]
      rw [hxh]
      omega

/-! ### Enables that rise (R155) -/

/-- Every phase of a gang is enabled or watched. -/
def Up (p : Fin 8) (s : State) : Prop := ∀ f ∈ gang p s, s.pool.phases[f].enabled = true ∨ s.pool.phases[f].watch ≠ none

theorem enabled_up (ph : Phase) : (enabled ph).enabled = true ∨ (enabled ph).watch ≠ none := by
  unfold enabled
  cases h : ph.watch <;> simp [h]

theorem enabled_watch (ph : Phase) : (enabled ph).watch = ph.watch := by
  unfold enabled
  split <;> rfl

theorem enabled_enabled (ph : Phase) : (enabled ph).enabled = (ph.enabled || ph.watch.isNone) := by
  unfold enabled
  cases h : ph.watch <;> simp

theorem taken_up (he : isEnabledState s.ports[p].run.state = true) (ph : Phase) :
    (taken p s ph).enabled = true ∨ (taken p s ph).watch ≠ none := by
  simp only [taken, he, if_true]
  exact enabled_up _

/-- The reserved phases of a port stay with it, their enables raised, and every phase that it holds is up. -/
structure Rising (p : Fin 8) (s t : State) : Prop where
  enabledState : isEnabledState t.ports[p].run.state = true
  up : Up p t
  kept : ∀ f ∈ (gang p s).take s.ports[p].phases.reserved, f ∈ gang p t ∧ t.pool.phases[f] = enabled s.pool.phases[f]

theorem Rising.enablesRise (h : Rising p s t) : enablesRise p s t := by
  refine ⟨h.up, fun f hf => ?_⟩
  obtain ⟨hmem, hph⟩ := h.kept f hf
  rw [hph]
  exact ⟨hmem, enabled_watch _, enabled_enabled _⟩

/-- Work outside the phases, in an enabled state. -/
theorem Rising.frame (h : Rising p s t) (hpool : u.pool.phases = t.pool.phases) (he : isEnabledState u.ports[p].run.state = true) :
    Rising p s u := by
  refine ⟨he, fun f hf => ?_, fun f hf => ?_⟩
  · rw [mem_gang, hpool, ← mem_gang] at hf
    rw [hpool]
    exact h.up f hf
  · rw [mem_gang, hpool, ← mem_gang]
    exact h.kept f hf

/-- The start of the rise, seen before work outside the pool and the reserved count. -/
theorem Rising.of_start (h : Rising p y t) (hpool : y.pool = s.pool)
    (hres : y.ports[p].phases.reserved = s.ports[p].phases.reserved) : Rising p s t := by
  have hgang : gang p y = gang p s := gang_congr fun f => by rw [hpool]
  refine ⟨h.enabledState, h.up, fun f hf => ?_⟩
  rw [← hgang, ← hres] at hf
  rw [← hpool]
  exact h.kept f hf

theorem rising_refresh (he : isEnabledState s.ports[p].run.state = true) : Rising p s (refreshEnables p s) := by
  have hph {f : Fin 16} (hf : f ∈ gang p s) : (refreshEnables p s).pool.phases[f] = enabled s.pool.phases[f] := by
    rw [refreshEnables_phase he, if_pos (mem_gang.mp hf)]
  refine ⟨by rwa [refreshEnables_ports], fun f hf => ?_, fun f hf => ?_⟩
  · rw [refreshEnables_gang] at hf
    rw [hph hf]
    exact enabled_up _
  · have hmem := List.mem_of_mem_take hf
    exact ⟨refreshEnables_gang.symm ▸ hmem, hph hmem⟩

theorem Rising.takePhases (h : Rising p s t) (q : Fin 8) (n : Nat) : Rising p s (takePhases q n t) := by
  have hstay {f : Fin 16} (hf : f ∈ gang p t) : (Machine.takePhases q n t).pool.phases[f] = t.pool.phases[f] := by
    rw [takePhases_phase, if_neg fun hx => by rw [mem_gang, free_of_take hx] at hf; cases hf]
  refine ⟨by rw [takePhases_ports]; exact h.enabledState, fun f hf => ?_, fun f hf => ?_⟩
  · by_cases hmem : f ∈ gang p t
    · rw [hstay hmem]
      exact h.up f hmem
    · rw [mem_gang, takePhases_phase] at hf
      rw [takePhases_phase]
      split at hf
      · next hx =>
        rw [taken_state] at hf
        obtain rfl : q = p := by simpa using hf
        rw [if_pos hx]
        exact taken_up h.enabledState _
      · exact absurd (mem_gang.mpr hf) hmem
  · obtain ⟨hmem, hph⟩ := h.kept f hf
    have hst := hstay hmem
    refine ⟨mem_gang.mpr ?_, hst.trans hph⟩
    rw [hst]
    exact mem_gang.mp hmem

theorem meetNeed_runState (q : Fin 8) (s : State) : (meetNeed q s).ports[p].run.state = s.ports[p].run.state := by
  rw [meetNeed, modPort_port]
  split
  · next h => rw [h]
  · rfl

theorem Rising.serveList (h : Rising p s t) : ∀ l : List (Fin 8 × Nat), Rising p s (serveList l t) := by
  intro l
  induction l generalizing t with
  | nil => exact h.frame rfl h.enabledState
  | cons x rest ih =>
    by_cases hx : x.2 ≤ freeCount t
    · rw [serveList_fits hx]
      have htaken := h.takePhases x.1 x.2
      exact ih (htaken.frame rfl (by rw [meetNeed_runState]; exact htaken.enabledState))
    · rw [serveList_stays hx]
      exact h.frame rfl h.enabledState

theorem Rising.releaseBeyond (h : Rising p s t) {keep : Nat} (hk : s.ports[p].phases.reserved ≤ keep)
    (hg : gang p t = gang p s) : Rising p s (releaseBeyond p keep t) := by
  have hstay {f : Fin 16} (hf : f ∈ (gang p t).take keep) : (Machine.releaseBeyond p keep t).pool.phases[f] = t.pool.phases[f] := by
    rw [releaseBeyond_phase, if_neg (List.disjoint_take_drop (gang_nodup p t) (Nat.le_refl keep) hf)]
  refine ⟨by rw [releaseBeyond_ports]; exact h.enabledState, fun f hf => ?_, fun f hf => ?_⟩
  · rw [releaseBeyond_gang] at hf
    rw [hstay hf]
    exact h.up f (List.mem_of_mem_take hf)
  · have htake : f ∈ (gang p t).take keep := by
      rw [hg]
      exact List.take_subset_take_left _ hk hf
    rw [releaseBeyond_gang, hstay htake]
    exact ⟨htake, (h.kept f hf).2⟩

theorem Rising.releaseAndServe (h : Rising p s t) {keep : Nat} (hk : s.ports[p].phases.reserved ≤ keep)
    (hg : gang p t = gang p s) : Rising p s (releaseAndServe p keep t) := by
  unfold Machine.releaseAndServe serveQueue
  split
  · exact (h.releaseBeyond hk hg).serveList _
  · exact h

theorem Rising.acquire (h : Rising p s t) (hg : gang p t = gang p s)
    (hres : t.ports[p].phases.reserved = s.ports[p].phases.reserved) : Rising p s (acquire p t) := by
  have hask (raw n : Nat) : Rising p s (asking p raw n t) := h.frame rfl (by rw [asking_port]; rfl)
  rw [acquire_eq]
  dsimp only
  split
  · have hmet {raw n : Nat} : Rising p s (meetNeed p (asking p raw n t)) :=
      (hask raw n).frame rfl (by rw [meetNeed_runState]; exact (hask raw n).enabledState)
    exact hmet.releaseAndServe (hres.symm.le.trans (Nat.le_max_right _ _)) hg
  · split
    · refine ((hask _ _).takePhases p _).frame rfl ?_
      rw [meetNeed_runState]
      exact ((hask _ _).takePhases p _).enabledState
    · have hrel := (hask (rawNeed (t.ports[p].run.step.getD default) t.ports[p].prot.effective.vMin)
        (min (rawNeed (t.ports[p].run.step.getD default) t.ports[p].prot.effective.vMin) (cap p t))).releaseBeyond
        (keep := t.ports[p].phases.reserved) (by rw [hres]) hg
      unfold serveQueue
      refine Rising.serveList ?_ _
      exact hrel.frame rfl hrel.enabledState

/-! ### The port that acquires -/

theorem raisePort_poolWork (g : PortFlag) (q : Fin 8) (s : State) : PoolWork s (raisePort g q s) :=
  { PoolWork.refl s with cmd := (raisePort_portWork (b := true) (p := q) (s := s) g q).cmd }

/-- After its need is formed an acquisition is the pool's work alone. -/
theorem acquire_poolWork (p : Fin 8) (s : State) : ∃ raw n, PoolWork (asking p raw n s) (acquire p s) := by
  refine ⟨rawNeed (s.ports[p].run.step.getD default) s.ports[p].prot.effective.vMin,
    min (rawNeed (s.ports[p].run.step.getD default) s.ports[p].prot.effective.vMin) (cap p s), ?_⟩
  rw [acquire_eq]
  dsimp only
  split
  · exact (meetNeed_poolWork p _).trans (releaseAndServe_poolWork p _ _)
  · split
    · exact (takePhases_poolWork p _ _).trans (meetNeed_poolWork p _)
    · exact ((releaseBeyond_poolWork p _ _).trans ((PoolWork.ofPool _ _).trans (raisePort_poolWork _ _ _))).trans (serveQueue_poolWork _)

theorem meetNeed_stage (q : Fin 8) (h : s.ports[p].run.stage ≠ .draining) : (meetNeed q s).ports[p].run.stage ≠ .draining := by
  rw [meetNeed, modPort_port]
  split
  · exact Stage.noConfusion
  · exact h

theorem serveList_stage (h : s.ports[p].run.stage ≠ .draining) :
    ∀ l : List (Fin 8 × Nat), (serveList l s).ports[p].run.stage ≠ .draining := by
  intro l
  induction l generalizing s with
  | nil => exact h
  | cons x rest ih =>
    by_cases hx : x.2 ≤ freeCount s
    · rw [serveList_fits hx]
      exact ih (meetNeed_stage x.1 (by rwa [takePhases_ports]))
    · rw [serveList_stays hx]
      exact h

/-- A port that has entered ACQUIRING waits for its phases or ramps. -/
theorem acquire_stage (p : Fin 8) (s : State) : (acquire p s).ports[p].run.stage ≠ .draining := by
  have hask (raw n : Nat) : (asking p raw n s).ports[p].run.stage ≠ .draining := by
    rw [asking_port]
    exact Stage.noConfusion
  rw [acquire_eq]
  dsimp only
  split
  · unfold releaseAndServe
    split
    · exact serveList_stage (by rw [releaseBeyond_ports]; exact meetNeed_stage p (hask _ _)) _
    · exact meetNeed_stage p (hask _ _)
  · split
    · exact meetNeed_stage p (by rw [takePhases_ports]; exact hask _ _)
    · refine serveList_stage ?_ _
      change (releaseBeyond p _ _).ports[p].run.stage ≠ _
      rw [releaseBeyond_ports]
      exact hask _ _

/-- What an acquisition leaves of its port: all but the state, the stage, the slew, the current and the need. -/
theorem acquire_port (p : Fin 8) (s : State) : ∃ st sl nd, st ≠ .draining ∧ (acquire p s).ports[p] = { s.ports[p] with
    run := { s.ports[p].run with state := .transfer, stage := st, slew := sl, applied := 0 }
    phases := { s.ports[p].phases with need := nd } } := by
  obtain ⟨raw, n, hwork⟩ := acquire_poolWork p s
  have hport : poolRest (acquire p s).ports[p] = poolRest (asking p raw n s).ports[p] := hwork.port p.val p.isLt
  refine ⟨(acquire p s).ports[p].run.stage, (acquire p s).ports[p].run.slew, (acquire p s).ports[p].phases.need,
    acquire_stage p s, ?_⟩
  rw [asking_port] at hport
  generalize (acquire p s).ports[p] = a at hport ⊢
  cases a with | mk run _ _ _ _ _ _ _ phases _ _ =>
  cases run
  cases phases
  simp only [poolRest, Port.mk.injEq, RunContext.mk.injEq, PortPhases.mk.injEq] at hport ⊢
  simpa using hport

end

end Sys2Proof.Acquiring
end

section
/-! PROOFS. The owner's commands of a run (R43 to R48): HOLD_PORT, RESUME_PORT and ABORT_RUN. -/

open Sys2Proof Sys2Proof.Machine Sys2Proof.Indexing Sys2Proof.PoolPhases Sys2Proof.Holds Sys2Proof.Acquiring

namespace Sys2Proof.RunCommands

section
variable {iss : Issuer} {p : Fin 8} {r : StepRecord} {s : State}

/-! ### The rows behind the checks of R28 -/

theorem exec_holdPort (h : s.ports[p].owner = ownerOf iss.master) :
    exec (.holdPort iss p.val) s = .next (deliver iss 10 (holdCommand p s)) := by
  show replied iss 10 (onOwnPort iss.master p.val s fun q => holdCommand q s) = _
  rw [onOwnPort_owner h]

theorem exec_resumePort (h : s.ports[p].owner = ownerOf iss.master) :
    exec (.resumePort iss p.val) s = .next (deliver iss 11 (resumeCommand p s)) := by
  show replied iss 11 (onOwnPort iss.master p.val s fun q => resumeCommand q s) = _
  rw [onOwnPort_owner h]

theorem exec_abortRun (h : s.ports[p].owner = ownerOf iss.master) :
    exec (.abortRun iss p.val) s = .next (deliver iss 12 (abortCommand p s)) := by
  show replied iss 12 (onOwnPort iss.master p.val s fun q => abortCommand q s) = _
  rw [onOwnPort_owner h]

/-! ### RESUME_PORT (R46) -/

/-- A port that resumes, its causes empty and its settle detector emptied. -/
def resumed (p : Fin 8) (f : RunContext → RunContext) (s : State) : State :=
  modRun p f (restartSettle p (modRun p (fun x => { x with causes := .none }) s))

/-- A power step on its way back into ACQUIRING, with its enables up and its basis set. -/
def reacquiring (p : Fin 8) (b : Basis) (s : State) : State :=
  setBasis p (some b) (refreshEnables p (resumed p (fun x => { x with state := .transfer, stage := .acquiring }) s))

theorem resumeCommand_power (hst : s.ports[p].run.state = .held) (hi : s.ports[p].run.causes.interlock = false)
    (hd : s.ports[p].run.causes.door = false) (hr : s.ports[p].run.step = some r) (hc : s.prot.contactor = .closed)
    (hk : isPowerStep r.kind = true) : resumeCommand p s =
      done (acquire p (reacquiring p ⟨s.ports[p].run.stepIndex, r, s.ports[p].run.subPhase⟩ s)) := by
  simp only [resumeCommand, hst, hi, hd, hr, linkClosed, hc, Option.getD_some, hk]
  rfl

theorem resumeCommand_rest (hst : s.ports[p].run.state = .held) (hi : s.ports[p].run.causes.interlock = false)
    (hd : s.ports[p].run.causes.door = false) (hr : s.ports[p].run.step = some r) (hc : s.prot.contactor = .closed)
    (hk : isPowerStep r.kind = false) : resumeCommand p s =
      done (setBasis p none (refreshEnables p (resumed p (fun x => { x with state := .running }) s))) := by
  simp only [resumeCommand, hst, hi, hd, hr, linkClosed, hc, Option.getD_some, hk]
  rfl

theorem resumeCommand_open (hst : s.ports[p].run.state = .held) (hi : s.ports[p].run.causes.interlock = false)
    (hd : s.ports[p].run.causes.door = false) (hc : s.prot.contactor ≠ .closed) : resumeCommand p s = refuse .noDcLink s := by
  simp only [resumeCommand, hst, hi, hd, linkClosed, hc]
  rfl

theorem resumeCommand_barred (h : s.ports[p].run.causes.door = true) : resumeCommand p s = refuse .badState s := by
  simp only [resumeCommand, h, or_true, if_true]
  exact ite_self _

/-- The enables rise with a resume, whatever it sets behind them. -/
theorem rising_resumed {f : RunContext → RunContext} (h : ∀ x, isEnabledState (f x).state = true) :
    Rising p s (refreshEnables p (resumed p f s)) := by
  refine (rising_refresh ?_).of_start rfl ?_
  · simp only [resumed, modRun, modPort_self]
    exact h _
  · simp [resumed]

theorem reacquiring_samePool (b : Basis) : SamePool s (reacquiring p b s) := by
  refine ⟨fun f => ?_, ?_, fun q => ?_⟩
  · rw [reacquiring, setBasis_pool, refreshEnables_state]
    rfl
  · rw [reacquiring, setBasis_pool, refreshEnables_queue]
    rfl
  · by_cases hq : q = p
    · subst hq
      simp [reacquiring, resumed]
    · have hne : (q : Nat) ≠ p := fun h => hq (Fin.ext h)
      simp [reacquiring, resumed, hne]

theorem reacquiring_port (b : Basis) :
    let y := reacquiring p b s
    y.ports[p].run.causes = .none ∧ y.ports[p].run.stepTimer = s.ports[p].run.stepTimer ∧
    y.ports[p].run.step = s.ports[p].run.step ∧ y.ports[p].prot.effective = s.ports[p].prot.effective ∧
    y.ports[p].alloc.basis = some b := by
  refine ⟨?_, ?_, ?_, ?_, ?_⟩ <;> simp [reacquiring, resumed]

/-! ### Both commands -/

theorem addCauses_master : addCauses masterCause = fun r => { r with causes := { r.causes with master := true } } := by
  funext r
  simp only [addCauses, masterCause, Bool.or_false, Bool.or_true]

theorem holdPort_running (h : s.ports[p].run.state = .running ∨ s.ports[p].run.state = .transfer) :
    let u := holdPort masterCause p s
    u.ports[p].run.causes.master = true ∧
    u.ports[p].run.stepTimer = s.ports[p].run.stepTimer ∧ u.ports[p].intake.captureA = none ∧
    (s.ports[p].run.applied ≠ 0 → u.ports[p].run.state = .holding ∧ u.ports[p].run.applied = s.ports[p].run.applied ∧
      u.ports[p].run.slew = some ⟨s.ports[p].run.applied.natAbs,
        if s.ports[p].run.applied < 0 then .discharge else .charge, 0, s.alloc.rampTime⟩ ∧ u.pool = s.pool) ∧
    (s.ports[p].run.applied = 0 → u.ports[p].run.state = .held ∧ u.ports[p].run.cvIntegrator = 0 ∧
      u.ports[p].alloc.basis = none ∧ u.ports[p].alloc.request = 0 ∧ flagged p .hold u ∧
      releasesUnreserved p s u ∧ enablesFall p s u) := by
  by_cases ha : s.ports[p].run.applied = 0
  · obtain ⟨hst, -, hcv, hcauses, htimer, hcap, hbasis, hreq, hflag⟩ := enterHeld_port p (modRun p (addCauses masterCause) s)
    obtain ⟨hrel, hfall⟩ := heldPool_of_start (p := p) (r := s) (s := modRun p (addCauses masterCause) s) rfl (by simp) (enterHeld_pool p (modRun p (addCauses masterCause) s))
    rw [holdPort_halts h ha]
    generalize enterHeld p (modRun p (addCauses masterCause) s) = u at *
    refine ⟨?_, ?_, hcap, fun h' => absurd ha h', fun _ => ⟨hst, hcv, hbasis, hreq, hflag, hrel, hfall⟩⟩
    · rw [hcauses, modRun, modPort_self]
      exact Bool.or_true _
    · rw [htimer, modRun, modPort_self]
      rfl
  · rw [holdPort_drains h ha]
    dsimp only
    refine ⟨?_, ?_, ?_, fun _ => ⟨?_, ?_, ?_, rfl⟩, fun h' => absurd h' ha⟩
    all_goals simp [startDrain, drainFrom, addCauses, masterCause]

/-- Settles O22: HOLD_PORT by its three cases, and RESUME_PORT by the acquisition or the REST behind the enables that rise. -/
theorem holdAndResume : Obligations.HoldAndResume := by
  refine ⟨fun iss p s ho => ⟨fun h => ⟨holdPort masterCause p s, ?_, holdPort_running h⟩, fun h => ?_, fun h => ?_⟩,
    fun iss p r s ho hst hi hd hr => ⟨fun hc => ?_, fun hc => ?_⟩⟩
  · rw [exec_holdPort ho, holdCommand_hasStep (by rcases h with h | h <;> rw [h] <;> rfl)]
  · rw [exec_holdPort ho, holdCommand_hasStep (by rcases h with h | h <;> rw [h] <;> rfl), holdPort_stands h, addCauses_master]
  · rw [exec_holdPort ho, holdCommand, h]
    rfl
  · cases hk : isPowerStep r.kind
    · have hrise := rising_resumed (p := p) (s := s) (f := fun x => { x with state := .running }) fun _ => rfl
      refine ⟨_, by rw [exec_resumePort ho, resumeCommand_rest hst hi hd hr hc hk], by simp [resumed], by simp [resumed],
        ?_, ?_, nofun, fun _ => ⟨by simp [resumed], by simp [resumed], ?_, ?_⟩⟩
      · simpa [resumed] using hr
      · exact (hrise.frame (by rw [setBasis_pool]) (by simp [resumed, isEnabledState])).enablesRise
      · refine gang_congr fun f => ?_
        rw [setBasis_pool, refreshEnables_state]
        rfl
      · rw [setBasis_pool, refreshEnables_queue]
        rfl
    · have hsame := reacquiring_samePool (s := s) (p := p) ⟨s.ports[p].run.stepIndex, r, s.ports[p].run.subPhase⟩
      have hrise : Rising p s (reacquiring p ⟨s.ports[p].run.stepIndex, r, s.ports[p].run.subPhase⟩ s) :=
        (rising_resumed (fun _ => rfl)).frame (by rw [reacquiring, setBasis_pool]) (by simp [reacquiring, resumed, isEnabledState])
      generalize hy : reacquiring p ⟨s.ports[p].run.stepIndex, r, s.ports[p].run.subPhase⟩ s = y at hsame hrise
      obtain ⟨hcauses, htimer, hstep, heff, hbasis⟩ := hy ▸ reacquiring_port (p := p) (s := s) ⟨s.ports[p].run.stepIndex, r, s.ports[p].run.subPhase⟩
      obtain ⟨st, sl, nd, hst', hport⟩ := acquire_port p y
      refine ⟨_, by rw [exec_resumePort ho, resumeCommand_power hst hi hd hr hc hk, hy], ?_, ?_, ?_,
        (hrise.acquire hsame.gang (hsame.reserved p)).enablesRise, fun _ => ⟨?_, ?_, ?_, ?_, fun hq => ?_⟩, nofun⟩
      · rwa [hport]
      · rwa [hport]
      · rw [hport]
        exact hstep.trans hr
      · rw [hport]
      · rwa [hport]
      · rw [hport]
      · rwa [hport]
      · have habs : Absent p y.pool.queue := by
          rw [hsame.queue]
          exact isQueued_false.mp hq
        have := hsame.acquired (acquire_acquired habs)
        rwa [hstep, hr, heff] at this
  · rw [exec_resumePort ho, resumeCommand_open hst hi hd hc]

end

end Sys2Proof.RunCommands
end

section
/-! PROOFS. The end of a run (R47, R48): entry into ENDING, its completion, and ABORT_RUN. -/

open Sys2Proof Sys2Proof.Machine Sys2Proof.Indexing Sys2Proof.PoolPhases Sys2Proof.Holds Sys2Proof.RunCommands

namespace Sys2Proof.RunEnds

section
variable {iss : Issuer} {o : RunOutcome} {p : Fin 8} {s y : State}

/-! ### Completion of ENDING (R47) -/

/-- A port whose run ends, before it releases its phases. -/
def spent (p : Fin 8) (s : State) : State :=
  setBasis p none (modRun p (fun r => { r with slew := none, applied := 0, throttled := false }) s)

/-- A port that has released its phases, folded and unbound. -/
def unboundRun (p : Fin 8) (s : State) : State :=
  modRun p (fun r => { r with program := none, outcome := r.endingAs, state := .ready })
    (releaseProgram (fold p (releaseUnreserved p (spent p s))).ports[p].run.program (fold p (releaseUnreserved p (spent p s))))

theorem completeEnding_eq (p : Fin 8) (s : State) :
    completeEnding p s = raisePort .runEnd p (disablePort p (unboundRun p s)) := rfl

theorem completeEnding_pool (h : Departed p s y) :
    releasesUnreserved p s (completeEnding p y) ∧ enablesFall p s (completeEnding p y) := by
  have hdep : Departed p s (spent p y) := h.frame rfl rfl rfl (by simp [spent])
  have hpool : (unboundRun p y).pool = (releaseUnreserved p (spent p y)).pool := by
    rw [unboundRun, modRun_pool, releaseProgram_pool, fold_pool]
  obtain ⟨hrel, hfall⟩ := hdep.endRelease hpool
  rw [completeEnding_eq]
  exact ⟨releasesUnreserved_congr hrel (fun f => by rw [raisePort_pool]) (by rw [raisePort_pool]),
    enablesFall_congr hfall (raisePort_pool ..)⟩

theorem completeEnding_port (p : Fin 8) (s : State) :
    let t := completeEnding p s
    t.ports[p].run.state = .ready ∧ t.ports[p].run.program = none ∧ t.ports[p].run.outcome = s.ports[p].run.endingAs ∧
    t.ports[p].run.applied = 0 ∧ t.ports[p].alloc.basis = none ∧ t.ports[p].alloc.request = 0 ∧ flagged p .runEnd t := by
  refine ⟨?_, ?_, ?_, ?_, ?_, ?_, flagged_raisePort ..⟩ <;> simp [completeEnding]

/-! ### Entry into ENDING (R47, R48) -/

/-- A port in ENDING, before it drains or completes. -/
def ending (o : RunOutcome) (p : Fin 8) (s : State) : State :=
  restartSettle p (discardCapture p (modRun p (fun r => { r with state := .ending, causes := .none, endingAs := o }) s))

theorem ending_applied : (ending o p s).ports[p].run.applied = s.ports[p].run.applied := by simp [ending]

theorem enterEnding_completes (h : s.ports[p].run.applied = 0) : enterEnding o p s = completeEnding p (ending o p s) :=
  if_pos (ending_applied.trans h)

theorem enterEnding_drains (h : s.ports[p].run.applied ≠ 0) : enterEnding o p s = startDrain p (ending o p s) :=
  if_neg fun h' => h (ending_applied.symm.trans h')

theorem departed_ending (h : Departed p s y) : Departed p s (ending o p y) := h.frame rfl rfl rfl (by simp [ending])

theorem enterEnding_port (o : RunOutcome) (p : Fin 8) (s : State) :
    let t := enterEnding o p s
    t.ports[p].run.causes = .none ∧ t.ports[p].results = s.ports[p].results ∧
    (s.ports[p].run.applied ≠ 0 → t.ports[p].run.state = .ending ∧ t.ports[p].run.endingAs = o ∧
      t.ports[p].run.program = s.ports[p].run.program ∧ t.pool = s.pool) ∧
    (s.ports[p].run.applied = 0 → t.ports[p].run.state = .ready ∧ t.ports[p].run.outcome = o ∧
      t.ports[p].run.program = none ∧ flagged p .runEnd t) := by
  by_cases h : s.ports[p].run.applied = 0
  · obtain ⟨hst, hprog, hout, -, -, -, hflag⟩ := completeEnding_port p (ending o p s)
    have hcauses : (completeEnding p (ending o p s)).ports[p].run.causes = .none := by simp [completeEnding, ending]
    have hresults : (completeEnding p (ending o p s)).ports[p].results = s.ports[p].results := by simp [completeEnding, ending]
    have hend : (ending o p s).ports[p].run.endingAs = o := by simp [ending]
    rw [enterEnding_completes h]
    generalize completeEnding p (ending o p s) = u at *
    exact ⟨hcauses, hresults, fun h' => absurd h h', fun _ => ⟨hst, hout.trans hend, hprog, hflag⟩⟩
  · rw [enterEnding_drains h]
    refine ⟨?_, ?_, fun _ => ⟨?_, ?_, ?_, rfl⟩, fun h' => absurd h' h⟩ <;> simp [startDrain, ending]

/-! ### ABORT_RUN (R48) -/

/-- A port whose step has been recorded as ABORTED, out of the wait queue. -/
def aborted (p : Fin 8) (s : State) : State := leaveQueue p (queueResult p .aborted s)

theorem departed_aborted (p : Fin 8) (s : State) : Departed p s (aborted p s) :=
  (departed_leaveQueue p (queueResult p .aborted s)).frame rfl (by simp) rfl rfl

theorem aborted_port (p : Fin 8) (s : State) :
    (aborted p s).ports[p].run.applied = s.ports[p].run.applied ∧ (aborted p s).ports[p].run.program = s.ports[p].run.program ∧
    (aborted p s).ports[p].results.getLast? = some (resultRecord s.ports[p] .aborted) := by
  refine ⟨?_, ?_, ?_⟩ <;> simp [aborted]

/-- Settles O23: the record, and then the two ways into the end of the run. -/
theorem abortRunEnds : Obligations.AbortRunEnds := by
  intro iss p s ho hs
  have hrow : exec (.abortRun iss p.val) s = .next (deliver iss 12 (done (enterEnding .aborted p (aborted p s)))) := by
    rw [exec_abortRun ho, abortCommand, if_pos hs]
    rfl
  obtain ⟨happ, hprog, hlast⟩ := aborted_port p s
  obtain ⟨hcauses, hresults, hdrain, hend⟩ := enterEnding_port .aborted p (aborted p s)
  rw [happ] at hdrain hend
  have hflag : flagged p .stepEnd (enterEnding .aborted p (aborted p s)) :=
    (leaveQueue_portWork (b := true).trans (enterEnding_portWork _)).cmd.flagged (queueResult_flagged ..)
  refine ⟨_, hrow, hflag, by rw [hresults, hlast], hcauses, fun h => ?_, fun h => ?_⟩
  · obtain ⟨hst, hout, hpr, hpool⟩ := hdrain h
    refine ⟨hst, hout, hpr.trans hprog, ?_⟩
    exact (gang_congr fun f => by rw [hpool]).trans (departed_aborted p s).left.gang
  · obtain ⟨hst, hout, hpr, hrun⟩ := hend h
    have hpool := completeEnding_pool (departed_ending (o := .aborted) (departed_aborted p s))
    rw [← enterEnding_completes (happ.trans h)] at hpool
    exact ⟨hst, hout, hpr, hrun, hpool⟩

end

end Sys2Proof.RunEnds
end

section
/-! PROOFS. Services of the wait queue one port at a time, and needs formed again (R148, R149). -/

open Sys2Proof Sys2Proof.Machine Sys2Proof.Indexing Sys2Proof.PoolPhases Sys2Proof.Acquiring

namespace Sys2Proof.Needs

section
variable {s t : State} {p q : Fin 8} {f : Fin 16} {l : List (Fin 8 × Nat)}

/-! ### A service, port by port (R148) -/

theorem meetNeed_takePhases_other (h : q ≠ p) (n : Nat) : (meetNeed p (takePhases p n s)).ports[q] = s.ports[q] ∧
    gang q (meetNeed p (takePhases p n s)) = gang q s := by
  rw [meetNeed, modPort_other _ h, takePhases_ports]
  exact ⟨rfl, takePhases_gang_other h n⟩

theorem fst_ne_of_nodup {x y : Fin 8 × Nat} {rest : List (Fin 8 × Nat)} (h : ((y :: rest).map Prod.fst).Nodup) (hx : x ∈ rest) :
    x.1 ≠ y.1 := fun heq => (List.nodup_cons.mp h).1 (heq ▸ List.mem_map_of_mem hx)

theorem mem_of_unserved {x : Fin 8 × Nat} {a : Nat} (h : x ∈ unserved a l) : x ∈ l := by
  induction l generalizing a with
  | nil => exact h
  | cons z m ih =>
    rw [unserved] at h
    split at h
    · exact List.mem_cons_of_mem z (ih h)
    · exact h

/-- A port that waits on has its registers and its gang as they were. -/
theorem serveList_waits (hn : (l.map Prod.fst).Nodup) (s : State) : ∀ x ∈ unserved (freeCount s) l,
    (serveList l s).ports[x.1] = s.ports[x.1] ∧ gang x.1 (serveList l s) = gang x.1 s := by
  induction l generalizing s with
  | nil => exact fun x hx => absurd hx (by simp [unserved])
  | cons y rest ih =>
    intro x hx
    rw [unserved] at hx
    by_cases hfit : y.2 ≤ freeCount s
    · rw [if_pos hfit] at hx
      rw [serveList_fits hfit]
      obtain ⟨hport, hgang⟩ := ih (List.nodup_cons.mp hn).2 (meetNeed y.1 (takePhases y.1 y.2 s)) x (by rwa [met_freeCount])
      have hmem : x ∈ rest := mem_of_unserved hx
      obtain ⟨hport', hgang'⟩ := meetNeed_takePhases_other (s := s) (fst_ne_of_nodup hn hmem) y.2
      exact ⟨hport.trans hport', hgang.trans hgang'⟩
    · rw [serveList_stays hfit]
      exact ⟨rfl, rfl⟩

/-- A port that is served ramps with its shortfall. -/
theorem serveList_served (hn : (l.map Prod.fst).Nodup) (s : State) : ∀ x ∈ l, isQueued x.1 (serveList l s) = false →
    rampsOn (serveList l s).ports[x.1] ∧ heldCount x.1 (serveList l s) = heldCount x.1 s + x.2 := by
  induction l generalizing s with
  | nil => exact fun x hx => absurd hx (by simp)
  | cons y rest ih =>
    intro x hx hq
    by_cases hfit : y.2 ≤ freeCount s
    · rw [serveList_fits hfit] at hq ⊢
      rcases List.mem_cons.mp hx with rfl | hmem
      · obtain ⟨hport, hgang⟩ := serveList_absent (fun z hz => fst_ne_of_nodup hn hz) (meetNeed x.1 (takePhases x.1 x.2 s))
        have hheld := takePhases_heldCount (p := x.1) (s := s) x.2
        rw [Nat.min_eq_left hfit] at hheld
        rw [hport, heldCount, hgang]
        exact ⟨met_rampsOn _, hheld⟩
      · obtain ⟨-, hgang⟩ := meetNeed_takePhases_other (s := s) (fst_ne_of_nodup hn hmem) y.2
        obtain ⟨hramps, hheld⟩ := ih (List.nodup_cons.mp hn).2 _ x hmem hq
        exact ⟨hramps, hheld.trans (congrArg (List.length · + x.2) hgang)⟩
    · rw [serveList_stays hfit] at hq
      exact absurd rfl (isQueued_false.mp hq x hx)

/-! ### Needs formed again (R149) -/

/-- A port whose need is formed again from its raw need and its cap. -/
def renew (s : State) (q : Fin 8) (x : Port) : Port :=
  { x with phases := { x.phases with need := x.phases.need.map fun n => ⟨n.raw, min n.raw (cap q s)⟩ } }

theorem renew_again (s : State) (q : Fin 8) (x : Port) : renew s q (renew s q x) = renew s q x := by
  cases hn : x.phases.need <;> simp [renew, hn]

/-- The needs of the waiting ports formed again. -/
def renewed (s : State) : State := (s.pool.queue.map (reformNeed s)).foldl (fun u x => modPort x.1 (renew s x.1) u) s

/-- Those whose shortfall is 0 ramp. -/
def rampedOn (l : List (Fin 8 × Nat)) (s : State) : State := l.foldl (fun u x => meetNeed x.1 u) s

/-- The state before the service that ends a reforming. -/
def reformed (s : State) : State :=
  let v := rampedOn ((s.pool.queue.map (reformNeed s)).filter fun x => x.2 = 0) (renewed s)
  { v with pool := { v.pool with queue := (s.pool.queue.map (reformNeed s)).filter fun x => x.2 ≠ 0 } }

theorem reformNeeds_eq (s : State) :
    reformNeeds s = serveList ((s.pool.queue.map (reformNeed s)).filter fun x => x.2 ≠ 0) (reformed s) := rfl

/-- A run of idempotent updates of ports. -/
theorem foldl_modPort {g : Fin 8 → Port → Port} (hg : ∀ q x, g q (g q x) = g q x) (l : List (Fin 8 × Nat)) (s : State) :
    (l.foldl (fun u x => modPort x.1 (g x.1) u) s).ports[q] = if q ∈ l.map Prod.fst then g q s.ports[q] else s.ports[q] := by
  induction l generalizing s with
  | nil => simp
  | cons x rest ih =>
    rw [List.foldl_cons, ih, modPort_port, List.map_cons]
    by_cases hx : q = x.1
    · subst hx
      simp [hg]
    · simp only [List.mem_cons, hx, false_or, if_false]

theorem foldl_pool {g : State → Fin 8 × Nat → State} (hg : ∀ u x, (g u x).pool = u.pool) (l : List (Fin 8 × Nat)) (s : State) :
    (l.foldl g s).pool = s.pool := by
  induction l generalizing s with
  | nil => rfl
  | cons x rest ih => exact (ih _).trans (hg s x)

theorem renewed_port (s : State) (q : Fin 8) : (renewed s).ports[q] =
    if q ∈ s.pool.queue.map Prod.fst then renew s q s.ports[q] else s.ports[q] := by
  have hfst : (s.pool.queue.map (reformNeed s)).map Prod.fst = s.pool.queue.map Prod.fst := by
    rw [List.map_map]
    rfl
  rw [renewed, foldl_modPort (renew_again s), hfst]

theorem rampedOn_other (h : Absent q l) (s : State) : (rampedOn l s).ports[q] = s.ports[q] := by
  induction l generalizing s with
  | nil => rfl
  | cons x rest ih =>
    refine (ih (fun y hy => h y (List.mem_cons_of_mem x hy)) _).trans ?_
    exact modPort_other s (h x List.mem_cons_self).symm _

theorem meetNeed_ramps (h : rampsOn s.ports[q]) (r : Fin 8) : rampsOn (meetNeed r s).ports[q] := by
  by_cases hq : q = r
  · subst hq
    exact met_rampsOn s
  · rwa [meetNeed, modPort_other _ hq]

theorem rampedOn_ramps {x : Fin 8 × Nat} (hx : x ∈ l) (s : State) : rampsOn (rampedOn l s).ports[x.1] := by
  have hkeeps (m : List (Fin 8 × Nat)) {u : State} (h : rampsOn u.ports[x.1]) : rampsOn (rampedOn m u).ports[x.1] := by
    induction m generalizing u with
    | nil => exact h
    | cons y rest ih => exact ih (meetNeed_ramps h y.1)
  induction l generalizing s with
  | nil => cases hx
  | cons y rest ih =>
    rcases List.mem_cons.mp hx with rfl | hmem
    · exact hkeeps rest (met_rampsOn s)
    · exact ih hmem _

theorem reformed_phase (s : State) : (reformed s).pool.phases = s.pool.phases := by
  have hren : (renewed s).pool = s.pool := foldl_pool (g := fun u x => modPort x.1 (renew s x.1) u) (fun _ _ => rfl) _ s
  have hramp (l : List (Fin 8 × Nat)) (u : State) : (rampedOn l u).pool = u.pool := foldl_pool (g := fun u x => meetNeed x.1 u) (fun _ _ => rfl) l u
  change (rampedOn _ (renewed s)).pool.phases = _
  rw [hramp, hren]

theorem reformed_gang (s : State) : gang q (reformed s) = gang q s := gang_congr fun f => by rw [reformed_phase]

theorem reformed_freeCount (s : State) : freeCount (reformed s) = freeCount s :=
  congrArg List.length (freePhases_congr fun f => by rw [reformed_phase])

theorem reformed_waits {x : Fin 8 × Nat} (h : Absent x.1 ((s.pool.queue.map (reformNeed s)).filter fun x => x.2 = 0)) :
    (reformed s).ports[x.1] = (renewed s).ports[x.1] := rampedOn_other h _

theorem mem_queue_fst {x : Fin 8 × Nat} (hx : x ∈ s.pool.queue.map (reformNeed s)) : x.1 ∈ s.pool.queue.map Prod.fst := by
  obtain ⟨y, hy, rfl⟩ := List.mem_map.mp hx
  exact List.mem_map.mpr ⟨y, hy, rfl⟩

theorem absent_reformed (h : Absent p s.pool.queue) : Absent p (s.pool.queue.map (reformNeed s)) := fun x hx => by
  obtain ⟨y, hy, rfl⟩ := List.mem_map.mp hx
  exact h y hy

/-- A port that does not wait has its registers and its gang as they were. -/
theorem reformNeeds_absent (h : Absent p s.pool.queue) :
    (reformNeeds s).ports[p] = s.ports[p] ∧ gang p (reformNeeds s) = gang p s := by
  have habs := absent_reformed h
  obtain ⟨hport, hgang⟩ := serveList_absent (fun x hx => habs x (List.mem_of_mem_filter hx)) (reformed s)
  have hnone : p ∉ s.pool.queue.map Prod.fst := fun hmem => by
    obtain ⟨x, hx, hp⟩ := List.mem_map.mp hmem
    exact h x hx hp
  rw [reformNeeds_eq, hport, hgang, reformed_gang]
  refine ⟨(rampedOn_other (fun x hx => habs x (List.mem_of_mem_filter hx)) _).trans ?_, rfl⟩
  rw [renewed_port, if_neg hnone]

end

end Sys2Proof.Needs
end

section
/-! PROOFS. The rows of the phase pool: SET_RESERVED_PHASES (R151), and the lines, services and enables of R148, R149, R155 to
R160. -/

open Sys2Proof Sys2Proof.Machine Sys2Proof.Indexing Sys2Proof.PoolPhases Sys2Proof.Acquiring Sys2Proof.Needs

namespace Sys2Proof.PoolRows

section
variable {iss : Issuer} {s t : State} {p q : Fin 8} {f : Fin 16} {r : Nat}

/-! ### SET_RESERVED_PHASES (R151) -/

theorem exec_setReservedPhases (h : s.ports[p].owner = ownerOf iss.master) :
    exec (.setReservedPhases iss p.val r) s = .next (deliver iss 16 (reservePhases p r s)) := by
  show replied iss 16 (onOwnPort iss.master p.val s fun q => reservePhases q r s) = _
  rw [onOwnPort_owner h]

/-- A port's new reserved count. -/
def reserving (p : Fin 8) (r : Nat) (s : State) : State :=
  modPort p (fun q => { q with phases := { q.phases with reserved := r } }) s

theorem reserving_port : (reserving p r s).ports[p] = { s.ports[p] with phases := { s.ports[p].phases with reserved := r } } :=
  modPort_self ..

/-- The states in which a port keeps every phase (R150, R151). -/
abbrev keepsAll (q : Port) : Prop := q.run.state = .holding ∨ q.run.state = .ending ∨
  (q.run.state = .running ∧ q.run.step.map StepRecord.kind ≠ some .rest)

theorem not_keepsAll {x : Port} (h : x.run.state = .held ∨ isIdle x.run.state = true ∨ x.run.state = .faulted ∨
    (x.run.state = .running ∧ x.run.step.map StepRecord.kind = some .rest)) : ¬ keepsAll x := by
  rintro (hs | hs | ⟨hs, hrest⟩)
  · simp [hs, isIdle] at h
  · simp [hs, isIdle] at h
  · simp only [hs, isIdle, reduceCtorEq, Bool.false_eq_true, false_or, true_and] at h
    exact hrest h

/-- The phases taken or released at once. -/
def adjusted (p : Fin 8) (r : Nat) (s : State) : State :=
  if heldCount p s < r then takePhases p (r - heldCount p s) (reserving p r s)
  else if keepsAll s.ports[p] then reserving p r s else releaseBeyond p r (reserving p r s)

/-- What follows: needs formed again, or a service. -/
def settled (p : Fin 8) (r : Nat) (s : State) : State :=
  if r ≠ s.ports[p].phases.reserved then reformNeeds (adjusted p r s)
  else if r < heldCount p s ∧ ¬ keepsAll s.ports[p] then serveQueue (adjusted p r s)
  else adjusted p r s

theorem reservePhases_settled (hr : r ≤ 8) (ht : s.ports[p].run.state ≠ .transfer)
    (hf : r ≤ heldCount p s ∨ r - heldCount p s ≤ freeCount s) : reservePhases p r s = done (settled p r s) := by
  rw [reservePhases, if_neg (Nat.not_lt.mpr hr), if_neg ht, if_neg (by omega)]
  rfl

/-- No port waits at the adjustment, so what follows leaves the port and its gang. -/
theorem settled_keeps (h : Absent p s.pool.queue) :
    (settled p r s).ports[p] = (adjusted p r s).ports[p] ∧ gang p (settled p r s) = gang p (adjusted p r s) := by
  have habs : Absent p (adjusted p r s).pool.queue := by
    unfold adjusted
    split
    · rw [takePhases_queue]; exact h
    · split
      · exact h
      · rw [releaseBeyond_queue]; exact h
  unfold settled
  split
  · exact reformNeeds_absent habs
  · split
    · exact serveList_absent habs _
    · exact ⟨rfl, rfl⟩

theorem adjusted_port : (adjusted p r s).ports[p] = { s.ports[p] with phases := { s.ports[p].phases with reserved := r } } := by
  have hports : (adjusted p r s).ports = (reserving p r s).ports := by
    unfold adjusted
    split
    · exact takePhases_ports ..
    · split
      · rfl
      · exact releaseBeyond_ports ..
  exact (congrArg (fun v : Vector Port 8 => v[p]) hports).trans reserving_port

/-- Settles O25: the checks in their order, and then the gang by the adjustment alone. -/
theorem reservedPhasesSet : Obligations.ReservedPhasesSet := by
  intro iss p r s ho
  refine ⟨fun h => ?_, fun h ht => ?_, fun h ht hh hf => ?_, fun h ht hq hf => ?_⟩
  · rw [exec_setReservedPhases ho, reservePhases, if_pos h]
  · rw [exec_setReservedPhases ho, reservePhases, if_neg (Nat.not_lt.mpr h), if_pos ht]
  · rw [exec_setReservedPhases ho, reservePhases, if_neg (Nat.not_lt.mpr h), if_neg ht, if_pos ⟨hh, hf⟩]
  · obtain ⟨hport, hgang⟩ := settled_keeps (r := r) (isQueued_false.mp hq)
    have hsame : heldCount p (reserving p r s) = heldCount p s := rfl
    refine ⟨_, by rw [exec_setReservedPhases ho, reservePhases_settled h ht hf], ?_, ?_, fun hle => ?_, fun hlt hk => ?_,
      fun hlt hk => ?_⟩
    · rw [hport, adjusted_port]
    · rw [hport, adjusted_port]
    · rw [heldCount, hgang]
      change heldCount p (adjusted p r s) = r
      unfold adjusted
      split
      · next hlt =>
        have hfree : freeCount (reserving p r s) = freeCount s := rfl
        rw [takePhases_heldCount, hsame, hfree]
        omega
      · have hr : r = heldCount p s := by omega
        split
        · rw [hsame, hr]
        · rw [heldCount, releaseBeyond_gang, List.length_take]
          change min r (heldCount p s) = r
          omega
    · rw [hgang, adjusted, if_neg (by omega), if_pos hk]
      rfl
    · rw [hgang, adjusted, if_neg (by omega), if_neg (not_keepsAll hk), releaseBeyond_gang]
      rfl

/-! ### Services (R148) -/

/-- The wait queue that a state shows has no part in a service of a list. -/
theorem serveList_requeue (l : List (Fin 8 × Nat)) (a : List (Fin 8 × Nat)) (s : State) :
    serveList l { s with pool := { s.pool with queue := a } } = serveList l s := by
  induction l generalizing s with
  | nil => rfl
  | cons x rest ih =>
    have htake : takePhases x.1 x.2 { s with pool := { s.pool with queue := a } } =
        { takePhases x.1 x.2 s with pool := { (takePhases x.1 x.2 s).pool with queue := a } } := by
      change List.foldl _ _ ((freePhases s).take x.2) = _
      unfold takePhases
      generalize (freePhases s).take x.2 = g
      induction g generalizing s with
      | nil => rfl
      | cons f g ihg => exact ihg (assignPhase x.1 s f)
    have hfree : freeCount { s with pool := { s.pool with queue := a } } = freeCount s := rfl
    by_cases hfit : x.2 ≤ freeCount s
    · rw [serveList_fits hfit, serveList_fits (hfree ▸ hfit), htake]
      exact ih (meetNeed x.1 (takePhases x.1 x.2 s))
    · rw [serveList_stays hfit, serveList_stays (hfree ▸ hfit)]

theorem filter_not_take {α : Type} [DecidableEq α] {l : List α} (h : l.Nodup) (n : Nat) :
    l.filter (fun x => x ∉ l.take n) = l.drop n := by
  have hsplit : (l.take n ++ l.drop n).filter (fun x => x ∉ l.take n) = l.drop n := by
    have hd : List.Disjoint (l.take n) (l.drop n) := List.disjoint_take_drop h (Nat.le_refl n)
    rw [List.filter_append, List.filter_eq_nil_iff.mpr (by simp), List.nil_append,
      List.filter_eq_self.mpr fun x hx => by simpa using fun ht => hd ht hx]
  rwa [List.take_append_drop] at hsplit

theorem takePhases_free (n : Nat) : freePhases (takePhases p n s) = (freePhases s).drop n := by
  have hdrop := filter_not_take (freePhases_nodup s) n
  rw [← hdrop, freePhases, freePhases, List.filter_filter]
  refine List.filter_congr fun f _ => ?_
  rw [← freePhases, takePhases_phase]
  by_cases hf : f ∈ (freePhases s).take n <;> simp [hf, taken_state]

theorem serveQueue_empty (h : s.pool.queue = []) : serveQueue s = s := by
  rw [serveQueue, h, serveList, ← h]

theorem reformNeeds_empty (h : s.pool.queue = []) : reformNeeds s = s := by
  unfold reformNeeds
  simp only [h, List.map_nil, List.filter_nil, List.foldl_nil, serveQueue, serveList]
  rw [← h]

/-- One head served. -/
theorem serveQueue_head {n : Nat} {rest : List (Fin 8 × Nat)} (h : s.pool.queue = (p, n) :: rest) (hn : n ≤ freeCount s) :
    ∃ u, serveQueue s = serveQueue u ∧ u.pool.queue = rest ∧ rampsOn u.ports[p] ∧
      u.ports[p].run.slew.map Slew.elapsed = some 0 ∧ u.ports[p].run.slew.map Slew.time = some s.alloc.rampTime ∧
      heldCount p u = heldCount p s + n ∧ freePhases u = (freePhases s).drop n ∧
      ∀ x : Fin 8, x ≠ p → u.ports[x] = s.ports[x] ∧ gang x u = gang x s := by
  have hheld := takePhases_heldCount (p := p) (s := s) n
  rw [Nat.min_eq_left hn] at hheld
  let v := meetNeed p (takePhases p n s)
  refine ⟨{ v with pool := { v.pool with queue := rest } }, ?_, rfl, met_rampsOn _, ?_, ?_, hheld, takePhases_free n,
    fun x hx => meetNeed_takePhases_other hx n⟩
  · rw [serveQueue, h, serveList_fits hn]
    exact (serveList_requeue rest rest v).symm
  · change (meetNeed p (takePhases p n s)).ports[p].run.slew.map _ = _
    rw [meetNeed, modPort_self]
    rfl
  · change (meetNeed p (takePhases p n s)).ports[p].run.slew.map _ = _
    rw [meetNeed, modPort_self]
    exact congrArg (fun a : Allocator => some a.rampTime) (takePhases_alloc ..)

/-! ### Needs formed again (R149) -/

/-- The waiting ports with their shortfalls as formed again. -/
abbrev formed (s : State) : List (Fin 8 × Nat) := s.pool.queue.map (reformNeed s)

theorem formed_fst (s : State) : (formed s).map Prod.fst = s.pool.queue.map Prod.fst := by
  rw [List.map_map]
  rfl

/-- No port is among those that still wait and among those whose shortfall is 0. -/
theorem absent_of_formed (hn : (s.pool.queue.map Prod.fst).Nodup) {x : Fin 8 × Nat} (hx : x ∈ formed s) {P : Fin 8 × Nat → Bool}
    (hP : P x = false) : Absent x.1 ((formed s).filter P) := by
  intro y hy heq
  obtain ⟨hmem, hPy⟩ := List.mem_filter.mp hy
  rw [← formed_fst] at hn
  rw [List.inj_on_of_nodup_map hn hmem hx heq, hP] at hPy
  cases hPy

theorem reformNeeds_spec (hn : (s.pool.queue.map Prod.fst).Nodup) :
    (reformNeeds s).pool.queue = unserved (freeCount s) ((formed s).filter fun x => x.2 ≠ 0) ∧
    (∀ x ∈ formed s, x.2 = 0 → rampsOn (reformNeeds s).ports[x.1] ∧ gang x.1 (reformNeeds s) = gang x.1 s) ∧
    (∀ x ∈ (reformNeeds s).pool.queue, (reformNeeds s).ports[x.1].run = s.ports[x.1].run ∧
      gang x.1 (reformNeeds s) = gang x.1 s ∧
      (reformNeeds s).ports[x.1].phases.need = s.ports[x.1].phases.need.map fun n => ⟨n.raw, min n.raw (cap x.1 s)⟩) ∧
    ∀ x ∈ formed s, x.2 ≠ 0 → isQueued x.1 (reformNeeds s) = false →
      rampsOn (reformNeeds s).ports[x.1] ∧ heldCount x.1 (reformNeeds s) = heldCount x.1 s + x.2 := by
  have hnodup : (((formed s).filter fun x => x.2 ≠ 0).map Prod.fst).Nodup := by
    have := hn
    rw [← formed_fst] at this
    exact this.sublist (List.filter_sublist.map _)
  have hqueue : (reformNeeds s).pool.queue = unserved (freeCount s) ((formed s).filter fun x => x.2 ≠ 0) := by
    rw [reformNeeds_eq, serveList_queue, reformed_freeCount]
  refine ⟨hqueue, fun x hx h0 => ?_, fun x hx => ?_, fun x hx h0 hq => ?_⟩
  · obtain ⟨hport, hgang⟩ := serveList_absent (absent_of_formed hn hx (P := fun x => x.2 ≠ 0) (by simp [h0])) (reformed s)
    rw [reformNeeds_eq, hport, hgang, reformed_gang]
    exact ⟨rampedOn_ramps (List.mem_filter.mpr ⟨hx, by simp [h0]⟩) _, rfl⟩
  · rw [hqueue] at hx
    obtain ⟨hmem, h0⟩ := List.mem_filter.mp (mem_of_unserved hx)
    obtain ⟨hport, hgang⟩ := serveList_waits hnodup (reformed s) x (by rwa [reformed_freeCount])
    have hstays : (reformed s).ports[x.1] = renew s x.1 s.ports[x.1] := by
      rw [reformed_waits (absent_of_formed hn hmem (by simpa using h0)), renewed_port, if_pos (mem_queue_fst hmem)]
    rw [reformNeeds_eq, hport, hgang, reformed_gang, hstays]
    exact ⟨rfl, rfl, rfl⟩
  · obtain ⟨hramps, hheld⟩ := serveList_served hnodup (reformed s) x (List.mem_filter.mpr ⟨hx, by simpa using h0⟩) hq
    exact ⟨hramps, hheld.trans (congrArg (List.length · + x.2) (reformed_gang s))⟩

/-! ### The lines of the pool (R155 to R160) -/

theorem phaseMayRise_iff : phaseMayRise f s = true ↔ ∃ p : Fin 8, f ∈ gang p s ∧ isEnabledState s.ports[p].run.state = true := by
  unfold phaseMayRise
  cases h : s.pool.phases[f].state with
  | free | outOfService => simp only [mem_gang, h, reduceCtorEq, false_and, exists_false]
  | assigned q => simp only [mem_gang, h, PhaseState.assigned.injEq, exists_eq_left']

/-- The phase of a fault line that has risen, before the needs are formed again. -/
def outTaken (f : Fin 16) (s : State) : State :=
  raiseCabinet .phaseOutOfService (modPhase f outOfService (modPhase f (fun ph => { ph with faultHigh := true }) s))

theorem outTaken_phase (g : Fin 16) : (outTaken f s).pool.phases[g] =
    if g = f then outOfService { s.pool.phases[f] with faultHigh := true } else s.pool.phases[g] := by
  change (modPhase f outOfService (modPhase f _ s)).pool.phases[g] = _
  rw [modPhase_phase, modPhase_phase]
  split
  · next h => rw [h]
  · rfl

theorem riseFault_takes (hlow : s.pool.phases[f].faultHigh = false) (hin : s.pool.phases[f].state ≠ .outOfService) :
    riseFault f s = reformNeeds (outTaken f s) := by
  rw [riseFault, if_neg (by rw [hlow]; simp)]
  exact if_neg hin

/-- A phase that no service gives out stays as it is when needs are formed again. -/
theorem reformNeeds_phase (h : s.pool.phases[f].state ≠ .free) : (reformNeeds s).pool.phases[f] = s.pool.phases[f] := by
  have hph : (reformed s).pool.phases[f] = s.pool.phases[f] := by rw [reformed_phase]
  rw [reformNeeds_eq, serveList_phase _ _ (by rwa [hph]), hph]

theorem servicePhase_returns (hout : s.pool.phases[f].state = .outOfService) (hlow : s.pool.phases[f].faultHigh = false) :
    servicePhase f.val s = done (reformNeeds (modPhase f (fun ph => { ph with state := .free, command := 0 }) s)) := by
  rw [servicePhase, dif_pos f.isLt]
  dsimp only [Fin.eta]
  rw [if_neg (not_not.mpr hout), if_neg (by rw [hlow]; simp)]

theorem servicePhase_barred (h : s.pool.phases[f].state ≠ .outOfService ∨ s.pool.phases[f].faultHigh = true) :
    servicePhase f.val s = refuse .badState s := by
  rw [servicePhase, dif_pos f.isLt]
  dsimp only [Fin.eta]
  split
  · rfl
  · next hout =>
    rw [if_pos (h.resolve_left hout)]

theorem modPhase_congr {g g' : Phase → Phase} (h : g s.pool.phases[f] = g' s.pool.phases[f]) : modPhase f g s = modPhase f g' s := by
  unfold modPhase
  rw [h]

theorem modPhase_id {g : Phase → Phase} (h : g s.pool.phases[f] = s.pool.phases[f]) : modPhase f g s = s := by
  unfold modPhase
  rw [h, Fin.getElem_fin, Vector.set_getElem_self]

theorem fallActive_unwatched (hw : s.pool.phases[f].watch = none) :
    fallActive f s = modPhase f (fun ph => { ph with activeHigh := false }) s := by
  unfold fallActive
  split
  · next hlow =>
    refine (modPhase_id ?_).symm
    generalize s.pool.phases[f] = ph at hlow ⊢
    cases ph
    simpa using hlow
  · refine modPhase_congr ?_
    rw [hw]
    generalize s.pool.phases[f] = ph at hw ⊢
    cases ph
    cases hw
    simp

theorem riseActive_level (h : s.pool.phases[f].enabled = true ∨ s.pool.phases[f].watch ≠ none) :
    riseActive f s = modPhase f (fun ph => { ph with activeHigh := true }) s := by
  unfold riseActive
  dsimp only
  split
  · next hhigh =>
    refine (modPhase_id ?_).symm
    generalize s.pool.phases[f] = ph at hhigh ⊢
    cases ph
    simpa using hhigh
  · refine if_neg ?_
    rintro ⟨hoff, hnone⟩
    exact h.elim hoff fun hw => hw (Option.isNone_iff_eq_none.mp hnone)

/-- Settles O46: the lines' rows, the services, the needs formed again and the enables, each by its lemma. -/
theorem phaseLinesAct : Obligations.PhaseLinesAct := by
  refine ⟨⟨fun f s hlow hin => ?_, fun f s => rfl, fun iss f s hout hlow => ?_, fun iss f s hout hlow hq => ?_,
      fun iss f s h => ?_⟩,
    ⟨fun s h => serveQueue_empty h, fun p n rest s h => ⟨fun hlt => ?_, serveQueue_head h⟩,
      fun s => serveList_queue .., fun s hn => reformNeeds_spec hn⟩,
    fun f n s hhigh hw => ?_, fun f s => phaseMayRise_iff, fun f s hw => ?_, fun f s h => ?_,
    fun p s he => ⟨refreshEnables_gang, (rising_refresh he).enablesRise⟩, fun p s he => ⟨refreshEnables_gang, ?_⟩⟩
  · have hph : (outTaken f s).pool.phases[f] = outOfService { s.pool.phases[f] with faultHigh := true } := by
      rw [outTaken_phase, if_pos rfl]
    have hstays : (reformNeeds (outTaken f s)).pool.phases[f] = outOfService { s.pool.phases[f] with faultHigh := true } := by
      rw [reformNeeds_phase (by rw [hph]; exact PhaseState.noConfusion), hph]
    obtain ⟨hoff, hcmd⟩ := disabled_off { s.pool.phases[f] with faultHigh := true }
    have hwork := reformNeeds_poolWork (outTaken f s)
    refine ⟨_, congrArg Host.Outcome.next (riseFault_takes hlow hin), ?_, ?_, ?_, ?_, ?_, hwork.headers, hwork.history, hwork.alloc,
      hwork.prot, outTaken f s, rfl, rfl, rfl, ?_, fun g hg => ?_⟩
    · rw [hstays]
      rfl
    · rw [hstays]
      exact hoff
    · rw [hstays]
      exact hcmd
    · rw [hstays]
      unfold outOfService disabled
      split <;> rfl
    · exact hwork.cmd.cabinetFlagged (cabinetFlagged_raiseCabinet ..)
    · rw [hph]
      rfl
    · rw [outTaken_phase, if_neg hg]
  · exact congrArg (replied iss 43) (servicePhase_returns hout hlow)
  · refine congrArg (replied iss 43) ((servicePhase_returns hout hlow).trans ?_)
    rw [reformNeeds_empty]
    exact hq
  · exact congrArg (replied iss 43) (servicePhase_barred h)
  · rw [serveQueue, h, serveList_stays (Nat.not_le.mpr hlt), ← h]
  · refine congrArg Host.Outcome.next ?_
    simp only [fallActive, hhigh, hw, not_true_eq_false, if_false, Option.isSome_some, Bool.true_and]
  · exact congrArg Host.Outcome.next (fallActive_unwatched hw)
  · exact congrArg Host.Outcome.next (riseActive_level h)
  · rw [refreshEnables, if_neg (by rw [he]; simp)]
    exact Faults.enablesFall_disablePort

end

end Sys2Proof.PoolRows
end

section
/-! PROOFS. What reaches the eight ports in turn, seen from one of them, and the door (R176). -/

open Sys2Proof Sys2Proof.Machine Sys2Proof.Indexing Sys2Proof.InterlockMask Sys2Proof.RunCommands

namespace Sys2Proof.Turns

section
variable {p q : Fin 8} {s t : State} {g : Fin 8 → State → State}

/-! ### One port's turn -/

theorem foldl_keeps {K : State → State → Prop} (hrefl : ∀ t, K t t) (htrans : ∀ {a b c}, K a b → K b c → K a c)
    {l : List (Fin 8)} (hg : ∀ p ∈ l, ∀ t, K t (g p t)) (s : State) : K s (l.foldl (fun t p => g p t) s) := by
  induction l generalizing s with
  | nil => exact hrefl s
  | cons p l ih =>
    exact htrans (hg p List.mem_cons_self s) (ih (fun r hr => hg r (List.mem_cons_of_mem p hr)) _)

/-- What the other ports' turns keep stands from the start to a port's own turn, and from it to the end. -/
theorem forPorts_turn {K : State → State → Prop} (hrefl : ∀ t, K t t) (htrans : ∀ {a b c}, K a b → K b c → K a c)
    (hg : ∀ p, p ≠ q → ∀ t, K t (g p t)) (s : State) : ∃ t, K s t ∧ K (g q t) (forPorts g s) := by
  obtain ⟨before, after, hsplit⟩ := List.append_of_mem (List.mem_finRange q)
  have hnodup := List.nodup_finRange 8
  rw [hsplit, List.nodup_append] at hnodup
  obtain ⟨-, hafter, hdisj⟩ := hnodup
  rw [forPorts, hsplit, List.foldl_append, List.foldl_cons]
  refine ⟨before.foldl (fun t p => g p t) s, foldl_keeps hrefl htrans (fun p hp => hg p ?_) s,
    foldl_keeps hrefl htrans (fun p hp => hg p ?_) _⟩
  · exact fun h => hdisj p hp q List.mem_cons_self h
  · exact fun h => (List.nodup_cons.mp hafter).1 (h ▸ hp)

/-- What every port's turn keeps stands at the end. -/
theorem forPorts_keep {K : State → State → Prop} (hrefl : ∀ t, K t t) (htrans : ∀ {a b c}, K a b → K b c → K a c)
    (hg : ∀ p t, K t (g p t)) (s : State) : K s (forPorts g s) := foldl_keeps hrefl htrans (fun p _ => hg p) s

/-- The work of each port in turn: a port's own items come from its turn. -/
theorem forPorts_own {b : Bool} (hg : ∀ p t, PortWork b p t (g p t)) (q : Fin 8) (s : State) : ∃ t,
    sameOwnItems s.ports[q] t.ports[q] ∧ sameOwnItems (g q t).ports[q] (forPorts g s).ports[q] :=
  forPorts_turn (K := fun t u => sameOwnItems t.ports[q] u.ports[q]) (fun _ => .refl _) .trans
    (fun p hp t => (hg p t).others q hp.symm) s

/-! ### The door (R176) -/

/-- What the door that opens does at one port's turn. -/
def doorTurn (p : Fin 8) (t : State) : State := if hasStep t.ports[p].run.state then holdPort doorCauses p t else t

theorem doorTurn_portWork (p : Fin 8) (t : State) : PortWork false p t (doorTurn p t) := by
  unfold doorTurn
  split
  · exact holdPort_portWork _
  · exact .refl _ _ _

theorem holdPort_headers (c : HoldCauses) (p : Fin 8) (t : State) : (holdPort c p t).headers = t.headers := by
  unfold holdPort
  dsimp only
  split
  · split
    · simp [enterHeld]
    · rfl
  · rfl

theorem openDoor_eq (h : s.prot.doorOpen = false) :
    openDoor s = forPorts doorTurn { s with prot := { s.prot with doorOpen := true } } :=
  if_neg (by rw [h]; simp)

theorem holdPort_holds {c : HoldCauses} (h : hasStep s.ports[p].run.state = true) :
    (holdPort c p s).ports[p].run.state = .holding ∨ (holdPort c p s).ports[p].run.state = .held := by
  by_cases hrun : s.ports[p].run.state = .running ∨ s.ports[p].run.state = .transfer
  · rw [holdPort_state c hrun]
    split
    · exact .inr rfl
    · exact .inl rfl
  · have hheld : s.ports[p].run.state = .holding ∨ s.ports[p].run.state = .held := by
      revert h hrun
      generalize s.ports[p].run.state = st
      cases st <;> simp [hasStep]
    rw [holdPort_of_holding_or_held c hheld, modRun, modPort_self]
    exact hheld

theorem startRun_doorOpen (h : s.prot.doorOpen = true) (n : Fin 32) (i : Nat) : startRun p n.val i s = refuse .badState s := by
  simp only [startRun, onProgram_fin, h, if_true, ite_self]

theorem exec_startRun_doorOpen {iss : Issuer} (ho : s.ports[p].owner = ownerOf iss.master) (h : s.prot.doorOpen = true) (n : Fin 32)
    (i : Nat) : exec (.startRun iss p.val n.val i) s = .next (deliver iss 9 (refuse .badState s)) := by
  rw [exec_startRun, onOwnPort_owner ho, startRun_doorOpen h]

/-- Settles O50: each port's own items come from its turn, in which a port with a current step is held. -/
theorem doorHolds : Obligations.DoorHolds := by
  refine ⟨fun s h => ?_, fun iss p n i s ho h => exec_startRun_doorOpen ho h n i, fun iss p s ho h => ?_, fun s => rfl⟩
  · have hprot : (openDoor s).prot = { s.prot with doorOpen := true } := by
      rw [openDoor_eq h]
      exact forPorts_keep (K := fun t u => u.prot = t.prot) (fun _ => rfl) (fun ha hb => hb.trans ha)
        (fun p t => (doorTurn_portWork p t).prot) _
    have hopen : (openDoor s).prot.doorOpen = true := by rw [hprot]
    have hheaders : (openDoor s).headers = s.headers := by
      rw [openDoor_eq h]
      refine forPorts_keep (K := fun t u => u.headers = t.headers) (fun _ => rfl) (fun ha hb => hb.trans ha) (fun p t => ?_) _
      unfold doorTurn
      split
      · exact holdPort_headers ..
      · rfl
    have hheld (p : Fin 8) (hs : hasStep s.ports[p].run.state = true) :
        (openDoor s).ports[p].run.causes.door = true ∧ (openDoor s).ports[p].run.causes.master = true ∧
          ((openDoor s).ports[p].run.state = .holding ∨ (openDoor s).ports[p].run.state = .held) := by
      obtain ⟨t, hbefore, hafter⟩ := forPorts_own doorTurn_portWork p { s with prot := { s.prot with doorOpen := true } }
      obtain ⟨hstate, -⟩ := hbefore
      have hstep : hasStep t.ports[p].run.state = true := by rw [hstate]; exact hs
      rw [doorTurn, if_pos hstep] at hafter
      obtain ⟨hstate', -, -, -, hcauses', -⟩ := hafter
      rw [openDoor_eq h, hstate', hcauses', holdPort_causes]
      exact ⟨by simp [addCauses, doorCauses], by simp [addCauses, doorCauses], holdPort_holds hstep⟩
    refine ⟨_, rfl, hopen, hheld, fun p hs => ?_, hheaders, fun iss p n i ho => exec_startRun_doorOpen ho hopen n i,
      fun iss p hs ho => ?_⟩
    · obtain ⟨t, hbefore, hafter⟩ := forPorts_own doorTurn_portWork p { s with prot := { s.prot with doorOpen := true } }
      obtain ⟨hstate, -, -, -, hcauses, -⟩ := hbefore
      rw [doorTurn, if_neg (by rw [hstate, hs]; simp)] at hafter
      obtain ⟨hstate', -, -, -, hcauses', -⟩ := hafter
      rw [openDoor_eq h, hstate', hcauses']
      exact ⟨hcauses, hstate⟩
    · obtain ⟨hdoor, -⟩ := hheld p hs
      rw [exec_resumePort ho, resumeCommand_barred hdoor]
  · rw [exec_resumePort ho, resumeCommand_barred h]

end

end Sys2Proof.Turns
end

section
/-! PROOFS. Presence detection at the end of a reset (R93, R172), one port's turn after another. -/

open Sys2Proof Sys2Proof.Machine Sys2Proof.Indexing Sys2Proof.PoolPhases Sys2Proof.Faults Sys2Proof.HistoryTable Sys2Proof.Turns

namespace Sys2Proof.Detection

section
variable {p q : Fin 8} {s t u : State} {code : FaultCode}

/-! ### What detection leaves alone -/

/-- No port runs a program or has an entry bound. -/
def Calm (s : State) : Prop := ∀ q : Fin 8, isBound s.ports[q].run.state = false ∧ s.ports[q].ident.bound = none

/-- What the turns of presence detection leave of the rest of the state. -/
structure Aside (s t : State) : Prop where
  calm : Calm t
  headers : t.headers = s.headers
  prot : t.prot = s.prot
  chain : t.chain = s.chain
  alloc : t.alloc = s.alloc
  evictions : t.history.evictions = s.history.evictions
  waiting : s.history.waiting = [] → t.history.waiting = []
  phase : ∀ f : Fin 16, t.pool.phases[f].state = s.pool.phases[f].state ∧
    (s.pool.phases[f].enabled = false → t.pool.phases[f].enabled = false)
  station : t.cmd.stationSet.cabinet = s.cmd.stationSet.cabinet
  hall : t.cmd.hallSet.cabinet = s.cmd.hallSet.cabinet

theorem Aside.refl (h : Calm s) : Aside s s :=
  ⟨h, rfl, rfl, rfl, rfl, rfl, id, fun _ => ⟨rfl, id⟩, rfl, rfl⟩

theorem Aside.trans (h : Aside s t) (h' : Aside t u) : Aside s u where
  calm := h'.calm
  headers := h'.headers.trans h.headers
  prot := h'.prot.trans h.prot
  chain := h'.chain.trans h.chain
  alloc := h'.alloc.trans h.alloc
  evictions := h'.evictions.trans h.evictions
  waiting hw := h'.waiting (h.waiting hw)
  phase f := ⟨(h'.phase f).1.trans (h.phase f).1, fun he => (h'.phase f).2 ((h.phase f).2 he)⟩
  station := h'.station.trans h.station
  hall := h'.hall.trans h.hall

theorem Aside.send (h : Aside s t) (x : Sent) : Aside s (send x t) := { h with }

theorem Aside.raisePort (h : Aside s t) (g : PortFlag) : Aside s (raisePort g p t) := { h with }

/-- An update of one port that does not bind it. -/
theorem Aside.modPort (h : Aside s t) {g : Port → Port}
    (hg : isBound (g t.ports[p]).run.state = false ∧ (g t.ports[p]).ident.bound = none) : Aside s (modPort p g t) :=
  { h with
    calm := fun q => by
      rw [modPort_port]
      split
      · exact hg
      · exact h.calm q }

theorem Aside.disablePort (h : Aside s t) : Aside s (disablePort p t) := by
  have hports : (Machine.disablePort p t).ports = t.ports := disablePort_ports ..
  refine h.trans ⟨fun q => by rw [hports]; exact h.calm q, disablePort_headers .., disablePort_prot .., disablePort_chain ..,
    disablePort_alloc .., by rw [disablePort_history], fun hw => by rwa [disablePort_history],
    fun f => ⟨disablePort_state f, fun he => ?_⟩, by rw [disablePort_cmd], by rw [disablePort_cmd]⟩
  rw [disablePort_phase]
  split
  · exact (disabled_off _).1
  · exact he

theorem recordFault_calm (time : Nat) {x : Port} (h : isBound x.run.state = false ∧ x.ident.bound = none) :
    isBound (recordFault code time x).run.state = false ∧ (recordFault code time x).ident.bound = none := by
  rwa [recordFault_run, recordFault_ident]

theorem Aside.faultIdle (h : Aside s t) : Aside s (faultIdle p code t) := by
  have hwrite : Aside s (writeFault p code t) := h.modPort (recordFault_calm _ (h.calm p))
  rw [Machine.faultIdle, fold_unbound (hwrite.calm p).2]
  have hdown := hwrite.disablePort (p := p)
  have hport : (Machine.disablePort p (writeFault p code t)).ports[p].ident.bound = none := (hdown.calm p).2
  have hfaulted : Aside s (modRun p (fun r => { r with state := .faulted }) (Machine.disablePort p (writeFault p code t))) :=
    hdown.modPort ⟨rfl, hport⟩
  have hrestarted : Aside s (restartSettle p (modRun p (fun r => { r with state := .faulted })
      (Machine.disablePort p (writeFault p code t)))) := 
    hfaulted.modPort (g := fun q => { q with intake := { q.intake with settle := .empty } }) (hfaulted.calm p)
  exact hrestarted.raisePort _

/-- A fault that reaches a port outside a run. -/
theorem Aside.faultPort (h : Aside s t) : Aside s (faultPort p code t) := by
  have hcalm := h.calm p
  cases hs : t.ports[p].run.state with
  | vacant => rwa [faultPort_vacant hs]
  | identifying =>
    rw [faultPort_identifying hs]
    refine Aside.faultIdle ?_
    have hid : Aside s (modIdent p (fun i => { i with attempt := none, serialRead := none }) t) := h.modPort hcalm
    have hwaiting (hw : s.history.waiting = []) : (unread p t).history.waiting = [] := by
      change t.history.waiting.filter _ = []
      rw [h.waiting hw]
      rfl
    exact { hid with waiting := hwaiting }
  | unidentified =>
    rw [faultPort_still (.inr hs)]
    exact h.faultIdle
  | ready =>
    rw [faultPort_still (.inl hs)]
    exact h.faultIdle
  | faulted =>
    rw [faultPort_again hs]
    exact h.modPort (recordFault_calm _ hcalm)
  | transfer | running | holding | held | ending =>
    rw [hs] at hcalm
    cases hcalm.1

theorem Aside.startIdentify (h : Aside s t) : Aside s (Machine.startIdentify p t) := by
  rw [startIdentify_eq]
  exact (h.modPort ⟨rfl, (h.calm p).2⟩).send _

theorem Aside.packArrives (h : Aside s t) : Aside s (packArrives p t) := by
  have hstart : Aside s (if t.ports[p].run.state = .vacant then Machine.startIdentify p t else t) := by
    split
    · exact h.startIdentify
    · exact h
  rw [packArrives_eq]
  split
  · exact (hstart.modPort (p := p) (hstart.calm p)).faultPort
  · exact hstart

/-! ### The other ports -/

theorem faultIdle_other (hb : t.ports[p].ident.bound = none) (hq : q ≠ p) : (faultIdle p code t).ports[q] = t.ports[q] := by
  have hwrite : (writeFault p code t).ports[p].ident.bound = none := by rw [writeFault, modPort_self, recordFault_ident, hb]
  rw [faultIdle, fold_unbound hwrite]
  rw [raisePort_ports, restartSettle, modIntake, modPort_other _ hq, modRun, modPort_other _ hq, disablePort_ports, writeFault,
    modPort_other _ hq]

theorem faultPort_other (hcalm : isBound t.ports[p].run.state = false) (hb : t.ports[p].ident.bound = none) (hq : q ≠ p) :
    (faultPort p code t).ports[q] = t.ports[q] := by
  cases hs : t.ports[p].run.state with
  | vacant => rw [faultPort_vacant hs]
  | identifying =>
    rw [faultPort_identifying hs, faultIdle_other (by rw [unread_port]; exact hb) hq]
    change (modIdent p (fun i => { i with attempt := none, serialRead := none }) t).ports[q] = _
    rw [modIdent, modPort_other _ hq]
  | unidentified => rw [faultPort_still (.inr hs), faultIdle_other hb hq]
  | ready => rw [faultPort_still (.inl hs), faultIdle_other hb hq]
  | faulted => rw [faultPort_again hs, writeFault, modPort_other _ hq]
  | transfer | running | holding | held | ending =>
    rw [hs] at hcalm
    cases hcalm

theorem startIdentify_other (hq : q ≠ p) : (startIdentify p t).ports[q] = t.ports[q] := by
  rw [startIdentify_eq, send_ports, modPort_other _ hq]

theorem packArrives_other (hcalm : Calm t) (hq : q ≠ p) : (packArrives p t).ports[q] = t.ports[q] := by
  have hstart : Aside t (if t.ports[p].run.state = .vacant then startIdentify p t else t) ∧
      (if t.ports[p].run.state = .vacant then startIdentify p t else t).ports[q] = t.ports[q] := by
    split
    · exact ⟨(Aside.refl hcalm).startIdentify, startIdentify_other hq⟩
    · exact ⟨.refl hcalm, rfl⟩
  obtain ⟨haside, hport⟩ := hstart
  rw [packArrives_eq]
  split
  · have hmod := haside.modPort (p := p) (g := fun x => { x with prot := { x.prot with thermalLatch := true } }) (haside.calm p)
    exact (faultPort_other (hmod.calm p).1 (hmod.calm p).2 hq).trans ((modPort_other _ hq _).trans hport)
  · exact hport

/-! ### A port's own turn -/

/-- A VACANT port that detection finds present: it identifies, or faults at once by its thermal switch. -/
theorem packArrives_port (hv : t.ports[p].run.state = .vacant) :
    (t.ports[p].prot.thermalOpen = false → (packArrives p t).ports[p] = { t.ports[p] with
      ident := { t.ports[p].ident with lastFailure := .none, serialRead := none, attempt := some ⟨1, 0⟩ }
      run := { t.ports[p].run with state := .identifying } }) ∧
    (t.ports[p].prot.thermalOpen = true → ∃ y : State, packArrives p t = faultPort p .thermalSwitch y ∧ y.prot = t.prot ∧
      y.ports[p] = { t.ports[p] with
        ident := { t.ports[p].ident with lastFailure := .none, serialRead := none, attempt := some ⟨1, 0⟩ }
        run := { t.ports[p].run with state := .identifying }
        prot := { t.ports[p].prot with thermalLatch := true } }) := by
  refine ⟨fun ht => ?_, fun ht => ?_⟩
  · rw [packArrives_eq, if_neg (by rw [ht]; simp), if_pos hv, startIdentify_eq, id_eq, send_ports, modPort_self]
  · refine ⟨_, by rw [packArrives_eq, if_pos ht, if_pos hv]; rfl, by rw [startIdentify_eq]; rfl, ?_⟩
    rw [modProt, modPort_self, startIdentify_eq, send_ports, modPort_self]

/-! ### All eight turns -/

/-- What detection does at one port's turn. -/
def detectTurn (p : Fin 8) (t : State) : State := if t.ports[p].ident.present then packArrives p t else t

theorem detectTurn_present (h : t.ports[p].ident.present = true) : detectTurn p t = packArrives p t := if_pos h

theorem detectTurn_keeps (p : Fin 8) (h : Calm t) : Aside t (detectTurn p t) ∧
    ∀ q : Fin 8, q ≠ p → (detectTurn p t).ports[q] = t.ports[q] := by
  unfold detectTurn
  split
  · exact ⟨(Aside.refl h).packArrives, fun q hq => packArrives_other h hq⟩
  · exact ⟨.refl h, fun _ _ => rfl⟩

theorem presenceDetection_turn (h : Calm s) (q : Fin 8) : ∃ t, Aside s t ∧ t.ports[q] = s.ports[q] ∧
    Aside s (presenceDetection s) ∧ (presenceDetection s).ports[q] = (detectTurn q t).ports[q] := by
  obtain ⟨t, hbefore, hafter⟩ := forPorts_turn (g := detectTurn) (q := q)
    (K := fun t u => Calm t → Aside t u ∧ u.ports[q] = t.ports[q]) (fun t ht => ⟨.refl ht, rfl⟩)
    (fun hab hbc ha => ⟨(hab ha).1.trans (hbc (hab ha).1.calm).1, ((hbc (hab ha).1.calm).2).trans (hab ha).2⟩)
    (fun p hp t ht => ⟨(detectTurn_keeps p ht).1, (detectTurn_keeps p ht).2 q hp.symm⟩) s
  obtain ⟨haside, hport⟩ := hbefore h
  obtain ⟨hturn, -⟩ := detectTurn_keeps q haside.calm
  obtain ⟨hend, hport'⟩ := hafter hturn.calm
  exact ⟨t, haside, hport, (haside.trans hturn).trans hend, hport'⟩

theorem presenceDetection_aside (h : Calm s) : Aside s (presenceDetection s) := by
  obtain ⟨-, -, -, haside, -⟩ := presenceDetection_turn h 0
  exact haside

/-- A port as detection finds it: absent, identifying, or FAULTED at once by its thermal switch. -/
theorem presenceDetection_port (h : Calm s) (hv : s.ports[q].run.state = .vacant) :
    (s.ports[q].ident.present = false → (presenceDetection s).ports[q] = s.ports[q]) ∧
    (s.ports[q].ident.present = true → s.ports[q].prot.thermalOpen = false → (presenceDetection s).ports[q] = { s.ports[q] with
      ident := { s.ports[q].ident with lastFailure := .none, serialRead := none, attempt := some ⟨1, 0⟩ }
      run := { s.ports[q].run with state := .identifying } }) ∧
    (s.ports[q].ident.present = true → s.ports[q].prot.thermalOpen = true → ∃ y : State,
      (presenceDetection s).ports[q] = (faultPort q .thermalSwitch y).ports[q] ∧ y.prot = s.prot ∧
      y.ports[q] = { s.ports[q] with
        ident := { s.ports[q].ident with lastFailure := .none, serialRead := none, attempt := some ⟨1, 0⟩ }
        run := { s.ports[q].run with state := .identifying }
        prot := { s.ports[q].prot with thermalLatch := true } }) := by
  obtain ⟨t, haside, hport, -, hend⟩ := presenceDetection_turn h q
  rw [hend, ← hport]
  obtain ⟨hclosed, hopen⟩ := packArrives_port (p := q) (t := t) (by rw [hport]; exact hv)
  refine ⟨fun hp => ?_, fun hp ht => ?_, fun hp ht => ?_⟩
  · rw [detectTurn, if_neg (by rw [hp]; simp)]
  · rw [detectTurn_present hp]
    exact hclosed ht
  · obtain ⟨y, hy, hprot, hyport⟩ := hopen ht
    refine ⟨y, ?_, hprot.trans haside.prot, hyport⟩
    rw [detectTurn_present hp, hy]

end

end Sys2Proof.Detection
end

section
/-! PROOFS. The two resets: the internal restart (R184) and power-on reset with the input lines at any levels (R93, R141, R164). -/

open Sys2Proof Sys2Proof.Machine Sys2Proof.Indexing Sys2Proof.PoolPhases Sys2Proof.Faults Sys2Proof.FaultPaths Sys2Proof.Turns
open Sys2Proof.Detection

namespace Sys2Proof.Restarts

section
variable {p q : Fin 8} {s t u : State}

/-! ### Every entry folded and unmounted (R184) -/

/-- What folds and unmounts leave. -/
structure Dismounted (s t : State) : Prop where
  port : ∀ q : Fin 8, t.ports[q].owner = s.ports[q].owner ∧ t.ports[q].results = s.ports[q].results ∧
    t.ports[q].ident.present = s.ports[q].ident.present ∧ t.ports[q].prot = s.ports[q].prot ∧
    t.ports[q].phases.reserved = s.ports[q].phases.reserved
  headers : t.headers = s.headers
  chain : t.chain = s.chain
  alloc : t.alloc = s.alloc
  prot : t.prot = s.prot
  pool : t.pool = s.pool
  evictions : t.history.evictions = s.history.evictions

theorem Dismounted.refl (s : State) : Dismounted s s := ⟨fun _ => ⟨rfl, rfl, rfl, rfl, rfl⟩, rfl, rfl, rfl, rfl, rfl, rfl⟩

theorem Dismounted.trans (h : Dismounted s t) (h' : Dismounted t u) : Dismounted s u where
  port q := by
    obtain ⟨h1, h2, h3, h4, h5⟩ := h.port q
    obtain ⟨k1, k2, k3, k4, k5⟩ := h'.port q
    exact ⟨k1.trans h1, k2.trans h2, k3.trans h3, k4.trans h4, k5.trans h5⟩
  headers := h'.headers.trans h.headers
  chain := h'.chain.trans h.chain
  alloc := h'.alloc.trans h.alloc
  prot := h'.prot.trans h.prot
  pool := h'.pool.trans h.pool
  evictions := h'.evictions.trans h.evictions

theorem dismounted_fold (p : Fin 8) (s : State) : Dismounted s (fold p s) := by
  refine ⟨fun q => ⟨?_, ?_, ?_, ?_, ?_⟩, ?_, ?_, ?_, ?_, ?_, ?_⟩ <;> simp

theorem dismounted_unmount (p : Fin 8) (s : State) : Dismounted s (unmount p s) := by
  cases hb : s.ports[p].ident.bound with
  | none => rw [unmount_none hb]; exact .refl s
  | some e =>
    rw [unmount_bound hb]
    refine ⟨fun q => ?_, rfl, rfl, rfl, rfl, rfl, rfl⟩
    rw [modIdent, modPort_port]
    split
    · next h => subst h; exact ⟨rfl, rfl, rfl, rfl, rfl⟩
    · exact ⟨rfl, rfl, rfl, rfl, rfl⟩

/-- All eight ports fold and unmount. -/
def dismount (s : State) : State := forPorts (fun p t => unmount p (fold p t)) s

theorem dismounted (s : State) : Dismounted s (dismount s) :=
  forPorts_keep .refl .trans (fun p t => (dismounted_fold p t).trans (dismounted_unmount p _)) s

/-! ### The blocks, and the reservations taken again -/

/-- The blocks at the internal restart, before reservations are taken again. -/
def cleared (s : State) : State :=
  { s with
    ports := s.ports.map restartPort
    headers := s.headers.map fun h => { h with useCount := 0 }
    history := { s.history with waiting := [] }
    alloc := { s.alloc with lastRound := { s.alloc.lastRound with iTot := 0, eTot := 0 } }
    pool := ⟨s.pool.phases.map restartPhase, []⟩
    prot := { s.prot with cabinet := .normal, contactor := .opened, drive := false } }

/-- The reserved phases of every port. -/
def reservationsTaken (s : State) : State := forPorts (fun p t => takePhases p t.ports[p].phases.reserved t) s

theorem restartBlocks_eq (s : State) : restartBlocks s = raiseCabinet .restarted (reservationsTaken (cleared (dismount s))) := by
  simp only [restartBlocks, reservationsTaken, cleared, dismount]

/-- What takings for ports outside a run leave. -/
structure Took (s t : State) : Prop where
  ports : t.ports = s.ports
  rest : PoolWork s t
  phase : ∀ f : Fin 16, t.pool.phases[f].enabled = s.pool.phases[f].enabled ∧
    (s.pool.phases[f].state = .outOfService ↔ t.pool.phases[f].state = .outOfService)

theorem Took.trans (h : Took s t) (h' : Took t u) : Took s u :=
  ⟨h'.ports.trans h.ports, h.rest.trans h'.rest, fun f =>
    ⟨(h'.phase f).1.trans (h.phase f).1, (h.phase f).2.trans (h'.phase f).2⟩⟩

theorem took_takePhases (he : isEnabledState s.ports[p].run.state = false) (n : Nat) : Took s (takePhases p n s) := by
  refine ⟨takePhases_ports .., takePhases_poolWork p n s, fun f => ?_⟩
  rw [takePhases_phase]
  split
  · next hf =>
    refine ⟨?_, ?_⟩
    · rw [taken, if_neg (by rw [he]; simp)]
    · rw [taken_state, free_of_take hf]
      simp
  · exact ⟨rfl, .rfl⟩

theorem took_reservations (he : ∀ p : Fin 8, isEnabledState s.ports[p].run.state = false) : Took s (reservationsTaken s) :=
  forPorts_keep (K := fun t u => (∀ p : Fin 8, isEnabledState t.ports[p].run.state = false) → Took t u)
    (fun t _ => ⟨rfl, .refl t, fun _ => ⟨rfl, .rfl⟩⟩)
    (fun hab hbc ha => (hab ha).trans (hbc fun p => by rw [(hab ha).ports]; exact ha p))
    (fun p t ht => took_takePhases (ht p) _) s he

theorem cleared_port (s : State) (q : Fin 8) : (cleared s).ports[q] = restartPort s.ports[q] := by
  simp [cleared]

theorem restartPhase_spec (ph : Phase) : (restartPhase ph).enabled = false ∧
    (ph.state = .outOfService ↔ (restartPhase ph).state = .outOfService) := by
  unfold restartPhase
  split
  · next h => exact ⟨(disabled_off ph).1, by rw [disabled_state]⟩
  · next h => exact ⟨(disabled_off ph).1, by simp [h]⟩

theorem cleared_calm (s : State) : Calm (cleared s) := fun q => by
  rw [cleared_port]
  exact ⟨rfl, rfl⟩

theorem took_cleared (s : State) : Took (cleared s) (reservationsTaken (cleared s)) :=
  took_reservations fun p => by rw [cleared_port]; rfl

/-- Each port before detection. -/
theorem restartBlocks_port (s : State) (q : Fin 8) : (restartBlocks s).ports[q] = restartPort (dismount s).ports[q] := by
  rw [restartBlocks_eq, raiseCabinet_ports, (took_cleared _).ports, cleared_port]

theorem restartBlocks_calm (s : State) : Calm (restartBlocks s) := fun q => by
  rw [restartBlocks_port]
  exact ⟨rfl, rfl⟩

/-! ### A thermal switch that detection finds OPEN -/

theorem recordFault_acct_run (c : FaultCode) (n : Nat) (x : Port) : (recordFault c n x).acct.run = x.acct.run := by
  unfold recordFault
  split
  · rfl
  · dsimp only
    split <;> rfl

/-- A port that faults while it identifies keeps what is not of its identification or its protection. -/
theorem identifying_faulted_port {y : State} {code : FaultCode} (h : y.ports[q].run.state = .identifying)
    (hb : y.ports[q].ident.bound = none) :
    let x := (faultPort q code y).ports[q]
    x.owner = y.ports[q].owner ∧ x.results = y.ports[q].results ∧ x.run.program = y.ports[q].run.program ∧
    x.run.state = .faulted ∧ x.acct.run = y.ports[q].acct.run ∧ x.alloc = y.ports[q].alloc := by
  have hb' : (writeFault q code (unread q y)).ports[q].ident.bound = none := by
    rw [writeFault, modPort_self, recordFault_ident, unread_port]
    exact hb
  have hacct : (faultIdle q code (unread q y)).ports[q].acct.run = y.ports[q].acct.run := by
    have hrec : (writeFault q code (unread q y)).ports[q].acct.run = y.ports[q].acct.run := by
      rw [writeFault, modPort_self, recordFault_acct_run, unread_port]
    rw [faultIdle, fold_unbound hb', ← hrec]
    simp
  rw [faultPort_identifying h]
  refine ⟨?_, ?_, ?_, ?_, hacct, ?_⟩ <;> simp [faultIdle, unread]

/-- The record that a first thermal fault writes in IDENTIFYING. -/
theorem identifying_faulted_prot {y : State} {code : FaultCode} (h : y.ports[q].run.state = .identifying)
    (hf : y.ports[q].prot.fault = none) :
    let x := (faultPort q code y).ports[q]
    x.prot.requested = y.ports[q].prot.requested ∧ x.prot.effective = y.ports[q].prot.effective ∧
    x.prot.filters = y.ports[q].prot.filters ∧ x.prot.thermalLatch = y.ports[q].prot.thermalLatch ∧
    ∃ r, x.prot.fault = some r ∧ r.code = code ∧ r.portState = .identifying ∧ r.additional = 0 := by
  have hprot := faultPort_prot (p := q) (s := y) (by rw [h]; simp) code
  dsimp only
  rw [hprot]
  exact ⟨recordFault_prot_requested .., recordFault_prot_effective .., recordFault_prot_filters .., recordFault_prot_thermalLatch ..,
    _, recordFault_first _ _ _ hf, rfl, h, rfl⟩

/-! ### The internal restart (R184) -/

theorem restart_aside (s : State) : Aside (restartBlocks s) (internalRestart s) := presenceDetection_aside (restartBlocks_calm s)

theorem restart_enabled (s : State) (f : Fin 16) : (internalRestart s).pool.phases[f].enabled = false ∧
    (s.pool.phases[f].state = .outOfService ↔ (internalRestart s).pool.phases[f].state = .outOfService) := by
  have hpool := (dismounted s).pool
  obtain ⟨htaken, hout⟩ := (took_cleared (dismount s)).phase f
  obtain ⟨hstate, hdown⟩ := (restart_aside s).phase f
  generalize internalRestart s = t at hstate hdown ⊢
  have hclear : (cleared (dismount s)).pool.phases[f] = restartPhase s.pool.phases[f] := by
    simp [cleared, hpool]
  obtain ⟨hoff, hiff⟩ := restartPhase_spec s.pool.phases[f]
  rw [hclear] at htaken hout
  have hblocks : (restartBlocks s).pool = (reservationsTaken (cleared (dismount s))).pool := by
    rw [restartBlocks_eq, raiseCabinet_pool]
  rw [hblocks] at hstate hdown
  rw [hstate]
  exact ⟨hdown (htaken.trans hoff), hiff.trans hout⟩

/-- What stands through the restart outside the ports and the pool. -/
theorem restart_rest (s : State) :
    let t := internalRestart s
    t.prot = { s.prot with cabinet := .normal, contactor := .opened, drive := false } ∧
    cabinetFlagged .restarted t ∧ t.chain = s.chain ∧ t.history.waiting = [] ∧
    t.history.evictions = s.history.evictions ∧ t.alloc.inForce = s.alloc.inForce ∧
    t.headers = s.headers.map fun h => { h with useCount := 0 } := by
  have hdis := dismounted s
  have htook := (took_cleared (dismount s)).rest
  have haside := restart_aside s
  have hflag : cabinetFlagged .restarted (restartBlocks s) := by
    rw [restartBlocks_eq]
    exact cabinetFlagged_raiseCabinet ..
  have hprot : (restartBlocks s).prot = { s.prot with cabinet := .normal, contactor := .opened, drive := false } := by
    rw [restartBlocks_eq, raiseCabinet_prot, htook.prot, cleared, hdis.prot]
  have hchain : (restartBlocks s).chain = s.chain := by
    rw [restartBlocks_eq, raiseCabinet_chain, htook.chain, cleared, hdis.chain]
  have hhistory : (restartBlocks s).history = { (dismount s).history with waiting := [] } := by
    rw [restartBlocks_eq, raiseCabinet_history, htook.history, cleared]
  have halloc : (restartBlocks s).alloc.inForce = s.alloc.inForce := by
    rw [restartBlocks_eq, raiseCabinet_alloc, htook.alloc, cleared, hdis.alloc]
  have hheaders : (restartBlocks s).headers = s.headers.map fun h => { h with useCount := 0 } := by
    rw [restartBlocks_eq, raiseCabinet_headers, htook.headers, cleared, hdis.headers]
  have hevict : (restartBlocks s).history.evictions = s.history.evictions := by
    rw [hhistory, ← hdis.evictions]
  generalize internalRestart s = t at haside ⊢
  refine ⟨haside.prot.trans hprot, ⟨?_, ?_⟩, haside.chain.trans hchain, haside.waiting (by rw [hhistory]), ?_, ?_,
    haside.headers.trans hheaders⟩
  · rw [← hflag.1, hasCabinetFlag, hasCabinetFlag, haside.station]
  · rw [← hflag.2, hasCabinetFlag, hasCabinetFlag, haside.hall]
  · rw [haside.evictions, hevict]
  · rw [haside.alloc, halloc]

/-- A port as the restart leaves it, by the port `a` that it was and the port `x` that it is. -/
structure Restarted (a x : Port) : Prop where
  ident : x.ident.bound = none
  program : x.run.program = none
  run : x.acct.run = .cleared
  alloc : x.alloc = .none
  filters : x.prot.filters = Vector.replicate 6 0
  owner : x.owner = a.owner
  results : x.results = a.results
  requested : x.prot.requested = a.prot.requested
  effective : x.prot.effective = a.prot.effective
  quiet : a.ident.present = false ∨ a.prot.thermalOpen = false → x.prot.fault = none ∧ x.prot.thermalLatch = false
  tripped : a.ident.present = true → a.prot.thermalOpen = true → x.prot.thermalLatch = true ∧
    ∃ r, x.prot.fault = some r ∧ r.code = .thermalSwitch ∧ r.portState = .identifying ∧ r.additional = 0
  attempt : x.ident.attempt = if a.ident.present && !a.prot.thermalOpen then some ⟨1, 0⟩ else none
  state : x.run.state = if a.ident.present then (if a.prot.thermalOpen then .faulted else .identifying) else .vacant

/-- Detection over a port at its restart values. -/
theorem detected_port {b : State} {d : Port} (hcalm : Calm b) (hport : b.ports[p] = restartPort d) :
    Restarted d (presenceDetection b).ports[p] := by
  have hv : b.ports[p].run.state = .vacant := by rw [hport]; rfl
  obtain ⟨habsent, hclosed, hopen⟩ := presenceDetection_port hcalm hv
  generalize (presenceDetection b).ports[p] = x at habsent hclosed hopen ⊢
  rw [hport] at habsent hclosed hopen
  cases hp : d.ident.present
  · rw [habsent hp]
    exact ⟨rfl, rfl, rfl, rfl, rfl, rfl, rfl, rfl, rfl, fun _ => ⟨rfl, rfl⟩, fun h => absurd (hp.symm.trans h) (by simp), by rw [hp]; rfl, by rw [hp]; rfl⟩
  · cases ht : d.prot.thermalOpen
    · rw [hclosed hp ht]
      exact ⟨rfl, rfl, rfl, rfl, rfl, rfl, rfl, rfl, rfl, fun _ => ⟨rfl, rfl⟩, fun _ h => absurd (ht.symm.trans h) (by simp),
        by rw [hp, ht]; rfl, by rw [hp, ht]; rfl⟩
    · obtain ⟨y, hx, -, hy⟩ := hopen hp ht
      have hst : y.ports[p].run.state = .identifying := by rw [hy]
      have hident := faultPort_ident (p := p) (s := y) .thermalSwitch
      obtain ⟨ho, hr, hprog, hstate, hacct, halloc⟩ := identifying_faulted_port (code := .thermalSwitch) hst (by rw [hy]; rfl)
      obtain ⟨hreq, heff, hfil, hlatch, hfault⟩ := identifying_faulted_prot (code := .thermalSwitch) hst (by rw [hy]; rfl)
      rw [← hx, if_pos hst] at hident
      rw [← hx] at ho hr hprog hstate hacct halloc hreq heff hfil hlatch hfault
      rw [hy] at ho hr hprog hacct halloc hreq heff hfil hlatch hident
      refine ⟨by rw [hident]; rfl, hprog, hacct, halloc, hfil, ho, hr, hreq, heff, fun h => ?_, fun _ _ => ⟨hlatch, hfault⟩,
        by rw [hident, hp, ht]; rfl, by rw [hstate, hp, ht]; rfl⟩
      rw [hp, ht] at h
      rcases h with h | h <;> cases h

theorem restart_port (s : State) (p : Fin 8) : Restarted s.ports[p] (internalRestart s).ports[p] := by
  obtain ⟨howner, hresults, hpresent, hprot, -⟩ := (dismounted s).port p
  have h : Restarted (dismount s).ports[p] (internalRestart s).ports[p] :=
    detected_port (restartBlocks_calm s) (restartBlocks_port s p)
  generalize (internalRestart s).ports[p] = x at h ⊢
  generalize (dismount s).ports[p] = d at *
  obtain ⟨hid, hprog, hrun, halloc, hfil, ho, hr, hreq, heff, hquiet, htrip, hatt, hstate⟩ := h
  rw [hprot, hpresent] at hquiet htrip hatt hstate
  rw [hprot] at hreq heff
  exact ⟨hid, hprog, hrun, halloc, hfil, ho.trans howner, hr.trans hresults, hreq, heff, hquiet, htrip, hatt, hstate⟩

/-- Settles O54: each port from its turn of detection, all else from what the restart's parts leave. -/
theorem restartKeeps : Obligations.RestartKeeps := by
  intro s
  obtain ⟨hprot, hflag, hchain, hwait, hevict, hforce, hheaders⟩ := restart_rest s
  have hpool := restart_enabled s
  have hports (p : Fin 8) := restart_port s p
  dsimp only
  generalize internalRestart s = t at *
  refine ⟨by rw [hprot], by rw [hprot], by rw [hprot], hflag, by rw [hprot], by rw [hprot], by rw [hprot], by rw [hprot],
    by rw [hprot], by rw [hprot], hchain, hwait, hevict, hforce, fun n => ?_, hpool, fun p => ?_⟩
  · rw [hheaders]
    simp
  · have h := hports p
    exact ⟨h.owner, h.results, h.ident, h.program, h.run, h.alloc, h.requested, h.effective, h.filters, h.quiet, h.tripped, h.state⟩

end

end Sys2Proof.Restarts
end

section
/-! PROOFS. Power-on reset with the input lines at any levels (R93, R141, R164). -/

open Sys2Proof Sys2Proof.Machine Sys2Proof.Indexing Sys2Proof.PoolPhases Sys2Proof.Faults Sys2Proof.Turns
open Sys2Proof.Detection Sys2Proof.Restarts Sys2Proof.Frames

namespace Sys2Proof.PowerOn

section
variable {p q : Fin 8} {s t u : State} {lines : InputLines}

/-! ### A lockout cause with every port VACANT -/

/-- Every port is VACANT with no entry bound. -/
def Vacant (s : State) : Prop := ∀ q : Fin 8, s.ports[q].run.state = .vacant ∧ s.ports[q].ident.bound = none

theorem Vacant.calm (h : Vacant s) : Calm s := fun q => ⟨by rw [(h q).1]; rfl, (h q).2⟩

/-- Every phase disabled. -/
def allDisabled (s : State) : State := (List.finRange 16).foldl (fun u f => disablePhase f u) s

theorem allDisabled_phase (f : Fin 16) : (allDisabled s).pool.phases[f] = disabled s.pool.phases[f] := by
  have h := foldl_modPhase disabled (List.nodup_finRange 16) s f
  rw [if_pos (List.mem_finRange f)] at h
  exact h

theorem allDisabled_ports (s : State) : (allDisabled s).ports = s.ports :=
  foldl_ports (fun u f => disablePhase f u) (fun _ _ => rfl) _ s

theorem allDisabled_poolWork (s : State) : PoolWork s (allDisabled s) :=
  .foldl (fun u f => disablePhase f u) (fun s f => modPhase_poolWork f disabled s) _ s

/-- Lockout entry reaches no port and folds nothing where all are VACANT. -/
theorem enterLockout_vacant (h : Vacant s) (hc : s.prot.contactor = .opened) (cause : LogCause) (phase : Option (Fin 16)) :
    enterLockout cause phase s =
      startCooldown (raiseCabinet .lockout (appendLog cause phase .lockoutEntered (allDisabled (startCooldown s)))) := by
  have hidle {g : Fin 8 → State → State} (hg : ∀ p t, Vacant t → g p t = t) (t : State) (ht : Vacant t) : forPorts g t = t :=
    forPorts_keep (K := fun t u => Vacant t → u = t) (fun _ _ => rfl)
      (fun hab hbc ha => by rw [hbc (by rw [hab ha]; exact ha), hab ha]) hg t ht
  have hall : Vacant (allDisabled (startCooldown s)) := fun q => by
    rw [allDisabled_ports]
    exact h q
  have hopen : (allDisabled (startCooldown s)).prot.contactor = .opened := by
    rw [(allDisabled_poolWork _).prot]
    exact hc
  have hports : forPorts lockoutPort (allDisabled (startCooldown s)) = allDisabled (startCooldown s) := by
    refine hidle (fun p t ht => if_neg ?_) _ hall
    rw [(ht p).1]
    simp [isBound]
  have hfolds : forPorts (fun p u => if isBound s.ports[p].run.state then u else fold p u) (allDisabled (startCooldown s)) =
      allDisabled (startCooldown s) := by
    refine hidle (fun p t ht => ?_) _ hall
    rw [fold_unbound (ht p).2, ite_self]
  unfold enterLockout
  change startCooldown (raiseCabinet .lockout (appendLog cause phase .lockoutEntered (forPorts _ (forPorts lockoutPort
    (if (allDisabled (startCooldown s)).prot.contactor = .opened then allDisabled (startCooldown s) else _))))) = _
  rw [if_pos hopen, hports]
  exact congrArg (fun x => startCooldown (raiseCabinet .lockout (appendLog cause phase .lockoutEntered x))) hfolds

/-! ### The blocks and the levels (R93, R141, R164) -/

theorem resetBlocks_port (q : Fin 8) :
    (resetBlocks lines s).ports[q] = restartPort (Port.atReset (lines.presenceClosed.getLsbD q) (lines.thermalOpen.getLsbD q)) := by
  have h : (resetBlocks lines s).ports[q] = Port.atReset (lines.presenceClosed.getLsbD q) (lines.thermalOpen.getLsbD q) := by
    simp [resetBlocks, State.blocksAtReset]
  rw [h]
  rfl

theorem resetBlocks_vacant (lines : InputLines) (s : State) : Vacant (resetBlocks lines s) := fun q => by
  rw [resetBlocks_port]
  exact ⟨rfl, rfl⟩

theorem resetBlocks_phase (f : Fin 16) : (resetBlocks lines s).pool.phases[f].state =
    (if lines.phaseFault.getLsbD f then .outOfService else .free) ∧ (resetBlocks lines s).pool.phases[f].enabled = false := by
  have hph : (resetBlocks lines s).pool.phases[f] =
      if lines.phaseFault.getLsbD f then outOfService (Phase.atReset true (lines.phaseActive.getLsbD f))
      else Phase.atReset false (lines.phaseActive.getLsbD f) := by
    cases h : lines.phaseFault.getLsbD f <;>
      simp only [resetBlocks, State.blocksAtReset, Phase.atReset, Fin.getElem_fin, Vector.getElem_map, Vector.getElem_ofFn, h] <;>
      rfl
  rw [hph]
  split <;> exact ⟨rfl, rfl⟩

/-- A lockout that has been logged and flagged, its cooldown begun. -/
def lockedOut (s : State) : State := startCooldown (raiseCabinet .lockout (appendLog .contactorStuck none .lockoutEntered s))

theorem lockedOut_ports (s : State) : (lockedOut s).ports = s.ports := rfl

theorem lockedOut_pool (s : State) : (lockedOut s).pool = s.pool := rfl

theorem lockedOut_cabinet (s : State) : (lockedOut s).prot.cabinet = .cooldown 5000 ∧ (lockedOut s).prot.doorOpen = s.prot.doorOpen ∧
    (lockedOut s).cmd.stationSet.cabinet = s.cmd.stationSet.cabinet ||| 0x01 ∧
    (lockedOut s).cmd.hallSet.cabinet = s.cmd.hallSet.cabinet ||| 0x01 := by
  refine ⟨rfl, ?_, rfl, rfl⟩
  unfold lockedOut appendLog
  dsimp only [startCooldown, raiseCabinet]
  split <;> rfl

/-- The levels of the lines have acted, but for presence. -/
def levelled (lines : InputLines) (s : State) : State :=
  if lines.feedbackClosed then lockoutCause .contactorStuck none (resetBlocks lines s) else resetBlocks lines s

theorem levelled_locked (h : lines.feedbackClosed = true) :
    levelled lines s = lockedOut (allDisabled (startCooldown (resetBlocks lines s))) := by
  rw [levelled, if_pos h, lockoutCause, if_neg, enterLockout_vacant (resetBlocks_vacant lines s) rfl, lockedOut]
  simp [inLockout, resetBlocks, State.blocksAtReset, Protection.atReset]

theorem levelled_ports (lines : InputLines) (s : State) : (levelled lines s).ports = (resetBlocks lines s).ports := by
  cases h : lines.feedbackClosed
  · rw [levelled, if_neg (by rw [h]; simp)]
  · rw [levelled_locked h, lockedOut_ports, allDisabled_ports, startCooldown]

theorem levelled_calm (lines : InputLines) (s : State) : Calm (levelled lines s) := fun q => by
  rw [levelled_ports]
  exact (resetBlocks_vacant lines s).calm q

theorem levelled_phase (f : Fin 16) : (levelled lines s).pool.phases[f].state =
    (if lines.phaseFault.getLsbD f then .outOfService else .free) ∧ (levelled lines s).pool.phases[f].enabled = false := by
  cases h : lines.feedbackClosed
  · rw [levelled, if_neg (by rw [h]; simp)]
    exact resetBlocks_phase f
  · rw [levelled_locked h, lockedOut_pool, allDisabled_phase, disabled_state]
    exact ⟨(resetBlocks_phase f).1, (disabled_off _).1⟩

/-- The cabinet and its flags as the levels leave them. -/
theorem levelled_cabinet (lines : InputLines) (s : State) :
    (levelled lines s).prot.cabinet = (if lines.feedbackClosed then .cooldown 5000 else .normal) ∧
    (levelled lines s).prot.doorOpen = lines.doorOpen ∧
    (levelled lines s).cmd.stationSet.cabinet = (if lines.feedbackClosed then 0x11 else 0x10) ∧
    (levelled lines s).cmd.hallSet.cabinet = (if lines.feedbackClosed then 0x11 else 0x10) := by
  cases h : lines.feedbackClosed
  · rw [levelled, if_neg (by rw [h]; simp)]
    exact ⟨rfl, rfl, rfl, rfl⟩
  · have hcmd : (allDisabled (startCooldown (resetBlocks lines s))).cmd = .atReset :=
      foldl_cmd (fun u f => disablePhase f u) (fun _ _ => rfl) _ _
    have hprot := (allDisabled_poolWork (startCooldown (resetBlocks lines s))).prot
    obtain ⟨hcab, hdoor, hstation, hhall⟩ := lockedOut_cabinet (allDisabled (startCooldown (resetBlocks lines s)))
    rw [hprot] at hdoor
    rw [hcmd] at hstation hhall
    rw [levelled_locked h]
    exact ⟨hcab, hdoor, hstation, hhall⟩

/-- Settles O6: the blocks and the levels by their values, and each port by its turn of detection. -/
theorem powerOnLines : Obligations.PowerOnLines := by
  intro lines s
  have hrow : exec (.powerOnReset lines) s = .next (presenceDetection (levelled lines s)) := by
    exact congrArg Host.Outcome.next (powerOn_eq lines s)
  have haside := presenceDetection_aside (levelled_calm lines s)
  have hport (p : Fin 8) := detected_port (p := p) (levelled_calm lines s)
    (by rw [levelled_ports]; exact resetBlocks_port (lines := lines) (s := s) p)
  obtain ⟨hcab, hdoor, hstation, hhall⟩ := levelled_cabinet lines s
  have hphase (f : Fin 16) := levelled_phase (lines := lines) (s := s) f
  generalize levelled lines s = b at *
  generalize presenceDetection b = t at *
  refine ⟨t, hrow, fun f => ?_, by rw [haside.prot, hcab], by rw [haside.prot, hdoor], ?_, ?_, ?_, fun p => (hport p).state,
    fun p => (hport p).attempt⟩
  · obtain ⟨hstate, hdown⟩ := haside.phase f
    obtain ⟨hb, hoff⟩ := hphase f
    exact ⟨hstate.trans hb, hdown hoff⟩
  all_goals
    simp only [cabinetFlagged, hasCabinetFlag, haside.station, haside.hall, hstation, hhall]
    cases lines.feedbackClosed <;> decide

end

end Sys2Proof.PowerOn
end

section
/-! PROOFS. Lockout entry (R180): LOCKOUT reaches the ports in turn, and no phase of the cabinet is left enabled. -/

open Sys2Proof Sys2Proof.Machine Sys2Proof.Indexing Sys2Proof.PoolPhases Sys2Proof.Faults Sys2Proof.FaultPaths Sys2Proof.Turns
open Sys2Proof.Acquiring Sys2Proof.PowerOn

namespace Sys2Proof.Lockout

section
variable {p q r : Fin 8} {s t u : State} {f : Fin 16} {code : FaultCode} {l : List (Fin 8 × Nat)}

/-! ### Enabled phases belong to ports in enabled states -/

/-- Every enabled phase is assigned to a port in an enabled state. -/
def Lit (s : State) : Prop := ∀ f : Fin 16, s.pool.phases[f].enabled = true →
  ∃ q : Fin 8, s.pool.phases[f].state = .assigned q ∧ isEnabledState s.ports[q].run.state = true

/-- Every enabled phase is assigned to a port in an enabled state, and to another than a given one. -/
def LitBeside (p : Fin 8) (s : State) : Prop := ∀ f : Fin 16, s.pool.phases[f].enabled = true →
  ∃ q : Fin 8, q ≠ p ∧ s.pool.phases[f].state = .assigned q ∧ isEnabledState s.ports[q].run.state = true

theorem LitBeside.lit (h : LitBeside p s) : Lit s := fun f hf => by
  obtain ⟨q, -, hq⟩ := h f hf
  exact ⟨q, hq⟩

theorem LitBeside.congr (h : LitBeside p s) (hpool : t.pool.phases = s.pool.phases)
    (hstate : ∀ q : Fin 8, q ≠ p → t.ports[q].run.state = s.ports[q].run.state) : LitBeside p t := fun f hf => by
  rw [hpool] at hf ⊢
  obtain ⟨q, hq, ha, he⟩ := h f hf
  exact ⟨q, hq, ha, by rwa [hstate q hq]⟩

theorem LitBeside.takePhases (h : LitBeside p s) (hq : q ≠ p) (n : Nat) : LitBeside p (takePhases q n s) := fun f hf => by
  have hports : (Machine.takePhases q n s).ports = s.ports := takePhases_ports ..
  simp only [hports]
  rw [takePhases_phase] at hf ⊢
  split at hf
  · next hmem =>
    refine ⟨q, hq, by rw [if_pos hmem, taken_state], ?_⟩
    by_contra hoff
    rw [taken, if_neg hoff] at hf
    obtain ⟨x, -, hx, -⟩ := h f hf
    rw [free_of_take hmem] at hx
    cases hx
  · next hmem =>
    rw [if_neg hmem]
    exact h f hf

theorem LitBeside.serveList (h : LitBeside p s) (ha : Absent p l) : LitBeside p (serveList l s) := by
  induction l generalizing s with
  | nil => exact h.congr (t := Machine.serveList [] s) rfl fun _ _ => rfl
  | cons x rest ih =>
    by_cases hfit : x.2 ≤ freeCount s
    · rw [serveList_fits hfit]
      refine ih ((h.takePhases (ha x List.mem_cons_self) x.2).congr rfl fun q _ => meetNeed_runState ..) ?_
      exact fun y hy => ha y (List.mem_cons_of_mem x hy)
    · rw [serveList_stays hfit]
      exact fun f hf => h f hf

theorem LitBeside.leaveQueue (h : LitBeside p s) : LitBeside p (leaveQueue p s) := by
  have hstart : LitBeside p (modPort p (fun q => { q with phases := { q.phases with need := none } })
      { s with pool := { s.pool with queue := others p s } }) := h.congr rfl fun q hq => by rw [modPort_other _ hq]
  rw [leaveQueue_eq]
  split
  · exact hstart.serveList others_absent
  · exact hstart

theorem LitBeside.releaseUnreserved (h : LitBeside p s) (ha : Absent p s.pool.queue) : LitBeside p (releaseUnreserved p s) := by
  unfold Machine.releaseUnreserved releaseAndServe
  split
  · have hrel : LitBeside p (releaseBeyond p s.ports[p].phases.reserved s) := fun f hf => by
      have hports : (releaseBeyond p s.ports[p].phases.reserved s).ports = s.ports := releaseBeyond_ports ..
      simp only [hports]
      rw [releaseBeyond_phase] at hf ⊢
      split at hf
      · rw [released] at hf
        rw [(disabled_off _).1] at hf
        cases hf
      · next hmem =>
        rw [if_neg hmem]
        exact h f hf
    exact hrel.serveList (by rw [releaseBeyond_queue]; exact ha)
  · exact h

theorem litBeside_disablePort (h : Lit s) : LitBeside p (disablePort p s) := fun f hf => by
  have hports : (disablePort p s).ports = s.ports := disablePort_ports ..
  simp only [hports]
  rw [disablePort_phase] at hf ⊢
  split at hf
  · rw [(disabled_off _).1] at hf
    cases hf
  · next hmem =>
    rw [if_neg hmem]
    obtain ⟨q, hq, he⟩ := h f hf
    refine ⟨q, fun heq => hmem (heq ▸ hq), hq, he⟩

/-- A fault of a port in a run leaves no phase of its own enabled. -/
theorem litBeside_faultBound (h : Lit s) : LitBeside p (faultBound p code s) := by
  have hport (x : State) (q : Fin 8) (hq : q ≠ p) (hw : PortWork false p s x) : x.ports[q].run.state = s.ports[q].run.state := by
    obtain ⟨hstate, -⟩ := hw.others q hq
    exact hstate
  have hrecorded : LitBeside p (recorded p code s) := by
    refine (litBeside_disablePort h).congr (by rw [recorded_pool]) fun q hq => ?_
    have hne : (q : Nat) ≠ p := fun he => hq (Fin.ext he)
    exact recorded_cases (P := fun x => x.ports[q].run.state = (disablePort p s).ports[q].run.state)
      (fun _ _ => by simp [hne]) fun _ => by simp [hne]
  have hleft : LitBeside p (abandoned p (recorded p code s)) := by
    have hcauses : LitBeside p (modRun p (fun r => { r with causes := .none }) (recorded p code s)) :=
      hrecorded.congr rfl fun q hq => by rw [modRun, modPort_other _ hq]
    refine hcauses.leaveQueue.congr rfl fun q hq => ?_
    simp only [abandoned, restartSettle, discardCapture, modIntake, modRun, modPort_other _ hq]
  obtain ⟨hgone, -⟩ := abandoned_recorded_pool p code s
  rw [faultBound_eq]
  refine (hleft.releaseUnreserved hgone.absent).congr (by rw [unbound_pool]) fun q hq => ?_
  have hne : (q : Nat) ≠ p := fun he => hq (Fin.ext he)
  simp [unbound, hne]

/-! ### What another port's turn leaves of a port -/

/-- Another port's work: it gives no phase to a port and takes none from it. -/
structure Outside (r : Fin 8) (s t : State) : Prop where
  queue : t.pool.queue = []
  phase : ∀ f : Fin 16, s.pool.phases[f].state ≠ .assigned r → t.pool.phases[f] = s.pool.phases[f]
  own : ∀ f : Fin 16, s.pool.phases[f].state = .assigned r →
    t.pool.phases[f].state = .assigned r ∨ t.pool.phases[f].state = .free

theorem Outside.trans (h : Outside r s t) (h' : Outside r t u) : Outside r s u where
  queue := h'.queue
  phase f hf := by rw [h'.phase f (by rwa [h.phase f hf]), h.phase f hf]
  own f hf := by
    rcases h.own f hf with ha | ha
    · exact h'.own f ha
    · rw [h'.phase f (by rw [ha]; simp)]
      exact .inr ha

theorem outside_of_pool (hq : s.pool.queue = []) (h : t.pool = s.pool) : Outside r s t :=
  ⟨by rw [h]; exact hq, fun f _ => by rw [h], fun f hf => .inl (by rw [h]; exact hf)⟩

theorem outside_disablePort (hq : s.pool.queue = []) : Outside r s (disablePort r s) := by
  refine ⟨by rwa [disablePort_queue], fun f hf => ?_, fun f hf => .inl (by rwa [disablePort_state])⟩
  rw [disablePort_phase, if_neg hf]

theorem outside_leaveQueue (hq : s.pool.queue = []) : Outside r s (leaveQueue r s) := by
  have hothers : others r s = [] := by rw [others, hq]; rfl
  rw [leaveQueue_eq, hothers]
  split
  · exact ⟨rfl, fun _ _ => rfl, fun _ hf => .inl hf⟩
  · exact ⟨rfl, fun _ _ => rfl, fun _ hf => .inl hf⟩

theorem outside_releaseUnreserved (hq : s.pool.queue = []) : Outside r s (releaseUnreserved r s) := by
  unfold releaseUnreserved releaseAndServe
  split
  · have hq' : (releaseBeyond r s.ports[r].phases.reserved s).pool.queue = [] := by rwa [releaseBeyond_queue]
    rw [PoolRows.serveQueue_empty hq']
    refine ⟨hq', fun f hf => ?_, fun f hf => ?_⟩
    · rw [releaseBeyond_phase, if_neg fun hmem => hf (assigned_of_drop hmem)]
    · rw [releaseBeyond_phase]
      split
      · exact .inr rfl
      · exact .inl hf
  · exact outside_of_pool hq rfl

theorem outside_faultBound (hq : s.pool.queue = []) : Outside r s (faultBound r code s) := by
  have hrecorded : Outside r s (recorded r code s) := by
    have h := outside_disablePort (r := r) hq
    exact h.trans (outside_of_pool h.queue recorded_pool)
  have hcauses := hrecorded.trans (outside_of_pool (t := modRun r (fun x => { x with causes := .none }) (recorded r code s))
    hrecorded.queue rfl)
  have hleave := hcauses.trans (outside_leaveQueue hcauses.queue)
  have hleft : Outside r s (abandoned r (recorded r code s)) := hleave.trans (outside_of_pool hleave.queue rfl)
  have hrel := hleft.trans (outside_releaseUnreserved hleft.queue)
  rw [faultBound_eq]
  exact hrel.trans (outside_of_pool hrel.queue unbound_pool)

/-- What the turns of the other ports leave of a port: its own items, its outcome and request, and, while no port waits, its gang. -/
structure Bystands (p : Fin 8) (s t : State) : Prop where
  own : sameOwnItems s.ports[p] t.ports[p]
  outcome : t.ports[p].run.outcome = s.ports[p].run.outcome
  request : t.ports[p].alloc.request = s.ports[p].alloc.request
  flags : FlagsRise s.cmd t.cmd
  pool : s.pool.queue = [] → t.pool.queue = [] ∧
    (∀ f : Fin 16, s.pool.phases[f].state = .assigned p ∨ s.pool.phases[f].state = .free → t.pool.phases[f] = s.pool.phases[f]) ∧
    ∀ f : Fin 16, t.pool.phases[f].state = .assigned p → s.pool.phases[f].state = .assigned p

theorem Bystands.refl (s : State) : Bystands p s s := ⟨.refl _, rfl, rfl, .refl _, fun h => ⟨h, fun _ _ => rfl, fun _ h => h⟩⟩

theorem Bystands.trans (h : Bystands p s t) (h' : Bystands p t u) : Bystands p s u where
  own := h.own.trans h'.own
  outcome := h'.outcome.trans h.outcome
  request := h'.request.trans h.request
  flags := h.flags.trans h'.flags
  pool hq := by
    obtain ⟨hqueue, hphase, hgang⟩ := h.pool hq
    obtain ⟨hqueue', hphase', hgang'⟩ := h'.pool hqueue
    refine ⟨hqueue', fun f hf => ?_, fun f hf => hgang f (hgang' f hf)⟩
    rw [hphase' f (by rwa [hphase f hf]), hphase f hf]

/-- Work of another port that leaves its phases with it or FREE. -/
theorem bystands_of_outside (hp : p ≠ r) (hw : PortWork false r s t) (ho : t.ports[p].run.outcome = s.ports[p].run.outcome)
    (hr : t.ports[p].alloc.request = s.ports[p].alloc.request) (h : s.pool.queue = [] → Outside r s t) : Bystands p s t := by
  refine ⟨hw.others p hp, ho, hr, hw.cmd, fun hq => ⟨(h hq).queue, fun f hf => (h hq).phase f ?_, fun f hf => ?_⟩⟩
  · rcases hf with hf | hf <;> rw [hf] <;> simp [hp]
  · by_cases ha : s.pool.phases[f].state = .assigned r
    · rcases (h hq).own f ha with h' | h' <;> rw [h'] at hf
      · exact absurd (PhaseState.assigned.inj hf).symm hp
      · cases hf
    · rwa [(h hq).phase f ha] at hf

theorem recorded_other (hp : p ≠ r) : (recorded r code s).ports[p] = s.ports[p] := by
  have hwrite : (writeFault r code (disablePort r s)).ports[p] = s.ports[p] := by
    rw [writeFault, modPort_other _ hp, disablePort_ports]
  refine recorded_cases (P := fun x => x.ports[p] = s.ports[p]) (fun _ _ => ?_) fun _ => hwrite
  rw [queueResult, raisePort_ports, modPort_other _ hp, hwrite]

theorem setBasis_other_request {b : Option Basis} (hp : p ≠ r) (s : State) :
    (setBasis r b s).ports[p].alloc.request = s.ports[p].alloc.request := by
  have hmod := modPort_other s hp (fun q => formRequest s.prot.limits.maxPower { q with alloc := { q.alloc with basis := b } })
  have hround (x : State) : (round x).ports[p].alloc.request = x.ports[p].alloc.request := by simp [Machine.round]
  rw [setBasis, hround, hmod]

theorem bystands_faultBound (hp : p ≠ r) : Bystands p s (faultBound r code s) := by
  have hne : (p : Nat) ≠ r := fun he => hp (Fin.ext he)
  have hrec := recorded_other (s := s) (code := code) hp
  simp only [Fin.getElem_fin] at hrec
  refine bystands_of_outside hp (faultBound_portWork code) ?_ ?_ outside_faultBound
  · rw [faultBound_eq]
    simp [unbound, abandoned, hne, hrec]
  · have hreq (x : State) : (unbound r x).ports[p].alloc.request = (releaseUnreserved r x).ports[p].alloc.request := by
      rw [← setBasis_other_request (b := none) hp (releaseUnreserved r x)]
      simp [unbound, hne]
    rw [faultBound_eq, hreq]
    simp [abandoned, hne, hrec]

/-! ### LOCKOUT at one port (R180) -/

theorem lockoutPort_bound (h : isBound s.ports[p].run.state = true) : lockoutPort p s = faultBound p .lockout s := by
  rw [lockoutPort, if_pos (.inl h), faultPort_bound h]

theorem lockoutPort_again (h : s.ports[p].run.state = .faulted) : lockoutPort p s = writeFault p .lockout s := by
  rw [lockoutPort, if_pos (.inr h), faultPort_again h]

theorem lockoutPort_idle (h : isBound s.ports[p].run.state = false) (h' : s.ports[p].run.state ≠ .faulted) : lockoutPort p s = s := by
  rw [lockoutPort, if_neg]
  rintro (hb | hf)
  · rw [h] at hb
    cases hb
  · exact h' hf

/-- The three kinds of port that LOCKOUT meets. -/
theorem lockoutPort_cases {P : State → Prop} (p : Fin 8) (s : State)
    (hb : isBound s.ports[p].run.state = true → P (faultBound p .lockout s))
    (hf : s.ports[p].run.state = .faulted → P (writeFault p .lockout s))
    (hi : isBound s.ports[p].run.state = false → s.ports[p].run.state ≠ .faulted → P s) : P (lockoutPort p s) := by
  cases hbound : isBound s.ports[p].run.state
  · by_cases hfault : s.ports[p].run.state = .faulted
    · rw [lockoutPort_again hfault]
      exact hf hfault
    · rw [lockoutPort_idle hbound hfault]
      exact hi hbound hfault
  · rw [lockoutPort_bound hbound]
    exact hb hbound

theorem bystands_lockoutPort (hp : p ≠ r) (s : State) : Bystands p s (lockoutPort r s) := by
  refine lockoutPort_cases r s (fun _ => bystands_faultBound hp) (fun _ => ?_) fun _ _ => .refl s
  have hport : (writeFault r .lockout s).ports[p] = s.ports[p] := by rw [writeFault, modPort_other _ hp]
  exact ⟨by rw [hport]; exact .refl _, by rw [hport], by rw [hport], .refl _, fun hq => ⟨hq, fun _ _ => rfl, fun _ h => h⟩⟩

theorem lit_lockoutPort (h : Lit s) (p : Fin 8) : Lit (lockoutPort p s) := by
  refine lockoutPort_cases p s (fun _ => (litBeside_faultBound h).lit) (fun _ f hf => ?_) fun _ _ => h
  obtain ⟨q, hq, he⟩ := h f hf
  have hstate : (writeFault p .lockout s).ports[q].run.state = s.ports[q].run.state := by
    rw [writeFault, modPort_port]
    split
    · next heq => rw [heq, recordFault_run]
    · rfl
  exact ⟨q, hq, by rwa [hstate]⟩

theorem lockoutPort_state (p : Fin 8) (s : State) : isEnabledState (lockoutPort p s).ports[p].run.state = false := by
  refine lockoutPort_cases (P := fun x => isEnabledState x.ports[p].run.state = false) p s (fun _ => ?_) (fun hf => ?_) fun hb _ => ?_
  · obtain ⟨-, -, -, -, hstate, -⟩ := faultBound_faulted (code := .lockout) (by simp) p s
    rw [hstate]
    rfl
  · rw [writeFault, modPort_self, recordFault_run, hf]
    rfl
  · revert hb
    generalize s.ports[p].run.state = st
    cases st <;> simp [isBound, isEnabledState]

/-- LOCKOUT has reached every port. -/
def reached (s : State) : State := forPorts lockoutPort s

theorem reached_turn (p : Fin 8) (s : State) : ∃ t, Bystands p s t ∧ Bystands p (lockoutPort p t) (reached s) :=
  forPorts_turn .refl .trans (fun _ hr t => bystands_lockoutPort hr.symm t) s

theorem reached_state (p : Fin 8) (s : State) : isEnabledState (reached s).ports[p].run.state = false := by
  obtain ⟨t, -, hend⟩ := reached_turn p s
  obtain ⟨hstate, -⟩ := hend.own
  rw [hstate, lockoutPort_state]

theorem reached_lit (h : Lit s) : Lit (reached s) :=
  forPorts_keep (g := lockoutPort) (K := fun t u => Lit t → Lit u) (fun _ => id) (fun hab hbc ha => hbc (hab ha))
    (fun p _ ht => lit_lockoutPort ht p) s h

/-- No phase is left enabled. -/
theorem reached_dark (h : ∀ f : Fin 16, s.pool.phases[f].enabled = false) (f : Fin 16) :
    (reached s).pool.phases[f].enabled = false := by
  have hlit : Lit (reached s) := reached_lit fun f hf => absurd ((h f).symm.trans hf) (by simp)
  have hstate (q : Fin 8) := reached_state q s
  generalize reached s = u at *
  cases hon : u.pool.phases[f].enabled
  · rfl
  · obtain ⟨q, -, he⟩ := hlit f hon
    exact absurd ((hstate q).symm.trans he) (by simp)

/-! ### One port after LOCKOUT -/

theorem Bystands.gang (h : Bystands p s t) (hq : s.pool.queue = []) : gang p t = gang p s := by
  obtain ⟨-, hphase, hgang⟩ := h.pool hq
  exact gang_congr fun f => ⟨hgang f, fun hf => by rw [hphase f (.inl hf), hf]⟩

/-- A port of a run after LOCKOUT, by what its own turn does. -/
theorem reached_bound (hb : isBound s.ports[p].run.state = true) :
    let x := (reached s).ports[p]
    x.run.state = .faulted ∧ x.run.program = none ∧ x.run.applied = 0 ∧ flagged p .fault (reached s) ∧
    x.run.outcome = .faulted ∧ x.run.causes = .none ∧ x.alloc.request = 0 ∧
    (hasStep s.ports[p].run.state = true → flagged p .stepEnd (reached s) ∧
      ∃ y, x.results.getLast? = some y ∧ y.reason = .lockout) ∧
    (hasStep s.ports[p].run.state = false → x.results = s.ports[p].results) ∧
    (s.pool.queue = [] → Machine.gang p (reached s) = (Machine.gang p s).take s.ports[p].phases.reserved ∧
      enablesFall p s (reached s)) ∧
    (s.ports[p].prot.fault = none → ∃ r, x.prot.fault = some r ∧ r.code = .lockout) ∧
    (s.ports[p].ident.bound ≠ none → x.acct.unfolded = .cleared) := by
  obtain ⟨t, hbefore, hafter⟩ := reached_turn p s
  obtain ⟨hstate, -, -, -, -, -, -, hresults, -, -, -, hident, hprot, -, hres⟩ := hbefore.own
  have hbt : isBound t.ports[p].run.state = true := by rw [hstate]; exact hb
  obtain ⟨hfall, ⟨hgang, -, -⟩, hstep, hnostep, hst, hout, hcauses, hprog, happ, -, hreq, hflag⟩ :=
    faultBound_faulted (code := .lockout) (by simp) p t
  have hfault := faultBound_fault p .lockout t
  have hunfolded (e : Fin 64) (he : t.ports[p].ident.bound = some e) := faultBound_unfolded (code := .lockout) he
  have houtside (hq : t.pool.queue = []) := outside_faultBound (r := p) (code := .lockout) hq
  rw [lockoutPort_bound hbt] at hafter
  generalize faultBound p .lockout t = u at *
  generalize reached s = v at *
  obtain ⟨kstate, kprog, -, -, kcauses, kapp, -, kresults, -, -, kacct, -, kprot, -, -⟩ := hafter.own
  rw [hstate] at hstep hnostep
  rw [hresults] at hnostep
  refine ⟨kstate.trans hst, kprog.trans hprog, kapp.trans happ, hafter.flags.flagged hflag, hafter.outcome.trans hout,
    kcauses.trans hcauses, hafter.request.trans hreq, fun hs => ?_, fun hs => kresults.trans (hnostep hs), fun hq => ?_,
    fun hn => ?_, fun hn => ?_⟩
  · obtain ⟨hend, y, hlast, hreason, -⟩ := hstep hs
    exact ⟨hafter.flags.flagged hend, y, by rw [kresults]; exact hlast, hreason⟩
  · obtain ⟨hqt, hsame, -⟩ := hbefore.pool hq
    have hout := houtside hqt
    obtain ⟨-, hsame', -⟩ := hafter.pool hout.queue
    rw [hafter.gang hout.queue, hgang, hbefore.gang hq, hres]
    refine ⟨rfl, fun f hf => ?_⟩
    have hft : f ∈ Machine.gang p t := by rw [hbefore.gang hq]; exact hf
    have hph : v.pool.phases[f] = u.pool.phases[f] := hsame' f (hout.own f (mem_gang.mp hft))
    obtain ⟨hwatch, hdown⟩ := hfall f hft
    rw [hsame f (.inl (mem_gang.mp hf))] at hwatch
    rw [hph]
    exact ⟨hwatch, fun hv => hdown (by rwa [hafter.gang hout.queue] at hv)⟩
  · rw [kprot, hfault]
    exact ⟨_, recordFault_first _ _ _ (by rw [hprot]; exact hn), rfl⟩
  · obtain ⟨e, he⟩ := Option.ne_none_iff_exists'.mp hn
    rw [kacct]
    exact hunfolded e (by rw [hident]; exact he)

/-- A port that was FAULTED before counts one fault more. -/
theorem reached_faulted (hf : s.ports[p].run.state = .faulted) :
    let x := (reached s).ports[p]
    x.run.state = .faulted ∧ (∀ r, s.ports[p].prot.fault = some r →
      x.prot.fault = some { r with additional := min 255 (r.additional + 1) }) ∧ x.ident = s.ports[p].ident := by
  obtain ⟨t, hbefore, hafter⟩ := reached_turn p s
  obtain ⟨hstate, -, -, -, -, -, -, -, -, -, -, hident, hprot, -⟩ := hbefore.own
  have hft : t.ports[p].run.state = .faulted := by rw [hstate, hf]
  rw [lockoutPort_again hft] at hafter
  generalize reached s = v at *
  obtain ⟨kstate, -, -, -, -, -, -, -, -, -, -, kident, kprot, -⟩ := hafter.own
  rw [writeFault, modPort_self] at kstate kident kprot
  rw [recordFault_run] at kstate
  rw [recordFault_ident] at kident
  refine ⟨kstate.trans hft, fun r hr => ?_, kident.trans hident⟩
  rw [kprot]
  exact (recordFault_further _ _ _ r (by rw [hprot]; exact hr)).1

/-- An idle port is as it was. -/
theorem reached_idle (hi : isIdle s.ports[p].run.state = true) :
    let x := (reached s).ports[p]
    x.run.state = s.ports[p].run.state ∧ x.run.outcome = s.ports[p].run.outcome ∧ x.prot = s.ports[p].prot ∧
    x.ident = s.ports[p].ident := by
  obtain ⟨t, hbefore, hafter⟩ := reached_turn p s
  obtain ⟨hstate, -, -, -, -, -, -, -, -, -, -, hident, hprot, -⟩ := hbefore.own
  have hit : isIdle t.ports[p].run.state = true := by rw [hstate]; exact hi
  rw [lockoutPort_idle (isBound_of_isIdle hit) (fun hf => by rw [hf] at hit; cases hit)] at hafter
  generalize reached s = v at *
  obtain ⟨kstate, -, -, -, -, -, -, -, -, -, -, kident, kprot, -⟩ := hafter.own
  exact ⟨kstate.trans hstate, hafter.outcome.trans hbefore.outcome, kprot.trans hprot, kident.trans hident⟩

end

end Sys2Proof.Lockout
end

section
/-! PROOFS. Lockout entry whole (R161, R180, R181), and the events that are lockout causes. -/

open Sys2Proof Sys2Proof.Machine Sys2Proof.Indexing Sys2Proof.PoolPhases Sys2Proof.Faults Sys2Proof.FaultPaths Sys2Proof.Turns
open Sys2Proof.PowerOn Sys2Proof.Lockout

namespace Sys2Proof.LockoutRows

section
variable {p q r : Fin 8} {i : Instr} {s t u y : State} {f : Fin 16} {cause : LogCause} {phase : Option (Fin 16)}

/-! ### The parts of a lockout entry -/

/-- The contactor opened where it is not OPEN (R180, item 2). -/
def linkOf (x : Protection) : Protection := if x.contactor = .opened then x else openLink x

/-- Every phase disabled and the contactor OPEN, the cooldown begun. -/
def secured (s : State) : State :=
  let t := allDisabled (startCooldown s)
  if t.prot.contactor = .opened then t else { t with prot := openLink t.prot }

/-- The ports that were in no run fold. -/
def idleFolded (s t : State) : State := forPorts (fun p u => if isBound s.ports[p].run.state then u else fold p u) t

theorem enterLockout_eq (cause : LogCause) (phase : Option (Fin 16)) (s : State) : enterLockout cause phase s =
    startCooldown (raiseCabinet .lockout (appendLog cause phase .lockoutEntered (idleFolded s (reached (secured s))))) := rfl

theorem secured_prot (s : State) : (secured s).prot = linkOf { s.prot with cabinet := .cooldown 5000 } := by
  have h : (allDisabled (startCooldown s)).prot = { s.prot with cabinet := .cooldown 5000 } := (allDisabled_poolWork _).prot
  unfold secured linkOf
  dsimp only
  rw [h]
  split
  · exact h
  · rfl

theorem secured_pool (s : State) : (secured s).pool = (allDisabled (startCooldown s)).pool := by
  unfold secured
  dsimp only
  split <;> rfl

theorem secured_ports (s : State) : (secured s).ports = s.ports := by
  have h : (allDisabled (startCooldown s)).ports = s.ports := allDisabled_ports _
  unfold secured
  dsimp only
  split <;> exact h

theorem secured_phase (s : State) (f : Fin 16) : (secured s).pool.phases[f] = disabled s.pool.phases[f] := by
  rw [secured_pool, allDisabled_phase]
  rfl

theorem secured_queue (s : State) : (secured s).pool.queue = s.pool.queue := by
  rw [secured_pool]
  exact foldl_queue (fun u f => disablePhase f u) (fun _ _ => rfl) _ _

/-! ### The folds -/

/-- What the folds leave of a port. -/
structure Folded (p : Fin 8) (s t : State) : Prop where
  port : ∃ x, t.ports[p] = { s.ports[p] with acct := { s.ports[p].acct with unfolded := x } } ∧
    (s.ports[p].acct.unfolded = .cleared → x = .cleared)
  pool : t.pool = s.pool
  cmd : t.cmd = s.cmd
  prot : t.prot = s.prot

theorem Folded.refl (s : State) : Folded p s s := ⟨⟨_, rfl, id⟩, rfl, rfl, rfl⟩

theorem Folded.trans (h : Folded p s t) (h' : Folded p t u) : Folded p s u := by
  obtain ⟨⟨x, hx, hc⟩, hpool, hcmd, hprot⟩ := h
  obtain ⟨⟨x', hx', hc'⟩, hpool', hcmd', hprot'⟩ := h'
  refine ⟨⟨x', ?_, fun h => hc' ?_⟩, hpool'.trans hpool, hcmd'.trans hcmd, hprot'.trans hprot⟩
  · rw [hx', hx]
  · rw [hx]
    exact hc h

theorem fold_other (hp : p ≠ r) (s : State) : (fold r s).ports[p] = s.ports[p] := by
  cases hb : s.ports[r].ident.bound with
  | none => rw [fold_unbound hb]
  | some e => rw [fold_bound hb, modAcct, modPort_other _ hp, modEntry_ports]

theorem folded_fold (r : Fin 8) (s : State) : Folded p s (fold r s) := by
  refine ⟨?_, fold_pool .., fold_cmd .., fold_prot ..⟩
  by_cases hp : p = r
  · subst hp
    refine ⟨_, fold_port p s, fun h => ?_⟩
    rw [h, ite_self]
  · exact ⟨_, fold_other hp s, id⟩

theorem idleFolded_folded (p : Fin 8) (s t : State) : Folded p t (idleFolded s t) := by
  refine forPorts_keep .refl .trans (fun r u => ?_) t
  split
  · exact .refl u
  · exact folded_fold r u

/-- A port outside a run with an entry bound has folded. -/
theorem idleFolded_cleared (hi : isBound s.ports[p].run.state = false) (hb : t.ports[p].ident.bound ≠ none) :
    (idleFolded s t).ports[p].acct.unfolded = .cleared := by
  obtain ⟨u, hbefore, hafter⟩ := forPorts_turn (q := p) (K := Folded p)
    (g := fun p u => if isBound s.ports[p].run.state then u else fold p u) .refl .trans (fun r _ u => by
      split
      · exact .refl u
      · exact folded_fold r u) t
  obtain ⟨x, hx, -⟩ := hbefore.port
  obtain ⟨y, hy, hclear⟩ := hafter.port
  change (idleFolded s t).ports[p] = _ at hy
  rw [hy]
  refine hclear ?_
  rw [hi, if_neg (by simp), fold_port, hx]
  exact if_pos (Option.isSome_iff_ne_none.mpr hb)

/-! ### The log and the cooldown -/

/-- A cause is logged and flagged and the cooldown begins (R180, R181, R185). -/
def logged (cause : LogCause) (phase : Option (Fin 16)) (effect : LogEffect) (s : State) : State :=
  startCooldown (raiseCabinet .lockout (appendLog cause phase effect s))

/-- What logging leaves of the link. -/
theorem logged_prot (effect : LogEffect) (s : State) :
    let x := (logged cause phase effect s).prot
    x.cabinet = .cooldown 5000 ∧ x.contactor = s.prot.contactor ∧ x.drive = s.prot.drive ∧ x.closingWatch = s.prot.closingWatch ∧
    x.openingWatch = s.prot.openingWatch ∧ x.feedbackClosed = s.prot.feedbackClosed := by
  unfold logged appendLog
  dsimp only [startCooldown, raiseCabinet]
  split <;> exact ⟨rfl, rfl, rfl, rfl, rfl, rfl⟩

theorem logged_log (effect : LogEffect) (s : State) :
    (s.prot.log.length < 8 → (logged cause phase effect s).prot.overflow = s.prot.overflow ∧
      (logged cause phase effect s).prot.log = s.prot.log ++ [⟨cause, phase, s.prot.time, effect⟩]) ∧
    (8 ≤ s.prot.log.length → (logged cause phase effect s).prot.log = s.prot.log ∧
      (logged cause phase effect s).prot.overflow = min 65535 (s.prot.overflow + 1)) := by
  unfold logged appendLog
  dsimp only [startCooldown, raiseCabinet]
  refine ⟨fun h => ?_, fun h => ?_⟩
  · rw [if_pos h]
    exact ⟨rfl, rfl⟩
  · rw [if_neg (Nat.not_lt.mpr h)]
    exact ⟨rfl, rfl⟩

theorem logged_flagged (effect : LogEffect) (s : State) : cabinetFlagged .lockout (logged cause phase effect s) :=
  cabinetFlagged_raiseCabinet ..

theorem logged_port_flagged {g : PortFlag} {effect : LogEffect} (h : flagged p g s) : flagged p g (logged cause phase effect s) := h

theorem logged_ports (effect : LogEffect) (s : State) : (logged cause phase effect s).ports = s.ports := rfl

theorem logged_pool (effect : LogEffect) (s : State) : (logged cause phase effect s).pool = s.pool := rfl

theorem logged_rest (effect : LogEffect) (s : State) : (logged cause phase effect s).history = s.history ∧
    (logged cause phase effect s).headers = s.headers := ⟨rfl, rfl⟩

theorem lockoutCause_further (h : s.prot.cabinet ≠ .normal) : lockoutCause cause phase s = logged cause phase .duringLockout s :=
  if_pos (by simp [inLockout, h])

theorem lockoutCause_enters (h : s.prot.cabinet = .normal) :
    lockoutCause cause phase s = logged cause phase .lockoutEntered (idleFolded s (reached (secured s))) :=
  if_neg (by simp [inLockout, h])

theorem reached_prot (s : State) : (reached s).prot = s.prot :=
  forPorts_keep (g := lockoutPort) (K := fun t u => u.prot = t.prot) (fun _ => rfl) (fun hab hbc => hbc.trans hab)
    (fun p t => lockoutPort_cases (P := fun u => u.prot = t.prot) p t
      (fun _ => (faultBound_portWork (b := false) .lockout).prot) (fun _ => rfl) fun _ _ => rfl) s

/-! ### A cause in NORMAL, seen from before its row -/

/-- What the row of a lockout cause does before it reports the cause: it touches no port, and of the phases and the link only what
the cause itself is. -/
structure Primed (i : Instr) (s y : State) : Prop where
  ports : y.ports = s.ports
  history : y.history = s.history
  headers : y.headers = s.headers
  queue : y.pool.queue = s.pool.queue
  cabinet : y.prot.cabinet = s.prot.cabinet
  log : y.prot.log = s.prot.log
  overflow : y.prot.overflow = s.prot.overflow
  time : y.prot.time = s.prot.time
  feedback : y.prot.feedbackClosed = true ↔ i = .feedbackClose ∨ (s.prot.feedbackClosed = true ∧ i ≠ .feedbackOpen)
  opens : s.prot.contactor ≠ .opened → (linkOf y.prot).drive = false ∧ (linkOf y.prot).closingWatch = none ∧
    (linkOf y.prot).openingWatch = if y.prot.feedbackClosed then some 0 else none
  stays : s.prot.contactor = .opened → y.prot.contactor = .opened ∧ y.prot.drive = s.prot.drive ∧
    y.prot.closingWatch = s.prot.closingWatch ∧
    y.prot.openingWatch = if i = .openingWatchExpiry then none else s.prot.openingWatch
  state : ∀ f : Fin 16, y.pool.phases[f].state = s.pool.phases[f].state
  watch : (∀ f, i ≠ .ackWatchExpiry f) → ∀ f : Fin 16, (disabled y.pool.phases[f]).watch = (disabled s.pool.phases[f]).watch

theorem linkOf_contactor (x : Protection) : (linkOf x).contactor = .opened := by
  unfold linkOf
  split
  · next h => exact h
  · rfl

theorem linkOf_openLink (x : Protection) : linkOf (openLink x) = openLink x := if_pos rfl

theorem linkOf_feedback (x : Protection) : (linkOf x).feedbackClosed = x.feedbackClosed := by
  unfold linkOf
  split <;> rfl

theorem linkOf_cabinet (x : Protection) (c : CabinetState) : linkOf { x with cabinet := c } = { linkOf x with cabinet := c } := by
  unfold linkOf
  dsimp only
  split <;> rfl

theorem linkOf_log (x : Protection) : (linkOf x).log = x.log ∧ (linkOf x).overflow = x.overflow ∧ (linkOf x).time = x.time := by
  unfold linkOf
  split <;> exact ⟨rfl, rfl, rfl⟩

/-- The state that LOCKOUT and the folds leave, before the cause is logged. -/
def struck (s : State) : State := idleFolded s (reached (secured s))

theorem struck_prot (s : State) : (struck s).prot = { linkOf s.prot with cabinet := .cooldown 5000 } := by
  rw [struck, (idleFolded_folded 0 _ _).prot, reached_prot, secured_prot, linkOf_cabinet]

theorem struck_pool (s : State) : (struck s).pool = (reached (secured s)).pool := (idleFolded_folded 0 _ _).pool

theorem struck_cmd (s : State) : (struck s).cmd = (reached (secured s)).cmd := (idleFolded_folded 0 _ _).cmd

theorem struck_flagged {g : PortFlag} (h : flagged p g (reached (secured s))) : flagged p g (struck s) := by
  unfold flagged
  rw [struck_cmd]
  exact h

theorem struck_dark (s : State) (f : Fin 16) : (struck s).pool.phases[f].enabled = false := by
  rw [struck_pool]
  refine reached_dark (fun f => ?_) f
  rw [secured_phase]
  exact (disabled_off _).1

/-- Every port but for its unfolded set is as LOCKOUT left it. -/
theorem struck_port (p : Fin 8) (s : State) : ∃ x, (struck s).ports[p] =
    { (reached (secured s)).ports[p] with acct := { (reached (secured s)).ports[p].acct with unfolded := x } } ∧
    ((reached (secured s)).ports[p].acct.unfolded = .cleared → x = .cleared) := (idleFolded_folded p _ _).port

theorem struck_gang (p : Fin 8) (s : State) : gang p (struck s) = gang p (reached (secured s)) :=
  gang_congr fun f => by rw [struck_pool]

theorem secured_gang (p : Fin 8) (s : State) : gang p (secured s) = gang p s :=
  gang_congr fun f => by rw [secured_phase, disabled_state]

/-- The enables of a port that fell with the cabinet's, and stay down. -/
theorem struck_enablesFall (h : Primed i s y) (hi : ∀ f, i ≠ .ackWatchExpiry f)
    (hfall : enablesFall p (secured y) (reached (secured y))) : enablesFall p s (struck y) := by
  intro f hf
  have hmem : f ∈ gang p (secured y) := by
    rw [secured_gang, mem_gang, h.state]
    exact mem_gang.mp hf
  obtain ⟨hwatch, hdown⟩ := hfall f hmem
  rw [secured_phase] at hwatch
  rw [struck_pool, struck_gang]
  refine ⟨?_, hdown⟩
  rw [hwatch, ← disabled_watch, disabled_watch_again, h.watch hi f, disabled_watch]

theorem struck_bound (hb : isBound s.ports[p].run.state = true) :
    let x := (struck s).ports[p]
    x.run.state = .faulted ∧ x.run.program = none ∧ x.run.applied = 0 ∧ flagged p .fault (struck s) ∧
    x.run.outcome = .faulted ∧ x.run.causes = .none ∧ x.alloc.request = 0 ∧
    (hasStep s.ports[p].run.state = true → flagged p .stepEnd (struck s) ∧
      ∃ y, x.results.getLast? = some y ∧ y.reason = .lockout) ∧
    (s.ports[p].run.state = .ending → x.results = s.ports[p].results) ∧
    (s.ports[p].prot.fault = none → ∃ r, x.prot.fault = some r ∧ r.code = .lockout) := by
  have hs : (secured s).ports[p] = s.ports[p] := by rw [secured_ports]
  obtain ⟨hst, hprog, happ, hflag, hout, hcauses, hreq, hstep, hnostep, -, hfault, -⟩ :=
    reached_bound (p := p) (s := secured s) (by rw [hs]; exact hb)
  obtain ⟨z, hz, -⟩ := struck_port p s
  rw [hs] at hstep hnostep hfault
  have hlift {g : PortFlag} : flagged p g (reached (secured s)) → flagged p g (struck s) := struck_flagged
  generalize struck s = v at *
  generalize reached (secured s) = w at *
  dsimp only
  rw [hz]
  exact ⟨hst, hprog, happ, hlift hflag, hout, hcauses, hreq, fun h => ⟨hlift (hstep h).1, (hstep h).2⟩,
    fun h => hnostep (by rw [h]; rfl), hfault⟩

theorem struck_unfolded (hn : s.ports[p].ident.bound ≠ none) : (struck s).ports[p].acct.unfolded = .cleared := by
  have hs : (secured s).ports[p] = s.ports[p] := by rw [secured_ports]
  cases hb : isBound s.ports[p].run.state
  · refine idleFolded_cleared hb ?_
    by_cases hf : s.ports[p].run.state = .faulted
    · obtain ⟨-, -, hid⟩ := reached_faulted (p := p) (s := secured s) (by rw [hs]; exact hf)
      rw [hid, hs]
      exact hn
    · have hi : isIdle s.ports[p].run.state = true := by
        revert hb hf
        generalize s.ports[p].run.state = st
        cases st <;> simp [isBound, isIdle]
      obtain ⟨-, -, -, hid⟩ := reached_idle (p := p) (s := secured s) (by rw [hs]; exact hi)
      rw [hid, hs]
      exact hn
  · obtain ⟨-, -, -, -, -, -, -, -, -, -, -, hclear⟩ := reached_bound (p := p) (s := secured s) (by rw [hs]; exact hb)
    obtain ⟨z, hz, hz'⟩ := struck_port p s
    rw [hs] at hclear
    generalize struck s = v at *
    generalize reached (secured s) = w at *
    rw [hz]
    exact hz' (hclear hn)

theorem struck_bound_pool (h : Primed i s y) (hb : isBound s.ports[p].run.state = true) (hq : s.pool.queue = []) :
    gang p (struck y) = (gang p s).take s.ports[p].phases.reserved ∧
    ((∀ f, i ≠ .ackWatchExpiry f) → enablesFall p s (struck y)) := by
  have hs : (secured y).ports[p] = s.ports[p] := by rw [secured_ports, h.ports]
  obtain ⟨-, -, -, -, -, -, -, -, -, hpool, -⟩ := reached_bound (p := p) (s := secured y) (by rw [hs]; exact hb)
  obtain ⟨hgang, hfall⟩ := hpool (by rw [secured_queue, h.queue, hq])
  have hstart : gang p (secured y) = gang p s := (secured_gang p y).trans (gang_congr fun f => by rw [h.state])
  rw [hstart, hs] at hgang
  exact ⟨(struck_gang p y).trans hgang, fun hi => struck_enablesFall h hi hfall⟩

theorem struck_faulted (hf : s.ports[p].run.state = .faulted) : (struck s).ports[p].run.state = .faulted ∧
    ∀ r, s.ports[p].prot.fault = some r →
      (struck s).ports[p].prot.fault = some { r with additional := min 255 (r.additional + 1) } := by
  have hs : (secured s).ports[p] = s.ports[p] := by rw [secured_ports]
  obtain ⟨hst, hrec, -⟩ := reached_faulted (p := p) (s := secured s) (by rw [hs]; exact hf)
  obtain ⟨z, hz, -⟩ := struck_port p s
  rw [hs] at hrec
  generalize struck s = v at *
  generalize reached (secured s) = w at *
  rw [hz]
  exact ⟨hst, hrec⟩

theorem struck_idle (hi : isIdle s.ports[p].run.state = true) : (struck s).ports[p].run.state = s.ports[p].run.state ∧
    (struck s).ports[p].run.outcome = s.ports[p].run.outcome ∧ (struck s).ports[p].prot = s.ports[p].prot := by
  have hs : (secured s).ports[p] = s.ports[p] := by rw [secured_ports]
  obtain ⟨hst, hout, hprot, -⟩ := reached_idle (p := p) (s := secured s) (by rw [hs]; exact hi)
  obtain ⟨z, hz, -⟩ := struck_port p s
  rw [hs] at hst hout hprot
  generalize struck s = v at *
  generalize reached (secured s) = w at *
  rw [hz]
  exact ⟨hst, hout, hprot⟩

/-! ### The rows -/

/-- The watch that a disable leaves is the same where a phase keeps its watch and, enabled, its active level. -/
theorem disabled_watch_congr {x z : Phase} (he : z.enabled = x.enabled) (hw : z.watch = x.watch)
    (ha : x.enabled = true → z.activeHigh = x.activeHigh) : (disabled z).watch = (disabled x).watch := by
  rw [disabled_watch, disabled_watch, he, hw]
  by_cases hx : x.enabled = true
  · rw [ha hx]
  · simp [hx]

/-- A cause of the phase pool. -/
theorem primed_modPhase {g : Phase → Phase} (hg : ∀ x, (g x).state = x.state)
    (hw : (∀ f, i ≠ .ackWatchExpiry f) → (disabled (g s.pool.phases[f])).watch = (disabled s.pool.phases[f]).watch)
    (hi : i ≠ .feedbackClose ∧ i ≠ .feedbackOpen ∧ i ≠ .openingWatchExpiry) : Primed i s (modPhase f g s) := by
  obtain ⟨h1, h2, h3⟩ := hi
  refine ⟨rfl, rfl, rfl, rfl, rfl, rfl, rfl, rfl, ?_, fun ho => ?_, fun ho => ⟨ho, rfl, rfl, by rw [if_neg h3]; rfl⟩, fun k => ?_,
    fun hn k => ?_⟩
  · simp [h1, h2]
  · have hl : linkOf s.prot = openLink s.prot := if_neg ho
    change (linkOf s.prot).drive = false ∧ (linkOf s.prot).closingWatch = none ∧ (linkOf s.prot).openingWatch = _
    rw [hl]
    exact ⟨rfl, rfl, rfl⟩
  · rw [modPhase_phase]
    split
    · next h => rw [hg]
    · rfl
  · rw [modPhase_phase]
    split
    · next h =>
      subst h
      exact hw hn
    · rfl

/-- Each lockout cause is reported from a state that its row has changed by the event alone. -/
theorem primed_row (h : (∃ f n, i = .ackWatchExpiry f ∧ s.pool.phases[f].watch = some n ∧ 2 ≤ n ∧ cause = .disableAckFailure ∧
      phase = some f) ∨
    (∃ f, i = .activeLineRise f ∧ s.pool.phases[f].activeHigh = false ∧ s.pool.phases[f].enabled = false ∧
      s.pool.phases[f].watch = none ∧ cause = .disableAckFailure ∧ phase = some f) ∨
    (∃ n, i = .openingWatchExpiry ∧ s.prot.openingWatch = some n ∧ 200 ≤ n ∧ cause = .contactorStuck ∧ phase = none) ∨
    (i = .feedbackOpen ∧ s.prot.contactor = .closed ∧ s.prot.feedbackClosed = true ∧ cause = .linkDropped ∧ phase = none) ∨
    (i = .feedbackClose ∧ s.prot.contactor = .opened ∧ s.prot.feedbackClosed = false ∧ s.prot.openingWatch = none ∧
      s.prot.closingExpired = false ∧ cause = .contactorStuck ∧ phase = none)) :
    ∃ y, exec i s = .next (lockoutCause cause phase y) ∧ Primed i s y := by
  rcases h with ⟨f, n, rfl, hw, hn, rfl, rfl⟩ | ⟨f, rfl, hlow, hoff, hw, rfl, rfl⟩ | ⟨n, rfl, hw, hn, rfl, rfl⟩ |
    ⟨rfl, hc, hf, rfl, rfl⟩ | ⟨rfl, hc, hf, hw, he, rfl, rfl⟩
  · refine ⟨modPhase f (fun ph => { ph with watch := none }) s, congrArg Host.Outcome.next ?_,
      primed_modPhase (fun _ => rfl) (fun h => absurd rfl (h f)) ⟨nofun, nofun, nofun⟩⟩
    simp only [expireWatch, hw, if_neg (Nat.not_lt.mpr hn)]
  · refine ⟨modPhase f (fun x => { x with activeHigh := true }) s, congrArg Host.Outcome.next ?_,
      primed_modPhase (fun _ => rfl) (fun _ => disabled_watch_congr rfl rfl fun h => ?_) ⟨nofun, nofun, nofun⟩⟩
    · simp only [riseActive, hlow, hoff, hw, Bool.false_eq_true, if_false, not_false_eq_true, Option.isNone_none, and_self, if_true]
    · rw [hoff] at h
      cases h
  · refine ⟨{ s with prot := { s.prot with openingWatch := none } }, congrArg Host.Outcome.next ?_, rfl, rfl, rfl, rfl, rfl, rfl, rfl,
      rfl, ?_, fun ho => ?_, fun ho => ⟨ho, rfl, rfl, by rw [if_pos rfl]⟩, fun _ => rfl, fun _ _ => rfl⟩
    · simp only [expireOpening, hw, if_neg (Nat.not_lt.mpr hn)]
    · simp
    · rw [linkOf, if_neg ho]
      exact ⟨rfl, rfl, rfl⟩
  · refine ⟨{ s with prot := openLink { s.prot with feedbackClosed := false } }, congrArg Host.Outcome.next ?_, rfl, rfl, rfl, rfl,
      rfl, rfl, rfl, rfl, ?_, fun ho => ?_, fun ho => ?_, fun _ => rfl, fun _ _ => rfl⟩
    · simp only [openFeedback, hf, hc, not_true_eq_false, if_false]
    · simp [openLink]
    · rw [linkOf_openLink]
      exact ⟨rfl, rfl, rfl⟩
    · rw [hc] at ho
      cases ho
  · refine ⟨{ s with prot := { s.prot with feedbackClosed := true } }, congrArg Host.Outcome.next ?_, rfl, rfl, rfl, rfl,
      rfl, rfl, rfl, rfl, ?_, fun ho => absurd hc ho, fun _ => ⟨hc, rfl, rfl, by rw [if_neg (by simp)]⟩, fun _ => rfl, fun _ _ => rfl⟩
    · simp only [closeFeedback, hf, hc, hw, he, Bool.false_eq_true, if_false, Option.isSome_none]
    · simp

/-- Settles O52: each row reports its cause from a primed state, in NORMAL by a lockout entry and in LOCKOUT by the log alone. -/
theorem lockoutEntered : Obligations.LockoutEntered := by
  intro i s cause phase hcases
  obtain ⟨y, hrow, hy⟩ := primed_row hcases
  have hportsEq (p : Fin 8) : y.ports[p] = s.ports[p] := by rw [hy.ports]
  by_cases hn : s.prot.cabinet = .normal
  · have hyn : y.prot.cabinet = .normal := hy.cabinet.trans hn
    rw [lockoutCause_enters hyn] at hrow
    change exec i s = .next (logged cause phase .lockoutEntered (struck y)) at hrow
    obtain ⟨hcab, hcon, hdrive, hclosing, hopening, hfeed⟩ := logged_prot (cause := cause) (phase := phase) .lockoutEntered (struck y)
    obtain ⟨hfew, hfull⟩ := logged_log (cause := cause) (phase := phase) .lockoutEntered (struck y)
    obtain ⟨hlog, hover, htime⟩ := linkOf_log y.prot
    rw [struck_prot] at hcon hdrive hclosing hopening hfeed hfew hfull
    dsimp only at hcon hdrive hclosing hopening hfeed hfew hfull
    rw [hlog, hover, htime, hy.log, hy.overflow, hy.time] at hfew
    rw [hlog, hover, hy.log, hy.overflow] at hfull
    rw [linkOf_contactor] at hcon
    rw [linkOf_feedback] at hfeed
    refine ⟨_, hrow, hcab, logged_flagged .., fun h => by rw [if_pos hn]; exact hfew h, hfull, fun _ => ⟨?_, hcon, ?_, fun ho => ?_,
      fun ho => ?_, fun p hb => ?_, fun p hf => ?_, fun p hi => ?_, fun p hb => ?_⟩, fun h => absurd hn h⟩
    · exact struck_dark y
    · rw [hfeed]
      exact hy.feedback
    · obtain ⟨h1, h2, h3⟩ := hy.opens ho
      exact ⟨hdrive.trans h1, hclosing.trans h2, by rw [hopening, h3, hfeed]⟩
    · obtain ⟨hc, h1, h2, h3⟩ := hy.stays ho
      rw [linkOf, if_pos hc] at hdrive hclosing hopening
      exact ⟨hdrive.trans h1, hclosing.trans h2, hopening.trans h3⟩
    · obtain ⟨hst, hprog, happ, hflag, hout, hcauses, hreq, hstep, hend, hfault⟩ :=
        struck_bound (p := p) (s := y) (by rw [hportsEq]; exact hb)
      have hpool (hq : s.pool.queue = []) := struck_bound_pool hy hb hq
      rw [hportsEq] at hstep hend hfault
      generalize struck y = v at *
      exact ⟨hst, hprog, happ, logged_port_flagged hflag, hout, hcauses, hreq,
        fun h => ⟨logged_port_flagged (hstep h).1, (hstep h).2⟩, hend, hpool, hfault⟩
    · have h := struck_faulted (p := p) (s := y) (by rw [hportsEq]; exact hf)
      rwa [hportsEq] at h
    · have h := struck_idle (p := p) (s := y) (by rw [hportsEq]; exact hi)
      rwa [hportsEq] at h
    · exact struck_unfolded (by rw [hportsEq]; exact hb)
  · have hyn : y.prot.cabinet ≠ .normal := fun h => hn (hy.cabinet.symm.trans h)
    rw [lockoutCause_further hyn] at hrow
    obtain ⟨hcab, -⟩ := logged_prot (cause := cause) (phase := phase) .duringLockout y
    obtain ⟨hfew, hfull⟩ := logged_log (cause := cause) (phase := phase) .duringLockout y
    rw [hy.log, hy.overflow, hy.time] at hfew
    rw [hy.log, hy.overflow] at hfull
    refine ⟨_, hrow, hcab, logged_flagged .., fun h => by rw [if_neg hn]; exact hfew h, hfull, fun h => absurd h hn,
      fun _ => ⟨hy.ports, hy.history, hy.headers⟩⟩

end

end Sys2Proof.LockoutRows
end

section
/-! PROOFS. Where entering an index leads a run (R31, R32): LOOPs taken at once, with their counters and the folds of the marked
ones, and the timed step or the end behind them. -/

open Sys2Proof Sys2Proof.Machine Sys2Proof.Indexing Sys2Proof.Faults Sys2Proof.FaultPaths Sys2Proof.HistoryTable Sys2Proof.Programs

namespace Sys2Proof.Leading

section
variable {p : Fin 8} {n : Fin 32} {i j k l m : Nat} {w x : Vector Nat 16} {r : StepRecord} {s t u : State}

/-! ### What LOOPs taken leave -/

/-- A run of LOOPs taken, `k` of them marked: the counters and the run cycle count as they stand then, one fold for each marked
LOOP, and nothing else. -/
structure Looped (p : Fin 8) (x : Vector Nat 16) (l k : Nat) (s t : State) : Prop where
  port : ∃ z, t.ports[p] = { s.ports[p] with
    run := { s.ports[p].run with counters := x, runCycles := l }, acct := { s.ports[p].acct with unfolded := z } }
  others : ∀ q : Fin 8, q ≠ p → t.ports[q] = s.ports[q]
  headers : t.headers = s.headers
  pool : t.pool = s.pool
  alloc : t.alloc = s.alloc
  prot : t.prot = s.prot
  cmd : t.cmd = s.cmd
  unmarked : k = 0 → t.history = s.history ∧ t.ports[p].acct.unfolded = s.ports[p].acct.unfolded
  marked : ∀ (e : Fin 64) (y : Entry), s.ports[p].ident.bound = some e → s.history.entries[e] = some y → 1 ≤ k →
    t.ports[p].acct.unfolded = .cleared ∧
    t.history.entries[e] = some ((foldEntry oneCycle)^[k - 1] (foldEntry { s.ports[p].acct.unfolded with cycleDelta := 1 } y))

theorem looped_refl (p : Fin 8) (s : State) : Looped p s.ports[p].run.counters s.ports[p].run.runCycles 0 s s where
  port := ⟨_, rfl⟩
  others _ _ := rfl
  headers := rfl
  pool := rfl
  alloc := rfl
  prot := rfl
  cmd := rfl
  unmarked _ := ⟨rfl, rfl⟩
  marked _ _ _ _ h := absurd h (by omega)

theorem Looped.trans (h : Looped p w m j s t) (h' : Looped p x l k t u) : Looped p x l (j + k) s u := by
  obtain ⟨z, hz⟩ := h.port
  obtain ⟨z', hz'⟩ := h'.port
  refine ⟨⟨z', by rw [hz', hz]⟩, fun q hq => (h'.others q hq).trans (h.others q hq), h'.headers.trans h.headers,
    h'.pool.trans h.pool, h'.alloc.trans h.alloc, h'.prot.trans h.prot, h'.cmd.trans h.cmd, fun h0 => ?_, fun e y he hy h1 => ?_⟩
  · obtain ⟨hh, hu⟩ := h.unmarked (by omega)
    obtain ⟨hh', hu'⟩ := h'.unmarked (by omega)
    exact ⟨hh'.trans hh, hu'.trans hu⟩
  · have het : t.ports[p].ident.bound = some e := by rw [hz]; exact he
    rcases Nat.eq_zero_or_pos j with rfl | hj
    · obtain ⟨hh, hu⟩ := h.unmarked rfl
      rw [Nat.zero_add, ← hu]
      exact h'.marked e y het (by rw [hh, hy]) (by omega)
    · obtain ⟨hu, hentry⟩ := h.marked e y he hy hj
      rcases Nat.eq_zero_or_pos k with rfl | hk
      · obtain ⟨hh', hu'⟩ := h'.unmarked rfl
        rw [hh', hu', Nat.add_zero]
        exact ⟨hu, hentry⟩
      · obtain ⟨hu', hentry'⟩ := h'.marked e _ het hentry hk
        refine ⟨hu', ?_⟩
        rw [hentry', hu]
        have hsplit : j + k - 1 = (k - 1 + 1) + (j - 1) := by omega
        rw [hsplit, Function.iterate_add_apply, Function.iterate_succ_apply]
        rfl

/-! ### One LOOP taken (R32) -/

/-- The counters after a LOOP with a counter number is taken (R32). -/
def countedOn (k : Fin 16) (r : StepRecord) (w : Vector Nat 16) : Vector Nat 16 :=
  w.set k (if w[k] + 1 < r.repeatCount then w[k] + 1 else 0)

/-- A LOOP has counted. -/
def counted (p : Fin 8) (k : Fin 16) (r : StepRecord) (s : State) : State :=
  modRun p (fun x => { x with counters := countedOn k r s.ports[p].run.counters }) s

/-- A marked LOOP's cycle, before its fold. -/
def cycled (p : Fin 8) (s : State) : State :=
  modPort p (fun q => { q with
    run := { q.run with runCycles := min top32 (q.run.runCycles + 1) }
    acct := { q.acct with unfolded := { q.acct.unfolded with cycleDelta := 1 } } }) s

theorem takeLoop_eq {k : Fin 16} (hk : loopNumberAt n i s = some k.val) : takeLoop p n i r s =
    (if s.ports[p].run.counters[k] + 1 < r.repeatCount then r.loopTarget else i + 1,
      if r.cycleMark = 1 then fold p (cycled p (counted p k r s)) else counted p k r s) := by
  have hget : s.ports[p].run.counters.toList.getD k.val 0 = s.ports[p].run.counters[k] := by
    simp [List.getD_eq_getElem?_getD]
  have hset (c : Nat) (v : Vector Nat 16) : v.setIfInBounds k.val c = v.set k c := by
    apply Vector.ext
    intro a ha
    simp [Vector.getElem_setIfInBounds, Vector.getElem_set]
  have hcount (c : Nat) (hc : c = if s.ports[p].run.counters[k] + 1 < r.repeatCount then s.ports[p].run.counters[k] + 1 else 0) :
      modRun p (fun x => { x with counters := x.counters.setIfInBounds k.val c }) s = counted p k r s := by
    unfold counted modRun
    refine Owners.modPort_congr ?_
    subst hc
    simp only [hset, countedOn]
  unfold takeLoop
  simp only [hk, Option.getD_some, hget, decide_eq_true_eq, hcount _ rfl]
  rfl

theorem counted_port (k : Fin 16) : (counted p k r s).ports[p] = { s.ports[p] with run := { s.ports[p].run with
    counters := countedOn k r s.ports[p].run.counters } } := by
  rw [counted, modRun, modPort_self]

theorem looped_counted (k : Fin 16) : Looped p (countedOn k r s.ports[p].run.counters) s.ports[p].run.runCycles 0
    s (counted p k r s) where
  port := ⟨_, counted_port k⟩
  others q hq := by rw [counted, modRun, modPort_other _ hq]
  headers := rfl
  pool := rfl
  alloc := rfl
  prot := rfl
  cmd := rfl
  unmarked _ := ⟨rfl, by rw [counted_port]⟩
  marked _ _ _ _ h := absurd h (by omega)

theorem cycled_port : (cycled p s).ports[p] = { s.ports[p] with
    run := { s.ports[p].run with runCycles := min top32 (s.ports[p].run.runCycles + 1) }
    acct := { s.ports[p].acct with unfolded := { s.ports[p].acct.unfolded with cycleDelta := 1 } } } := modPort_self ..

theorem looped_cycled : Looped p s.ports[p].run.counters (min top32 (s.ports[p].run.runCycles + 1)) 1 s (fold p (cycled p s)) where
  port := ⟨_, by rw [fold_port, cycled_port]⟩
  others q hq := by rw [LockoutRows.fold_other hq, cycled, modPort_other _ hq]
  headers := fold_headers ..
  pool := fold_pool ..
  alloc := fold_alloc ..
  prot := fold_prot ..
  cmd := fold_cmd ..
  unmarked h := absurd h (by omega)
  marked e y he hy _ := by
    have he' : (cycled p s).ports[p].ident.bound = some e := by rw [cycled_port]; exact he
    refine ⟨by rw [fold_port, he']; rfl, ?_⟩
    rw [fold_entry he', cycled_port]
    change (s.history.entries[e]).map _ = _
    rw [hy]
    rfl

/-- A LOOP taken: its counter, and for the cycle mark one cycle and its fold. -/
theorem looped_takeLoop {k : Fin 16} (hk : loopNumberAt n i s = some k.val) : Looped p (countedOn k r s.ports[p].run.counters)
    (if r.cycleMark = 1 then min top32 (s.ports[p].run.runCycles + 1) else s.ports[p].run.runCycles)
    (if r.cycleMark = 1 then 1 else 0) s (takeLoop p n i r s).2 := by
  rw [takeLoop_eq hk]
  have hcount := looped_counted (p := p) (r := r) (s := s) k
  by_cases hm : r.cycleMark = 1
  · simp only [hm, if_true]
    have h := hcount.trans (looped_cycled (p := p) (s := counted p k r s))
    rw [counted_port] at h
    exact h
  · simp only [hm, if_false]
    exact hcount

/-! ### Where an index leads (R31) -/

/-- Entering an index with enough fuel takes the LOOPs on the way and then enters the timed step, or the end of the run. -/
structure Arrives (p : Fin 8) (n : Fin 32) (fuel i : Nat) (o : Option Nat) (x : Vector Nat 16) (l : Nat) (s t : State) : Prop where
  looped : ∃ k, Looped p x l k s t ∧ (l < top32 → l = s.ports[p].run.runCycles + k)
  step : ∀ (j : Nat) (b : StepRecord), o = some j → recordAt n j s = some b → enterIndex p fuel i s = enterTransfer p j b t
  ended : o = none → enterIndex p fuel i s = enterEnding .completed p t

theorem recordAt_eq {b : StepRecord} (h : s.headers[n].steps[i]? = some (some b)) : recordAt n i s = some b := by
  rw [recordAt, h]
  rfl

theorem enterIndex_timed (hp : s.ports[p].run.program = some n) (hr : recordAt n i s = some r) (ht : isTimed r.kind = true)
    (fuel : Nat) : enterIndex p (fuel + 1) i s = enterTransfer p i r s := by
  rw [enterIndex_succ hp, hr]
  dsimp only
  split
  · next h => rw [h] at ht; cases ht
  · next h => rw [h] at ht; cases ht
  · rfl

theorem enterIndex_endRun (hp : s.ports[p].run.program = some n) (hr : recordAt n i s = some r) (hk : r.kind = .endRun) (fuel : Nat) :
    enterIndex p (fuel + 1) i s = enterEnding .completed p s := by
  rw [enterIndex_succ hp, hr]
  simp only [hk]

theorem enterIndex_pastEnd (hp : s.ports[p].run.program = some n) (hr : recordAt n i s = none) (fuel : Nat) :
    enterIndex p (fuel + 1) i s = enterEnding .completed p s := by
  rw [enterIndex_succ hp, hr]

theorem enterIndex_loop (hp : s.ports[p].run.program = some n) (hr : recordAt n i s = some r) (hk : r.kind = .loop) (fuel : Nat) :
    enterIndex p (fuel + 1) i s = enterIndex p fuel (takeLoop p n i r s).1 (takeLoop p n i r s).2 := by
  rw [enterIndex_succ hp, hr]
  simp only [hk]

theorem recordAt_congr (h : t.headers = s.headers) : recordAt n i t = recordAt n i s := by rw [recordAt, recordAt, h]

theorem leads_arrives {h : Header} {o : Option Nat} (hl : Leads h i w m o x l) : ∀ s : State, s.headers[n] = h →
    s.ports[p].run.program = some n → s.ports[p].run.counters = w → s.ports[p].run.runCycles = m →
    ∃ d t, ∀ extra, Arrives p n (d + extra + 1) i o x l s t := by
  have hstay (s : State) : ∃ k, Looped p s.ports[p].run.counters s.ports[p].run.runCycles k s s ∧
      (s.ports[p].run.runCycles < top32 → s.ports[p].run.runCycles = s.ports[p].run.runCycles + k) :=
    ⟨0, looped_refl p s, fun _ => rfl⟩
  induction hl with
  | timed hr ht =>
    rintro s rfl hp rfl rfl
    refine ⟨0, s, fun extra => ⟨hstay s, fun j b hj hb => ?_, nofun⟩⟩
    obtain rfl := Option.some.inj hj
    have hb' := recordAt_eq hr
    rw [hb] at hb'
    obtain rfl := Option.some.inj hb'
    exact enterIndex_timed hp hb ht _
  | endRun hr hk =>
    rintro s rfl hp rfl rfl
    exact ⟨0, s, fun extra => ⟨hstay s, nofun, fun _ => enterIndex_endRun hp (recordAt_eq hr) hk _⟩⟩
  | pastEnd =>
    rintro s rfl hp rfl rfl
    refine ⟨0, s, fun extra => ⟨hstay s, nofun, fun _ => enterIndex_pastEnd hp ?_ _⟩⟩
    rw [recordAt, List.getElem?_eq_none (Nat.le_refl _)]
    rfl
  | @loop i w x m l r k o hr hk hnum hrest ih =>
    rintro s rfl hp rfl rfl
    have hnumber : loopNumberAt n i s = some k.val := by
      rw [loopNumberAt, hnum]
      rfl
    have htaken := looped_takeLoop (p := p) (r := r) hnumber
    have hnext : (takeLoop p n i r s).1 = if s.ports[p].run.counters[k] + 1 < r.repeatCount then r.loopTarget else i + 1 := by
      rw [takeLoop_eq hnumber]
    generalize hy : (takeLoop p n i r s).2 = y at htaken
    obtain ⟨z, hz⟩ := htaken.port
    obtain ⟨d, t, harr⟩ := ih y (by rw [htaken.headers]) (by rw [hz]; exact hp) (by rw [hz]; rfl) (by rw [hz])
    refine ⟨d + 1, t, fun extra => ?_⟩
    obtain ⟨⟨c, hloop, hcyc⟩, hstep, hend⟩ := harr extra
    have henter : enterIndex p (d + 1 + extra + 1) i s = enterIndex p (d + extra + 1)
        (if s.ports[p].run.counters[k] + 1 < r.repeatCount then r.loopTarget else i + 1) y := by
      rw [enterIndex_loop hp (recordAt_eq hr) hk, hnext, hy]
      congr 1
      omega
    refine ⟨⟨_, htaken.trans hloop, fun hlt => ?_⟩, fun j b hj hb => ?_, fun ho => henter.trans (hend ho)⟩
    · have hc := hcyc hlt
      rw [hz] at hc
      dsimp only at hc
      split at hc <;> split <;> omega
    · exact henter.trans (hstep j b hj (by rwa [recordAt_congr htaken.headers]))

/-- With a program that has passed validation the model's own fuel is enough. -/
theorem leads_enterIndex {o : Option Nat} (hp : s.ports[p].run.program = some n) (hv : validate s.headers[n].steps = none)
    (hl : Leads s.headers[n] i s.ports[p].run.counters s.ports[p].run.runCycles o x l) :
    ∃ t, Arrives p n chainFuel i o x l s t := by
  obtain ⟨d, t, harr⟩ := leads_arrives hl s rfl hp rfl rfl
  have hfuel := instantChainBounded s p n i (d + 1) hp hv
  obtain ⟨hlooped, hstep, hend⟩ := harr 64
  have hsame : enterIndex p chainFuel i s = enterIndex p (d + 64 + 1) i s := by
    rw [← hfuel]
    congr 1
    omega
  exact ⟨t, hlooped, fun j b hj hb => hsame.trans (hstep j b hj hb), fun ho => hsame.trans (hend ho)⟩

/-! ### The folds of the marked LOOPs -/

theorem foldEntry_cycles (u : UnfoldedSet) (y : Entry) : (foldEntry u y).cycles = min top32 (y.cycles + u.cycleDelta) := rfl

theorem iterate_cycles (k : Nat) (y : Entry) (hy : y.cycles ≤ top32) :
    ((foldEntry oneCycle)^[k] y).cycles = min top32 (y.cycles + k) := by
  induction k with
  | zero => exact (Nat.min_eq_right hy).symm
  | succ k ih =>
    rw [Function.iterate_succ_apply', foldEntry_cycles, ih]
    change min top32 (min top32 (y.cycles + k) + 1) = _
    omega

theorem afterCycles_cycles (k : Nat) (ends : Bool) (y : Entry) (hy : y.cycles ≤ top32) :
    (afterCycles k ends y).cycles = min top32 (y.cycles + k) := by
  have hk := iterate_cycles k y hy
  unfold afterCycles
  dsimp only
  split
  · rw [foldEntry_cycles, hk]
    change min top32 (min top32 (y.cycles + k) + 0) = _
    omega
  · exact hk

end

end Sys2Proof.Leading
end

section
/-! PROOFS. Entry into a step: the drain of TRANSFER, what follows its completion, and the phases on the way (R33 to R35). -/

open Sys2Proof Sys2Proof.Machine Sys2Proof.Indexing Sys2Proof.PoolPhases Sys2Proof.Acquiring

namespace Sys2Proof.Entering

section
variable {p : Fin 8} {n : Fin 32} {i raw : Nat} {r : StepRecord} {s t u : State} {b : Option Basis}

/-! ### Ports after the pool's work and a basis event -/

/-- What the pool's work may set in a port. -/
theorem poolWork_port (h : PoolWork s t) (p : Fin 8) : ∃ st sl nd, t.ports[p] = { s.ports[p] with
    run := { s.ports[p].run with stage := st, slew := sl }, phases := { s.ports[p].phases with need := nd } } := by
  have hport : poolRest t.ports[p] = poolRest s.ports[p] := h.port p.val p.isLt
  refine ⟨t.ports[p].run.stage, t.ports[p].run.slew, t.ports[p].phases.need, ?_⟩
  generalize t.ports[p] = a at hport ⊢
  cases a with | mk run _ _ _ _ _ _ _ phases _ _ =>
  cases run
  cases phases
  simp only [poolRest, Port.mk.injEq, RunContext.mk.injEq, PortPhases.mk.injEq] at hport ⊢
  simpa using hport

theorem setBasis_port (p : Fin 8) (b : Option Basis) (s : State) : ∃ a, (setBasis p b s).ports[p] = { s.ports[p] with alloc := a } ∧
    a.basis = b := by
  refine ⟨(setBasis p b s).ports[p].alloc, ?_, by simp⟩
  simp [setBasis, Machine.round, formRequest]

/-! ### The completion of a drain (R35) -/

/-- A port whose drain is done. -/
def stilled (p : Fin 8) (s : State) : State := modRun p (fun r => { r with slew := none, applied := 0 }) s

theorem stilled_port : (stilled p s).ports[p] = { s.ports[p] with run := { s.ports[p].run with slew := none, applied := 0 } } := by
  rw [stilled, modRun, modPort_self]

/-- A port on its way into ACQUIRING, with its basis set. -/
def basisSet (p : Fin 8) (r : StepRecord) (s : State) : State :=
  setBasis p (some ⟨s.ports[p].run.stepIndex, r, initialSubPhase r.kind⟩) (modRun p (fun x => { x with stage := .acquiring }) (stilled p s))

theorem completeDrain_power (hr : s.ports[p].run.step = some r) (hk : isPowerStep r.kind = true) :
    completeDrain p s = acquire p (basisSet p r s) := by
  have hstep : (stilled p s).ports[p].run.step = some r := by rw [stilled_port]; exact hr
  have hidx : (stilled p s).ports[p].run.stepIndex = s.ports[p].run.stepIndex := by rw [stilled_port]
  unfold completeDrain
  change (if isPowerStep ((stilled p s).ports[p].run.step.getD default).kind = true then _ else _) = _
  rw [hstep, Option.getD_some, if_pos hk, basisSet, ← hidx]
  change acquire p (setBasis p (some ⟨(stilled p s).ports[p].run.stepIndex, (stilled p s).ports[p].run.step.getD default,
    initialSubPhase ((stilled p s).ports[p].run.step.getD default).kind⟩) _) = _
  rw [hstep]
  rfl

theorem completeDrain_rest (hr : s.ports[p].run.step = some r) (hk : isPowerStep r.kind = false) : completeDrain p s =
    modRun p (fun r => { r with state := .running, stepTimer := 0 }) (releaseUnreserved p (setBasis p none (stilled p s))) := by
  have hstep : (stilled p s).ports[p].run.step = some r := by rw [stilled_port]; exact hr
  unfold completeDrain
  change (if isPowerStep ((stilled p s).ports[p].run.step.getD default).kind = true then _ else _) = _
  rw [hstep, Option.getD_some, if_neg (by rw [hk]; simp)]
  rfl

theorem basisSet_samePool : SamePool s (basisSet p r s) := by
  refine ⟨fun f => by rw [basisSet, setBasis_pool]; rfl, by rw [basisSet, setBasis_pool]; rfl, fun q => ?_⟩
  by_cases hq : q = p
  · subst hq
    simp [basisSet, stilled]
  · have hne : (q : Nat) ≠ p := fun h => hq (Fin.ext h)
    simp [basisSet, stilled, hne]

theorem basisSet_port : ∃ a, (basisSet p r s).ports[p] = { s.ports[p] with
    run := { s.ports[p].run with slew := none, applied := 0, stage := .acquiring }, alloc := a } ∧
    a.basis = some ⟨s.ports[p].run.stepIndex, r, initialSubPhase r.kind⟩ := by
  obtain ⟨a, ha, hb⟩ := setBasis_port p (some ⟨s.ports[p].run.stepIndex, r, initialSubPhase r.kind⟩)
    (modRun p (fun x => { x with stage := .acquiring }) (stilled p s))
  refine ⟨a, ?_, hb⟩
  rw [basisSet, ha, modRun, modPort_self, stilled_port]

/-- The port of a step whose drain is done. -/
theorem completeDrain_port (hr : s.ports[p].run.step = some r) : ∃ st sl nd a, (completeDrain p s).ports[p] = { s.ports[p] with
    run := { s.ports[p].run with
      state := if isPowerStep r.kind then .transfer else .running, stage := st, slew := sl, applied := 0
      stepTimer := if isPowerStep r.kind then s.ports[p].run.stepTimer else 0 }
    phases := { s.ports[p].phases with need := nd }, alloc := a } ∧
    (isPowerStep r.kind = true → st ≠ .draining ∧ a.basis = some ⟨s.ports[p].run.stepIndex, r, initialSubPhase r.kind⟩) ∧
    (isPowerStep r.kind = false → a.basis = none) := by
  cases hk : isPowerStep r.kind
  · obtain ⟨a, ha, hb⟩ := setBasis_port p none (stilled p s)
    obtain ⟨st, sl, nd, hport⟩ := poolWork_port (releaseUnreserved_poolWork p (setBasis p none (stilled p s))) p
    rw [ha, stilled_port] at hport
    refine ⟨st, sl, nd, a, ?_, nofun, fun _ => hb⟩
    rw [completeDrain_rest hr hk, modRun, modPort_self, hport]
    rfl
  · obtain ⟨a, ha, hb⟩ := basisSet_port (p := p) (r := r) (s := s)
    obtain ⟨st, sl, nd, hst, hport⟩ := acquire_port p (basisSet p r s)
    rw [ha] at hport
    refine ⟨st, sl, nd, a, ?_, fun _ => ⟨hst, hb⟩, nofun⟩
    rw [completeDrain_power hr hk, hport]
    rfl

theorem acquire_rest (p : Fin 8) (s : State) : (acquire p s).headers = s.headers ∧ (acquire p s).history = s.history := by
  obtain ⟨_, _, h⟩ := acquire_poolWork p s
  exact ⟨h.headers, h.history⟩

theorem completeDrain_left (hr : s.ports[p].run.step = some r) :
    (completeDrain p s).headers = s.headers ∧ (completeDrain p s).history = s.history := by
  cases hk : isPowerStep r.kind
  · rw [completeDrain_rest hr hk]
    constructor <;> simp [stilled]
  · obtain ⟨hh, hi⟩ := acquire_rest p (basisSet p r s)
    rw [completeDrain_power hr hk, hh, hi]
    constructor <;> simp [basisSet, stilled]

/-- The enables stay up through the completion of a drain. -/
theorem rising_completeDrain (h : Rising p s t) (hr : t.ports[p].run.step = some r) (hg : gang p t = gang p s)
    (hres : t.ports[p].phases.reserved = s.ports[p].phases.reserved) (he : isEnabledState t.ports[p].run.state = true) :
    Rising p s (completeDrain p t) := by
  cases hk : isPowerStep r.kind
  · rw [completeDrain_rest hr hk]
    have hset : Rising p s (setBasis p none (stilled p t)) := by
      refine h.frame (by rw [setBasis_pool]; rfl) ?_
      simpa [stilled] using he
    have hg' : gang p (setBasis p none (stilled p t)) = gang p s :=
      (gang_congr fun f => by rw [setBasis_pool]; rfl).trans hg
    have hkeep : s.ports[p].phases.reserved ≤ (setBasis p none (stilled p t)).ports[p].phases.reserved := by
      have : (setBasis p none (stilled p t)).ports[p].phases.reserved = t.ports[p].phases.reserved := by simp [stilled]
      omega
    exact (hset.releaseAndServe hkeep hg').frame rfl (by rw [modRun, modPort_self]; rfl)
  · rw [completeDrain_power hr hk]
    have hsame := basisSet_samePool (p := p) (r := r) (s := t)
    obtain ⟨a, ha, -⟩ := basisSet_port (p := p) (r := r) (s := t)
    have hset : Rising p s (basisSet p r t) := h.frame (by rw [basisSet, setBasis_pool]; rfl) (by rw [ha]; exact he)
    exact hset.acquire (hsame.gang.trans hg) ((hsame.reserved p).trans hres)

/-- The phases of a power step whose drain is done (R144, R146). -/
theorem completeDrain_acquired (hr : s.ports[p].run.step = some r) (hk : isPowerStep r.kind = true)
    (ha : Absent p s.pool.queue) : acquired p (rawNeed r s.ports[p].prot.effective.vMin) s (completeDrain p s) := by
  have hsame := basisSet_samePool (p := p) (r := r) (s := s)
  obtain ⟨a, hport, -⟩ := basisSet_port (p := p) (r := r) (s := s)
  have hacq := acquire_acquired (p := p) (s := basisSet p r s) (by rw [hsame.queue]; exact ha)
  rw [hport] at hacq
  rw [completeDrain_power hr hk]
  refine hsame.acquired ?_
  have hraw : rawNeed (s.ports[p].run.step.getD default) s.ports[p].prot.effective.vMin =
      rawNeed r s.ports[p].prot.effective.vMin := by rw [hr]; rfl
  rw [← hraw]
  exact hacq

/-- The phases of a REST whose drain is done (R35, R150). -/
theorem completeDrain_releases (hr : s.ports[p].run.step = some r) (hk : isPowerStep r.kind = false)
    (ha : Absent p s.pool.queue) : releasesUnreserved p s (completeDrain p s) := by
  have hleft : Left p s (setBasis p none (stilled p s)) :=
    (left_of_absent ha).congr (fun f => by rw [setBasis_pool]; rfl) (by rw [setBasis_pool]; rfl) (by simp [stilled])
  rw [completeDrain_rest hr hk]
  exact releasesUnreserved_congr (releasesUnreserved_of_left hleft) (fun f => rfl) rfl

/-! ### Entry into TRANSFER (R33) -/

/-- A port whose registers are those of a step that is entered. -/
def transferring (p : Fin 8) (i : Nat) (r : StepRecord) (s : State) : State :=
  modPort p (fun q =>
    let c := clampStep q.prot.effective s.prot.limits.maxPower r
    { q with
      run := { q.run with
        state := .transfer, stage := .draining, stepIndex := i, stepTimer := 0, throttledTime := 0, throttled := false
        subPhase := initialSubPhase r.kind, step := some c, clamped := decide (c ≠ r), resistance := none }
      acct := { q.acct with step := .cleared } }) s

/-- The port with its settle detector empty, no capture in flight, and its enables up. -/
def readied (p : Fin 8) (i : Nat) (r : StepRecord) (s : State) : State :=
  refreshEnables p (restartSettle p (discardCapture p (transferring p i r s)))

theorem clampStep_kind (e : Envelope) (w : Nat) (r : StepRecord) : (clampStep e w r).kind = r.kind := by
  unfold clampStep
  split <;> rfl

theorem readied_port : (readied p i r s).ports[p] = { s.ports[p] with
    run := { s.ports[p].run with
      state := .transfer, stage := .draining, stepIndex := i, stepTimer := 0, throttledTime := 0, throttled := false
      subPhase := initialSubPhase r.kind, step := some (clampStep s.ports[p].prot.effective s.prot.limits.maxPower r)
      clamped := decide (clampStep s.ports[p].prot.effective s.prot.limits.maxPower r ≠ r), resistance := none }
    acct := { s.ports[p].acct with step := .cleared }
    intake := { s.ports[p].intake with captureA := none, settle := .empty } } := by
  have hports : (readied p i r s).ports = (restartSettle p (discardCapture p (transferring p i r s))).ports := refreshEnables_ports ..
  simp only [hports, restartSettle, discardCapture, modIntake, modPort_self, transferring]

theorem readied_samePool : SamePool s (readied p i r s) := by
  refine ⟨fun f => by rw [readied, refreshEnables_state]; rfl, by rw [readied, refreshEnables_queue]; rfl, fun q => ?_⟩
  by_cases hq : q = p
  · subst hq
    rw [readied_port]
  · have hne : (q : Nat) ≠ p := fun h => hq (Fin.ext h)
    simp [readied, transferring, hne]

theorem rising_readied : Rising p s (readied p i r s) := by
  refine (rising_refresh ?_).of_start rfl ?_
  · simp [transferring, isEnabledState]
  · simp [transferring]

theorem enterTransfer_still (h : s.ports[p].run.applied = 0) : enterTransfer p i r s = completeDrain p (readied p i r s) := by
  have h0 : (readied p i r s).ports[p].run.applied = 0 := by rw [readied_port]; exact h
  unfold enterTransfer
  exact if_pos h0

theorem enterTransfer_drains (h : s.ports[p].run.applied ≠ 0) : enterTransfer p i r s = startDrain p (readied p i r s) := by
  have h0 : (readied p i r s).ports[p].run.applied ≠ 0 := by rw [readied_port]; exact h
  unfold enterTransfer
  exact if_neg h0

/-- The port of a step that is entered: as the step begins, with the ramp, the need and the grant entry of its stage. -/
theorem enterTransfer_port (p : Fin 8) (i : Nat) (r : StepRecord) (s : State) : ∃ st sl nd a,
    (enterTransfer p i r s).ports[p] = { (readied p i r s).ports[p] with
      run := { (readied p i r s).ports[p].run with
        state := if isPowerStep r.kind ∨ s.ports[p].run.applied ≠ 0 then .transfer else .running, stage := st, slew := sl
        applied := s.ports[p].run.applied }
      phases := { s.ports[p].phases with need := nd }, alloc := a } := by
  have hstep : (readied p i r s).ports[p].run.step = some (clampStep s.ports[p].prot.effective s.prot.limits.maxPower r) := by
    rw [readied_port]
  by_cases h : s.ports[p].run.applied = 0
  · obtain ⟨st, sl, nd, a, hport, -, -⟩ := completeDrain_port hstep
    refine ⟨st, sl, nd, a, ?_⟩
    rw [enterTransfer_still h, hport, readied_port, clampStep_kind, h]
    cases isPowerStep r.kind <;> rfl
  · refine ⟨.draining, some (drainFrom (readied p i r s).ports[p].run (readied p i r s).alloc.rampTime),
      s.ports[p].phases.need, s.ports[p].alloc, ?_⟩
    rw [enterTransfer_drains h, startDrain, modRun, modPort_self, readied_port, if_pos (.inr h)]

/-- A step that is entered stands as R33 and R35 give it. -/
theorem enterTransfer_entered (hp : s.ports[p].run.program = some n) : entered p n i r s.ports[p].run.applied s (enterTransfer p i r s) := by
  obtain ⟨st, sl, nd, a, hport⟩ := enterTransfer_port p i r s
  rw [readied_port] at hport
  unfold entered
  rw [hport]
  exact ⟨hp, rfl, rfl, rfl, rfl, rfl, rfl⟩

theorem startDrain_left (p : Fin 8) (s : State) : (startDrain p s).headers = s.headers ∧ (startDrain p s).history = s.history := ⟨rfl, rfl⟩

theorem enterTransfer_left (p : Fin 8) (i : Nat) (r : StepRecord) (s : State) :
    (enterTransfer p i r s).headers = s.headers ∧ (enterTransfer p i r s).history = s.history := by
  have hstep : (readied p i r s).ports[p].run.step = some (clampStep s.ports[p].prot.effective s.prot.limits.maxPower r) := by
    rw [readied_port]
  have hready : (readied p i r s).headers = s.headers ∧ (readied p i r s).history = s.history := by
    constructor
    · rw [readied, refreshEnables_headers]
      rfl
    · rw [readied, refreshEnables_history]
      rfl
  by_cases h : s.ports[p].run.applied = 0
  · obtain ⟨hh, hi⟩ := completeDrain_left hstep
    rw [enterTransfer_still h, hh, hi]
    exact hready
  · rw [enterTransfer_drains h]
    exact hready

theorem enterTransfer_rises (p : Fin 8) (i : Nat) (r : StepRecord) (s : State) : enablesRise p s (enterTransfer p i r s) := by
  have hstep : (readied p i r s).ports[p].run.step = some (clampStep s.ports[p].prot.effective s.prot.limits.maxPower r) := by
    rw [readied_port]
  have hsame := readied_samePool (p := p) (i := i) (r := r) (s := s)
  by_cases h : s.ports[p].run.applied = 0
  · rw [enterTransfer_still h]
    exact (rising_completeDrain rising_readied hstep hsame.gang (hsame.reserved p) (by rw [readied_port]; rfl)).enablesRise
  · rw [enterTransfer_drains h]
    have hdrain : isEnabledState (startDrain p (readied p i r s)).ports[p].run.state = true := by
      rw [startDrain, modRun, modPort_self, readied_port]
      rfl
    have hrising : Rising p s (startDrain p (readied p i r s)) := rising_readied.frame rfl hdrain
    exact hrising.enablesRise

/-- The phases of a power step that is entered at no current. -/
theorem enterTransfer_acquired (h : s.ports[p].run.applied = 0) (hk : isPowerStep r.kind = true) (ha : Absent p s.pool.queue) :
    acquired p (rawNeed (clampStep s.ports[p].prot.effective s.prot.limits.maxPower r) s.ports[p].prot.effective.vMin) s
      (enterTransfer p i r s) := by
  have hstep : (readied p i r s).ports[p].run.step = some (clampStep s.ports[p].prot.effective s.prot.limits.maxPower r) := by
    rw [readied_port]
  have hsame := readied_samePool (p := p) (i := i) (r := r) (s := s)
  have hacq := completeDrain_acquired hstep (by rw [clampStep_kind]; exact hk) (by rw [hsame.queue]; exact ha)
  rw [readied_port] at hacq
  rw [enterTransfer_still h]
  exact hsame.acquired hacq

/-- The phases of a REST that is entered at no current. -/
theorem enterTransfer_releases (h : s.ports[p].run.applied = 0) (hk : isPowerStep r.kind = false) (ha : Absent p s.pool.queue) :
    releasesUnreserved p s (enterTransfer p i r s) := by
  have hstep : (readied p i r s).ports[p].run.step = some (clampStep s.ports[p].prot.effective s.prot.limits.maxPower r) := by
    rw [readied_port]
  have hsame := readied_samePool (p := p) (i := i) (r := r) (s := s)
  rw [enterTransfer_still h]
  have hrel := completeDrain_releases hstep (by rw [clampStep_kind]; exact hk) (by rw [hsame.queue]; exact ha)
  have hfree : freeCount (readied p i r s) = freeCount s := congrArg List.length (freePhases_congr fun f => by rw [hsame.state])
  have hheld : heldCount p (readied p i r s) = heldCount p s := congrArg List.length hsame.gang
  simpa only [releasesUnreserved, hsame.gang, hheld, hfree, hsame.queue, hsame.reserved] using hrel

end

end Sys2Proof.Entering
end

section
/-! PROOFS. START_RUN (R29 to R32): the checks passed, the port bound, and the run on its first step or at its end. -/

open Sys2Proof Sys2Proof.Machine Sys2Proof.Indexing Sys2Proof.PoolPhases Sys2Proof.Acquiring Sys2Proof.Faults Sys2Proof.FaultPaths
open Sys2Proof.RunEnds Sys2Proof.Leading Sys2Proof.Entering Sys2Proof.InterlockMask

namespace Sys2Proof.StartRun

section
variable {iss : Issuer} {p : Fin 8} {n : Fin 32} {i : Nat} {r : StepRecord} {s t y : State} {e : Fin 64} {x : Entry}
  {c : Vector Nat 16} {m k : Nat}

/-! ### What reads only the steps of a header -/

theorem leads_congr {h h' : Header} {w c : Vector Nat 16} {m l : Nat} {o : Option Nat} (hsteps : h'.steps = h.steps)
    (hloops : h'.loopNumbers = h.loopNumbers) (hl : Leads h i w m o c l) : Leads h' i w m o c l := by
  induction hl with
  | timed hr ht => exact .timed (by rw [hsteps]; exact hr) ht
  | endRun hr hk => exact .endRun (by rw [hsteps]; exact hr) hk
  | pastEnd => exact hsteps ▸ .pastEnd
  | loop hr hk hn _ ih => exact .loop (by rw [hsteps]; exact hr) hk (by rw [hloops]; exact hn) ih

/-- An index that a run is led to holds a timed step. -/
theorem leads_record {h : Header} {w c : Vector Nat 16} {m l : Nat} {o : Option Nat} (hl : Leads h i w m o c l) (j : Nat)
    (hj : o = some j) : ∃ b, h.steps[j]? = some (some b) ∧ isTimed b.kind = true := by
  induction hl with
  | timed hr ht => exact ⟨_, Option.some.inj hj ▸ hr, ht⟩
  | endRun => cases hj
  | pastEnd => cases hj
  | loop _ _ _ _ ih => exact ih hj

/-! ### What reads only the pool -/

theorem enablesRise_of_start (hpool : y.pool = s.pool) (hres : y.ports[p].phases.reserved = s.ports[p].phases.reserved)
    (h : enablesRise p y t) : enablesRise p s t := by
  have hgang : gang p y = gang p s := gang_congr fun f => by rw [hpool]
  obtain ⟨hup, hkept⟩ := h
  refine ⟨hup, fun f hf => ?_⟩
  rw [← hgang, ← hres] at hf
  rw [← hpool]
  exact hkept f hf

theorem releasesUnreserved_of_same (hsame : SamePool s y) (h : releasesUnreserved p y t) : releasesUnreserved p s t := by
  have hfree : freeCount y = freeCount s := congrArg List.length (freePhases_congr fun f => by rw [hsame.state])
  have hheld : heldCount p y = heldCount p s := congrArg List.length hsame.gang
  simpa only [releasesUnreserved, hsame.gang, hheld, hfree, hsame.queue, hsame.reserved] using h

/-! ### The end of a run (R47) -/

theorem enterEnding_run (o : RunOutcome) (p : Fin 8) (s : State) :
    (enterEnding o p s).ports[p].run.counters = s.ports[p].run.counters ∧
    (enterEnding o p s).ports[p].run.runCycles = s.ports[p].run.runCycles := by
  by_cases h : s.ports[p].run.applied = 0
  · rw [enterEnding_completes h]
    constructor <;> simp [completeEnding, ending]
  · rw [enterEnding_drains h]
    constructor <;> simp [startDrain, ending]

theorem enterEnding_completed (p : Fin 8) (s : State) : completes p s.ports[p].run.applied (enterEnding .completed p s) := by
  obtain ⟨-, -, hdrain, hend⟩ := enterEnding_port .completed p s
  refine ⟨fun h => ?_, fun h => ?_⟩
  · obtain ⟨hst, has, -⟩ := hdrain h
    exact ⟨hst, has⟩
  · exact hend h

theorem enterEnding_headers (h : s.ports[p].run.applied = 0) (hp : s.ports[p].run.program = some n) :
    (enterEnding .completed p s).headers = (releaseProgram (some n) s).headers := by
  have hx : (ending .completed p s).ports[p].run.program = some n := by
    simpa [ending] using hp
  have hprog : (fold p (releaseUnreserved p (spent p (ending .completed p s)))).ports[p].run.program = some n := by
    simpa [spent] using hx
  rw [enterEnding_completes h, completeEnding_eq, raisePort_headers, disablePort_headers, unboundRun, modRun_headers, hprog]
  simp [releaseProgram, modHeader, spent, ending]

/-- A drain into the end of a run folds nothing yet. -/
theorem enterEnding_drains_left (h : s.ports[p].run.applied ≠ 0) : (enterEnding .completed p s).history = s.history ∧
    (enterEnding .completed p s).ports[p].acct.unfolded = s.ports[p].acct.unfolded := by
  rw [enterEnding_drains h]
  refine ⟨rfl, ?_⟩
  simp [startDrain, ending]

/-- A run that ends at once folds. -/
theorem enterEnding_folds (h : s.ports[p].run.applied = 0) (hb : s.ports[p].ident.bound = some e)
    (hx : s.history.entries[e] = some x) :
    (enterEnding .completed p s).history.entries[e] = some (foldEntry s.ports[p].acct.unfolded x) ∧
    (enterEnding .completed p s).ports[p].acct.unfolded = .cleared := by
  let y := releaseUnreserved p (spent p (ending .completed p s))
  have hident : y.ports[p].ident = s.ports[p].ident := by simp [y, spent, ending]
  have hacct : y.ports[p].acct = s.ports[p].acct := by simp [y, spent, ending]
  have hhist : y.history = s.history := by simp [y, spent, ending]
  have hentry := fold_entry (p := p) (s := y) (by rw [hident]; exact hb)
  have hport := fold_port p y
  rw [hhist, hx, hacct] at hentry
  rw [hident, hb] at hport
  have hfin : (enterEnding .completed p s).history = (fold p y).history ∧
      (enterEnding .completed p s).ports[p].acct = (fold p y).ports[p].acct := by
    rw [enterEnding_completes h, completeEnding_eq]
    constructor
    · rw [raisePort_history, disablePort_history, unboundRun, modRun_history, releaseProgram_history]
    · simp [unboundRun, y]
  obtain ⟨h1, h2⟩ := hfin
  rw [h1, h2, hport]
  exact ⟨hentry, rfl⟩

/-! ### The port bound (R30) -/

/-- The program's use count one higher, and the port bound to it with its run registers at 0. -/
def started (p : Fin 8) (n : Fin 32) (s : State) : State :=
  modPort p (fun q => { q with
    run := { q.run with
      program := some n, lastProgram := some n
      countersUsed := (s.headers[n].loopNumbers.filter Option.isSome).length
      runCycles := 0, counters := Vector.replicate 16 0, outcome := .none }
    acct := { q.acct with run := .cleared } }) (modHeader n (fun h => { h with useCount := h.useCount + 1 }) s)

theorem started_port : (started p n s).ports[p] = { s.ports[p] with
    run := { s.ports[p].run with
      program := some n, lastProgram := some n
      countersUsed := (s.headers[n].loopNumbers.filter Option.isSome).length
      runCycles := 0, counters := Vector.replicate 16 0, outcome := .none }
    acct := { s.ports[p].acct with run := .cleared } } := modPort_self ..

theorem started_header (k : Fin 32) : (started p n s).headers[k] =
    if k = n then { s.headers[n] with useCount := s.headers[n].useCount + 1 } else s.headers[k] :=
  modHeader_header s n (fun h => { h with useCount := h.useCount + 1 }) k

theorem started_own : (started p n s).headers[n] = { s.headers[n] with useCount := s.headers[n].useCount + 1 } := by
  rw [started_header, if_pos rfl]

theorem started_samePool : SamePool s (started p n s) := by
  refine ⟨fun _ => rfl, rfl, fun q => ?_⟩
  change (modPort p _ (modHeader n _ s)).ports[q].phases.reserved = _
  rw [modPort_port]
  split
  · next h => rw [h]; rfl
  · rfl

/-- START_RUN past its checks (R29, R30). -/
theorem exec_startRun_accepted (ho : s.ports[p].owner = ownerOf iss.master) (hst : s.ports[p].run.state = .ready)
    (hc : s.prot.cabinet = .normal) (hd : s.prot.doorOpen = false) (hm : s.ports[p].mask &&& s.chain.asserted = 0)
    (hr : s.headers[n].state = .ready) (hi : i < s.headers[n].steps.length) (hl : s.prot.contactor = .closed) :
    exec (.startRun iss p.val n.val i) s = .next (deliver iss 9 (done (enterIndex p chainFuel i (started p n s)))) := by
  rw [exec_startRun, onOwnPort_owner ho, startRun, onProgram_fin]
  rw [if_neg (by rw [hst]; simp), if_neg (by simp [inLockout, hc]), if_neg (by rw [hd]; simp),
    if_neg (by rw [interlocked_of_eq_zero hm]; simp), if_neg (by rw [hr]; simp), if_neg (Nat.not_le.mpr hi),
    if_neg (by simp [linkClosed, hl])]
  rfl

theorem started_released {n : Fin 32} (h : t.headers = (started p n s).headers) : (releaseProgram (some n) t).headers = s.headers := by
  apply Vector.ext
  intro k hk
  have hk' := releaseProgram_header t (some n) ⟨k, hk⟩
  have hstart := started_header (p := p) (n := n) (s := s) ⟨k, hk⟩
  rw [h, hstart] at hk'
  refine hk'.trans ?_
  by_cases e : (⟨k, hk⟩ : Fin 32) = n
  · subst e
    rw [if_pos rfl, if_pos rfl]
    rfl
  · rw [if_neg (fun h => e (Option.some.inj h).symm), if_neg e]
    rfl

theorem started_recordAt {j : Nat} : recordAt n j (started p n s) = recordAt n j s := by
  rw [recordAt, started_own]
  rfl

theorem looped_started_unmarked (h : Looped p c m 0 (started p n s) t) :
    t.history = s.history ∧ t.ports[p].acct.unfolded = s.ports[p].acct.unfolded := by
  obtain ⟨hh, hu⟩ := h.unmarked rfl
  rw [started_port] at hu
  exact ⟨hh, hu⟩

theorem looped_started_marked (h : Looped p c m k (started p n s) t) (he : s.ports[p].ident.bound = some e)
    (hx : s.history.entries[e] = some x) (hk : 1 ≤ k) : t.ports[p].acct.unfolded = .cleared ∧
    t.history.entries[e] = some ((foldEntry oneCycle)^[k - 1] (foldEntry { s.ports[p].acct.unfolded with cycleDelta := 1 } x)) := by
  have hm := h.marked e x (by rw [started_port]; exact he) hx hk
  rw [started_port] at hm
  exact hm

theorem entered_congr {j : Nat} {b : StepRecord} {a : Int} (hport : y.ports[p].prot.effective = s.ports[p].prot.effective)
    (hprot : y.prot = s.prot) (h : entered p n j b a y t) : entered p n j b a s t := by
  unfold entered at h ⊢
  rwa [hport, hprot] at h

/-- A step entered by a run that has just been bound (R33, R35). -/
theorem started_timed {j : Nat} {b : StepRecord} (hb : recordAt n j s = some b) (ht : isTimed b.kind = true) :
    enterIndex p chainFuel j (started p n s) = enterTransfer p j b (started p n s) :=
  enterIndex_timed (by rw [started_port]) (started_recordAt.trans hb) ht 63

end

/-- Settles O21: a run binds its port, takes the LOOPs that its start index leads through, and enters a timed step or ends. -/
theorem startRunBinds : Obligations.StartRunBinds := by
  unfold Obligations.StartRunBinds
  refine ⟨fun iss p n i r s ho hst hc hd hm hr hi hl hrec ht => ?_, fun iss p n i r s ho hst hc hd hm hr hi hl hrec hk h0 => ?_,
    fun iss p n i o c m s ho hst hc hd hm hr hi hl hv hleads => ?_⟩
  · have hsame := started_samePool (p := p) (n := n) (s := s)
    have happ : (started p n s).ports[p].run.applied = s.ports[p].run.applied := by rw [started_port]
    obtain ⟨st, sl, nd, a, hport⟩ := enterTransfer_port p i r (started p n s)
    obtain ⟨hheaders, -⟩ := enterTransfer_left p i r (started p n s)
    have hrise : enablesRise p s (enterTransfer p i r (started p n s)) :=
      enablesRise_of_start (y := started p n s) rfl (hsame.reserved p) (enterTransfer_rises ..)
    refine ⟨_, exec_startRun_accepted ho hst hc hd hm hr hi hl, ?_⟩
    rw [started_timed hrec ht, hheaders, started_own, hport, readied_port, started_port]
    refine ⟨rfl, rfl, rfl, rfl, rfl, rfl, rfl, rfl, rfl, rfl, rfl, rfl, fun k hk => ?_, hrise, fun h0 hq =>
      ⟨fun hp => ?_, fun hp => ?_⟩⟩
    · rw [started_header, if_neg hk]
    · have hacq := enterTransfer_acquired (i := i) (happ.trans h0) hp (isQueued_false.mp hq)
      rw [started_port] at hacq
      exact hsame.acquired hacq
    · exact releasesUnreserved_of_same hsame (enterTransfer_releases (happ.trans h0) hp (isQueued_false.mp hq))
  · have happ : (started p n s).ports[p].run.applied = 0 := by rw [started_port]; exact h0
    have hprog : (started p n s).ports[p].run.program = some n := by rw [started_port]
    obtain ⟨-, hresults, -, hend⟩ := enterEnding_port .completed p (started p n s)
    obtain ⟨hstate, hout, hunbound, hflag⟩ := hend happ
    refine ⟨_, exec_startRun_accepted ho hst hc hd hm hr hi hl, ?_⟩
    rw [chainFuel, enterIndex_endRun hprog (started_recordAt.trans hrec) hk, enterEnding_headers happ hprog, started_released rfl]
    refine ⟨hstate, hunbound, hout, ?_, hflag, rfl⟩
    rw [hresults, started_port]
  · have hprog : (started p n s).ports[p].run.program = some n := by rw [started_port]
    have hleads' : Leads (started p n s).headers[n] i (started p n s).ports[p].run.counters (started p n s).ports[p].run.runCycles o c m := by
      rw [started_port]
      exact leads_congr (by rw [started_own]) (by rw [started_own]) hleads
    obtain ⟨t, ⟨k, hlooped, hcyc⟩, hstep, hended⟩ := leads_enterIndex hprog (by rw [started_own]; exact hv) hleads'
    obtain ⟨z, hz⟩ := hlooped.port
    rw [started_port] at hz
    have hcount : m < top32 → m = k := fun h => by
      have hc := hcyc h
      rwa [started_port, Nat.zero_add] at hc
    refine ⟨_, exec_startRun_accepted ho hst hc hd hm hr hi hl, ?_⟩
    cases o with
    | some j =>
      obtain ⟨b, hb, ht⟩ := leads_record hleads j rfl
      have hrec := recordAt_eq hb
      rw [hstep j b rfl (started_recordAt.trans hrec)]
      obtain ⟨st, sl, nd, a, hport⟩ := enterTransfer_port p j b t
      obtain ⟨hheaders, hhistory⟩ := enterTransfer_left p j b t
      have hentered := enterTransfer_entered (p := p) (n := n) (i := j) (r := b) (s := t) (by rw [hz])
      have hrise : enablesRise p s (enterTransfer p j b t) :=
        enablesRise_of_start (y := t) hlooped.pool (by rw [hz]) (enterTransfer_rises p j b t)
      have hown : t.headers[n] = (started p n s).headers[n] := by rw [hlooped.headers]
      generalize enterTransfer p j b t = u at *
      rw [readied_port] at hport
      have hunf : u.ports[p].acct.unfolded = t.ports[p].acct.unfolded := by rw [hport]
      refine ⟨by rw [hport, hz], by rw [hport, hz], by rw [hport, hz], fun j' b' hj' hb' => ?_, nofun, fun h0 _ => ?_,
        fun e x he hx h1 hlt => ?_⟩
      · obtain rfl := Option.some.inj hj'
        obtain rfl := Option.some.inj (hrec.symm.trans hb')
        have happ : t.ports[p].run.applied = s.ports[p].run.applied := by rw [hz]
        rw [happ] at hentered
        exact ⟨entered_congr (by rw [hz]) hlooped.prot hentered, by rw [hport, hz], hrise, by rw [hheaders, hown, started_own]⟩
      · obtain rfl : k = 0 := by rw [← hcount (by rw [h0]; decide), h0]
        obtain ⟨hh, hu⟩ := looped_started_unmarked hlooped
        exact ⟨hhistory.trans hh, hunf.trans hu⟩
      · obtain rfl := hcount hlt
        obtain ⟨hu, hentry⟩ := looped_started_marked hlooped he hx h1
        rw [hunf, hhistory]
        refine ⟨hu, _, hentry, ?_, ?_⟩
        · rw [iterate_cycles _ _ (by rw [foldEntry_cycles]; exact Nat.min_le_left ..), foldEntry_cycles]
          dsimp only
          omega
        · simp [afterCycles]
    | none =>
      have happ : t.ports[p].run.applied = s.ports[p].run.applied := by rw [hz]
      have hident : t.ports[p].ident = s.ports[p].ident := by rw [hz]
      have hunbind : t.ports[p].run.program = some n := by rw [hz]
      obtain ⟨hcounters, hcycles⟩ := enterEnding_run .completed p t
      obtain ⟨-, hresults, -, -⟩ := enterEnding_port .completed p t
      have hcompletes := enterEnding_completed p t
      rw [happ] at hcompletes
      rw [hended rfl]
      refine ⟨by rw [hcounters, hz], by rw [hcycles, hz], by rw [hresults, hz], nofun, fun _ => ⟨hcompletes, fun h0 => ?_⟩,
        fun _ h => absurd rfl h, fun e x he hx h1 hlt => ?_⟩
      · rw [enterEnding_headers (happ.trans h0) hunbind, started_released hlooped.headers]
      · obtain rfl := hcount hlt
        obtain ⟨hu, hentry⟩ := looped_started_marked hlooped he hx h1
        have hcyc0 : (foldEntry { s.ports[p].acct.unfolded with cycleDelta := 1 } x).cycles = min top32 (x.cycles + 1) := rfl
        have hafter (ends : Bool) := afterCycles_cycles (m - 1) ends (foldEntry { s.ports[p].acct.unfolded with cycleDelta := 1 } x)
          (by rw [hcyc0]; exact Nat.min_le_left ..)
        by_cases h0 : s.ports[p].run.applied = 0
        · obtain ⟨hnew, hclear⟩ := enterEnding_folds (happ.trans h0) (by rw [hident]; exact he) hentry
          rw [hu] at hnew
          refine ⟨hclear, _, hnew, ?_, ?_⟩
          · have hcy := hafter true
            simp only [afterCycles, if_true] at hcy
            change (foldEntry .cleared _).cycles = _
            rw [hcy, hcyc0]
            omega
          · rw [decide_eq_true ⟨rfl, h0⟩]
            rfl
        · obtain ⟨hh, hunf⟩ := enterEnding_drains_left (p := p) (s := t) (by rw [happ]; exact h0)
          rw [hh, hunf]
          refine ⟨hu, _, hentry, ?_, ?_⟩
          · have hcy := hafter false
            simp only [afterCycles, Bool.false_eq_true, if_false] at hcy
            rw [hcy, hcyc0]
            omega
          · rw [decide_eq_false fun h => h0 h.2]
            rfl

end Sys2Proof.StartRun
end

section
/-! PROOFS. A sample instant (R55 to R60): what the intake hands on, what the consumers leave of it, and the form of an instant at
which no fault of its own reaches the port. -/

open Sys2Proof Sys2Proof.Machine Sys2Proof.Indexing Sys2Proof.PoolPhases Sys2Proof.Faults Sys2Proof.FaultPaths Sys2Proof.RunEnds
open Sys2Proof.Acquiring Sys2Proof.Holds Sys2Proof.Leading Sys2Proof.Entering Sys2Proof.Programs
open Sys2Proof.InterlockMask

namespace Sys2Proof.Samples

section
variable {p : Fin 8} {s t u : State} {v : Sample} {i fuel : Nat} {r : StepRecord}

/-! ### What no consumer changes -/

/-- What of an intake no consumer of a sample changes: all but the settle detector and a capture in flight. -/
def intakeCore (i : Intake) : Intake := { i with settle := .empty, captureA := none }

/-- What a port's consumers leave alone at a sample: what the intake has stored, the contact, the envelope and the filters; and they
begin no capture. -/
structure Onward (p : Fin 8) (s t : State) : Prop where
  core : intakeCore t.ports[p].intake = intakeCore s.ports[p].intake
  present : t.ports[p].ident.present = s.ports[p].ident.present
  effective : t.ports[p].prot.effective = s.ports[p].prot.effective
  filters : t.ports[p].prot.filters = s.ports[p].prot.filters
  capture : s.ports[p].intake.captureA = none → t.ports[p].intake.captureA = none

theorem Onward.refl (p : Fin 8) (s : State) : Onward p s s := ⟨rfl, rfl, rfl, rfl, id⟩

theorem Onward.trans (h : Onward p s t) (h' : Onward p t u) : Onward p s u :=
  ⟨h'.core.trans h.core, h'.present.trans h.present, h'.effective.trans h.effective, h'.filters.trans h.filters,
    fun hn => h'.capture (h.capture hn)⟩

theorem faultPort_core (p : Fin 8) (code : FaultCode) (s : State) :
    intakeCore (faultPort p code s).ports[p].intake = intakeCore s.ports[p].intake := by
  cases hs : s.ports[p].run.state with
  | vacant => rw [faultPort_vacant hs]
  | identifying =>
    rw [faultPort_identifying hs]
    simp [faultIdle, unread, intakeCore]
  | unidentified =>
    rw [faultPort_still (.inr hs)]
    simp [faultIdle, intakeCore]
  | ready =>
    rw [faultPort_still (.inl hs)]
    simp [faultIdle, intakeCore]
  | faulted =>
    rw [faultPort_again hs]
    simp
  | transfer | running | holding | held | ending =>
    rw [faultPort_bound (by rw [hs]; rfl)]
    have hrec : (recorded p code s).ports[p].intake = s.ports[p].intake :=
      recorded_cases (P := fun x => x.ports[p].intake = s.ports[p].intake) (fun _ _ => by simp) fun _ => by simp
    rw [faultBound_eq]
    refine Eq.trans (b := intakeCore (recorded p code s).ports[p].intake) ?_ (by rw [hrec])
    simp [unbound, abandoned, intakeCore]

theorem faultPort_capture (code : FaultCode) (h : s.ports[p].intake.captureA = none) :
    (faultPort p code s).ports[p].intake.captureA = none := by
  cases hs : s.ports[p].run.state with
  | vacant => rwa [faultPort_vacant hs]
  | identifying =>
    rw [faultPort_identifying hs]
    simpa [faultIdle, unread] using h
  | unidentified =>
    rw [faultPort_still (.inr hs)]
    simpa [faultIdle] using h
  | ready =>
    rw [faultPort_still (.inl hs)]
    simpa [faultIdle] using h
  | faulted =>
    rw [faultPort_again hs]
    simpa using h
  | transfer | running | holding | held | ending =>
    rw [faultPort_bound (by rw [hs]; rfl), faultBound_eq]
    simp [unbound, abandoned]

theorem faultPort_onward (p : Fin 8) (code : FaultCode) (s : State) : Onward p s (faultPort p code s) := by
  by_cases hv : s.ports[p].run.state = .vacant
  · rw [faultPort_vacant hv]
    exact .refl p s
  · have hprot := faultPort_prot (p := p) hv code
    refine ⟨?_, ?_, by rw [hprot, recordFault_prot_effective],
      by rw [hprot, recordFault_prot_filters], faultPort_capture code⟩
    · exact faultPort_core p code s
    · rw [faultPort_ident]
      split <;> rfl

theorem enterEnding_onward (o : RunOutcome) (p : Fin 8) (s : State) : Onward p s (enterEnding o p s) := by
  by_cases h : s.ports[p].run.applied = 0
  · rw [enterEnding_completes h]
    constructor <;> simp [completeEnding, ending, intakeCore]
  · rw [enterEnding_drains h]
    constructor <;> simp [startDrain, ending, intakeCore]

theorem enterTransfer_onward (p : Fin 8) (i : Nat) (r : StepRecord) (s : State) : Onward p s (enterTransfer p i r s) := by
  obtain ⟨st, sl, nd, a, hport⟩ := enterTransfer_port p i r s
  rw [readied_port] at hport
  exact ⟨by rw [hport]; rfl, by rw [hport], by rw [hport], by rw [hport], fun _ => by rw [hport]⟩

/-! ### What an index entered can reach -/

/-- Some LOOPs taken: the counters, the run cycle count and the folds alone. -/
structure Walked (p : Fin 8) (s t : State) : Prop where
  port : ∃ c l z, t.ports[p] = { s.ports[p] with
    run := { s.ports[p].run with counters := c, runCycles := l }, acct := { s.ports[p].acct with unfolded := z } }
  headers : t.headers = s.headers
  pool : t.pool = s.pool
  alloc : t.alloc = s.alloc
  prot : t.prot = s.prot
  cmd : t.cmd = s.cmd

theorem Walked.refl (p : Fin 8) (s : State) : Walked p s s := ⟨⟨_, _, _, rfl⟩, rfl, rfl, rfl, rfl, rfl⟩

theorem Walked.trans (h : Walked p s t) (h' : Walked p t u) : Walked p s u := by
  obtain ⟨c, l, z, hz⟩ := h.port
  obtain ⟨c', l', z', hz'⟩ := h'.port
  exact ⟨⟨c', l', z', by rw [hz', hz]⟩, h'.headers.trans h.headers, h'.pool.trans h.pool, h'.alloc.trans h.alloc,
    h'.prot.trans h.prot, h'.cmd.trans h.cmd⟩

theorem walked_fold (p : Fin 8) (s : State) : Walked p s (fold p s) :=
  ⟨⟨_, _, _, fold_port p s⟩, fold_headers .., fold_pool .., fold_alloc .., fold_prot .., fold_cmd ..⟩

theorem walked_modPort {g : Port → Port} (h : ∃ c l z, g s.ports[p] = { s.ports[p] with
    run := { s.ports[p].run with counters := c, runCycles := l }, acct := { s.ports[p].acct with unfolded := z } }) :
    Walked p s (modPort p g s) := by
  obtain ⟨c, l, z, hz⟩ := h
  exact ⟨⟨c, l, z, by rw [modPort_self, hz]⟩, rfl, rfl, rfl, rfl, rfl⟩

theorem walked_takeLoop (n : Fin 32) (i : Nat) (r : StepRecord) (s : State) : Walked p s (takeLoop p n i r s).2 := by
  unfold takeLoop
  dsimp only
  have hcount (g : RunContext → Vector Nat 16) : Walked p s (modRun p (fun x => { x with counters := g x }) s) :=
    walked_modPort ⟨_, _, _, rfl⟩
  split
  · exact (hcount _).trans ((walked_modPort ⟨_, _, _, rfl⟩).trans (walked_fold p _))
  · exact hcount _

/-- What an index entered reaches: the end of the run or a step, with some LOOPs taken before. -/
theorem enterIndex_reaches : ∀ (fuel i : Nat) (s : State), ∃ x, Walked p s x ∧
    (enterIndex p fuel i s = enterEnding .completed p x ∨ ∃ j b, enterIndex p fuel i s = enterTransfer p j b x)
  | 0, i, s => ⟨s, .refl p s, .inl rfl⟩
  | fuel + 1, i, s => by
    unfold enterIndex
    split
    · exact ⟨s, .refl p s, .inl rfl⟩
    · split
      · exact ⟨s, .refl p s, .inl rfl⟩
      · split
        · exact ⟨s, .refl p s, .inl rfl⟩
        · obtain ⟨x, hx, hreach⟩ := enterIndex_reaches fuel (takeLoop p _ i _ s).1 (takeLoop p _ i _ s).2
          exact ⟨x, (walked_takeLoop _ _ _ s).trans hx, hreach⟩
        · exact ⟨s, .refl p s, .inr ⟨_, _, rfl⟩⟩

theorem Walked.onward (h : Walked p s t) : Onward p s t := by
  obtain ⟨c, l, z, hz⟩ := h.port
  constructor <;> rw [hz]
  exact id

theorem enterIndex_onward (p : Fin 8) (fuel i : Nat) (s : State) : Onward p s (enterIndex p fuel i s) := by
  obtain ⟨x, hx, hend | ⟨j, b, hstep⟩⟩ := enterIndex_reaches (p := p) fuel i s
  · rw [hend]
    exact hx.onward.trans (enterEnding_onward ..)
  · rw [hstep]
    exact hx.onward.trans (enterTransfer_onward ..)

theorem endStep_onward (p : Fin 8) (e : EndReason) (a : Action) (s : State) : Onward p s (endStep p e a s) := by
  have hrec : Onward p s (restartSettle p (discardCapture p (fold p (queueResult p e s)))) := by
    constructor <;> simp [intakeCore]
  unfold endStep
  dsimp only
  refine hrec.trans ?_
  split
  · exact enterIndex_onward ..
  · exact enterIndex_onward ..
  · exact enterEnding_onward ..
  · exact faultPort_onward ..

/-! ### Work that ends nothing -/

/-- The items of a run that a sample changes only where a step, a drain or the run ends: all but the state and stage (a ramp ends in
RUNNING), the sub-phase, the timers, the slew and the command. -/
def steadyRun (r : RunContext) : RunContext := { r with
  state := .vacant, stage := .draining, subPhase := .none, stepTimer := 0, throttledTime := 0, slew := none, throttled := false
  applied := 0, cvIntegrator := 0, bounds := ⟨0, 0, 0, 0⟩ }

/-- The items of a port that a sample changes only where something ends at it. -/
def steadyPort (q : Port) : Port := { q with
  run := steadyRun q.run, alloc := default, intake := { q.intake with settle := .empty } }

/-- A phase but for its share of a command. -/
def quietPhase (ph : Phase) : Phase := { ph with command := 0, direction := .charge }

/-- What the sequencer's work at a sample leaves where nothing ends at it. -/
structure Steady (p : Fin 8) (s t : State) : Prop where
  port : steadyPort t.ports[p] = steadyPort s.ports[p]
  phase : ∀ f : Fin 16, quietPhase t.pool.phases[f] = quietPhase s.pool.phases[f]
  queue : t.pool.queue = s.pool.queue
  headers : t.headers = s.headers
  history : t.history = s.history
  prot : t.prot = s.prot
  cmd : t.cmd = s.cmd

theorem Steady.refl (p : Fin 8) (s : State) : Steady p s s := ⟨rfl, fun _ => rfl, rfl, rfl, rfl, rfl, rfl⟩

theorem Steady.trans (h : Steady p s t) (h' : Steady p t u) : Steady p s u :=
  ⟨h'.port.trans h.port, fun f => (h'.phase f).trans (h.phase f), h'.queue.trans h.queue, h'.headers.trans h.headers,
    h'.history.trans h.history, h'.prot.trans h.prot, h'.cmd.trans h.cmd⟩

theorem steady_modPort (g : Port → Port) (h : ∀ q, steadyPort (g q) = steadyPort q) : Steady p s (modPort p g s) :=
  ⟨by rw [modPort_self, h], fun _ => rfl, rfl, rfl, rfl, rfl, rfl⟩

theorem steady_modRun (g : RunContext → RunContext) (h : ∀ r, steadyRun (g r) = steadyRun r) : Steady p s (modRun p g s) :=
  steady_modPort _ fun q => by simp only [steadyPort, h]

theorem quietPhase_takeShare (c : Int) (n k : Nat) (ph : Phase) : quietPhase (takeShare c n k ph) = quietPhase ph := by
  unfold takeShare
  dsimp only
  generalize (if 0 < c then Direction.charge else Direction.discharge) = d
  split
  · rfl
  · split
    · rfl
    · split <;> rfl

theorem shares_quiet (c : Int) (n : Nat) (f : Fin 16) : ∀ (l : List (Fin 16 × Nat)) (s : State),
    quietPhase (l.foldl (fun t x => modPhase x.1 (takeShare c n x.2) t) s).pool.phases[f] = quietPhase s.pool.phases[f]
  | [], s => rfl
  | x :: l, s => by
    rw [List.foldl_cons, shares_quiet c n f l, modPhase_phase]
    split
    · next h => rw [quietPhase_takeShare, h]
    · rfl

theorem steady_command (p : Fin 8) (c : Int) (s : State) : Steady p s (command p c s) := by
  refine ⟨?_, fun f => shares_quiet c _ f _ _, command_queue .., command_headers .., command_history .., command_prot .., command_cmd ..⟩
  rw [command_ports, modRun, modPort_self]
  rfl

theorem steady_setBasis (p : Fin 8) (b : Option Basis) (s : State) : Steady p s (setBasis p b s) := by
  obtain ⟨a, hport, -⟩ := setBasis_port p b s
  refine ⟨by rw [hport]; rfl, fun f => by rw [setBasis_pool], by rw [setBasis_pool], by simp, by simp, by simp, by simp⟩

theorem steady_restartSettle (p : Fin 8) (s : State) : Steady p s (restartSettle p s) := by
  unfold restartSettle modIntake
  exact steady_modPort _ (by intros; rfl)

theorem steady_idleSample (p : Fin 8) (v : Sample) (s : State) : Steady p s (idleSample p v s) :=
  (steady_modRun _ (by intros; rfl)).trans ((steady_modRun _ (by intros; rfl)).trans (steady_command ..))

theorem steady_drainSample (p : Fin 8) (v : Sample) (s : State) : Steady p s (drainSample p v s) :=
  (steady_modRun _ (by intros; rfl)).trans ((steady_modRun _ (by intros; rfl)).trans (steady_command ..))

theorem steady_subPhaseTests (p : Fin 8) (r : StepRecord) (v : Sample) (c : Option Nat) (s : State) :
    Steady p s (subPhaseTests p r v c s) := by
  unfold subPhaseTests
  split
  · unfold enterCv
    exact (steady_modRun _ (by intros; rfl)).trans ((steady_setBasis ..).trans (steady_restartSettle ..))
  · split
    · unfold updateCv
      exact steady_modRun _ (by intros; rfl)
    · split
      · exact (steady_modRun _ (by intros; rfl)).trans (steady_restartSettle ..)
      · exact .refl p s

theorem steady_applyStep (p : Fin 8) (r : StepRecord) (v : Sample) (c : Option Nat) (s : State) :
    Steady p s (applyStep p r v c s) := (steady_modRun _ (by intros; rfl)).trans (steady_command ..)

theorem steady_rampSample (p : Fin 8) (v : Sample) (s : State) : Steady p s (rampSample p v s) := by
  unfold rampSample
  dsimp only
  refine (steady_subPhaseTests ..).trans ((steady_applyStep ..).trans (steady_modRun _ fun q => ?_))
  split <;> rfl

theorem steady_runningCount (p : Fin 8) (v : Sample) (s : State) : Steady p s (runningCount p v s) := by
  unfold runningCount
  dsimp only
  exact (steady_subPhaseTests ..).trans ((steady_applyStep ..).trans (steady_modRun _ (by intros; rfl)))

/-! ### What stands after work that ends nothing -/

theorem Steady.onward (h : Steady p s t) : Onward p s t where
  core := congrArg (fun q => intakeCore q.intake) h.port
  present := congrArg (fun q => q.ident.present) h.port
  effective := congrArg (fun q => q.prot.effective) h.port
  filters := congrArg (fun q => q.prot.filters) h.port
  capture := (congrArg (fun q => q.intake.captureA) h.port).trans

theorem Steady.program (h : Steady p s t) : t.ports[p].run.program = s.ports[p].run.program :=
  congrArg (fun q => q.run.program) h.port

theorem Steady.step (h : Steady p s t) : t.ports[p].run.step = s.ports[p].run.step := congrArg (fun q => q.run.step) h.port

theorem Steady.stepIndex (h : Steady p s t) : t.ports[p].run.stepIndex = s.ports[p].run.stepIndex :=
  congrArg (fun q => q.run.stepIndex) h.port

theorem Steady.counters (h : Steady p s t) : t.ports[p].run.counters = s.ports[p].run.counters :=
  congrArg (fun q => q.run.counters) h.port

theorem Steady.runCycles (h : Steady p s t) : t.ports[p].run.runCycles = s.ports[p].run.runCycles :=
  congrArg (fun q => q.run.runCycles) h.port

theorem Steady.outcome (h : Steady p s t) : t.ports[p].run.outcome = s.ports[p].run.outcome :=
  congrArg (fun q => q.run.outcome) h.port

theorem Steady.endingAs (h : Steady p s t) : t.ports[p].run.endingAs = s.ports[p].run.endingAs :=
  congrArg (fun q => q.run.endingAs) h.port

theorem Steady.resistance (h : Steady p s t) : t.ports[p].run.resistance = s.ports[p].run.resistance :=
  congrArg (fun q => q.run.resistance) h.port

theorem Steady.results (h : Steady p s t) : t.ports[p].results = s.ports[p].results := congrArg (fun q => q.results) h.port

theorem Steady.acct (h : Steady p s t) : t.ports[p].acct = s.ports[p].acct := congrArg (fun q => q.acct) h.port

theorem Steady.ident (h : Steady p s t) : t.ports[p].ident = s.ports[p].ident := congrArg (fun q => q.ident) h.port

theorem Steady.phases (h : Steady p s t) : t.ports[p].phases = s.ports[p].phases := congrArg (fun q => q.phases) h.port

theorem Steady.ownProt (h : Steady p s t) : t.ports[p].prot = s.ports[p].prot := congrArg (fun q => q.prot) h.port

theorem Steady.captureA (h : Steady p s t) : t.ports[p].intake.captureA = s.ports[p].intake.captureA :=
  congrArg (fun q => q.intake.captureA) h.port

theorem Steady.phaseState (h : Steady p s t) (f : Fin 16) : t.pool.phases[f].state = s.pool.phases[f].state :=
  congrArg (fun ph => ph.state) (h.phase f)

theorem Steady.enabled (h : Steady p s t) (f : Fin 16) : t.pool.phases[f].enabled = s.pool.phases[f].enabled :=
  congrArg (fun ph => ph.enabled) (h.phase f)

theorem Steady.watch (h : Steady p s t) (f : Fin 16) : t.pool.phases[f].watch = s.pool.phases[f].watch :=
  congrArg (fun ph => ph.watch) (h.phase f)

theorem Steady.activeHigh (h : Steady p s t) (f : Fin 16) : t.pool.phases[f].activeHigh = s.pool.phases[f].activeHigh :=
  congrArg (fun ph => ph.activeHigh) (h.phase f)

theorem Steady.gang (h : Steady p s t) : gang p t = gang p s := gang_congr fun f => by rw [h.phaseState]

/-- Work that ends nothing leaves what a fault path looks at, in a state that stands. -/
theorem Steady.sameStart (h : Steady p s t) (hs : t.ports[p].run.state = s.ports[p].run.state) : SameStart p s t :=
  ⟨h.phaseState, h.enabled, h.watch, h.activeHigh, h.queue, by rw [h.phases], hs, h.program, h.stepIndex, h.outcome, h.results⟩

/-! ### The sequencer's work by state (R34 to R40, R44, R47) -/

/-- A state in which a port commands no current at a sample. -/
def commandsNone (x : PortState) : Prop := isIdle x = true ∨ x = .held ∨ x = .faulted

theorem sequencer_idle (h : commandsNone s.ports[p].run.state) : sequencerSample p v s = idleSample p v s := by
  cases hs : s.ports[p].run.state with
  | transfer | running | holding | ending =>
    rw [hs] at h
    simp [commandsNone, isIdle] at h
  | vacant | identifying | unidentified | ready | faulted | held => simp only [sequencerSample, hs]

theorem sequencer_draining (h : s.ports[p].run.state = .transfer) (hg : s.ports[p].run.stage = .draining) :
    sequencerSample p v s =
      if slewDue s.ports[p].run then completeDrain p (drainSample p v s) else drainSample p v s := by
  simp only [sequencerSample, h, hg]

theorem sequencer_acquiring (h : s.ports[p].run.state = .transfer) (hg : s.ports[p].run.stage = .acquiring) :
    sequencerSample p v s = idleSample p v s := by
  simp only [sequencerSample, h, hg]

theorem sequencer_ramping (h : s.ports[p].run.state = .transfer) (hg : s.ports[p].run.stage = .ramping) :
    sequencerSample p v s = rampSample p v s := by
  simp only [sequencerSample, h, hg]

theorem sequencer_running (h : s.ports[p].run.state = .running) : sequencerSample p v s = runningSample p v s := by
  simp only [sequencerSample, h]

theorem sequencer_holding (h : s.ports[p].run.state = .holding) : sequencerSample p v s =
    if slewDue s.ports[p].run then enterHeld p (drainSample p v s) else drainSample p v s := by
  simp only [sequencerSample, h]

theorem sequencer_ending (h : s.ports[p].run.state = .ending) : sequencerSample p v s =
    if slewDue s.ports[p].run then completeEnding p (drainSample p v s) else drainSample p v s := by
  simp only [sequencerSample, h]

theorem runningSample_ends {e : EndReason} {a : Action} (h : stepEnd (runningCount p v s).ports[p] v = some (e, a)) :
    runningSample p v s = endStep p e a (runningCount p v s) := by
  simp only [runningSample, h]

theorem runningSample_goes (h : stepEnd (runningCount p v s).ports[p] v = none) : runningSample p v s = runningCount p v s := by
  simp only [runningSample, h]

/-! ### The state after the sequencer's work -/

theorem idleSample_run (p : Fin 8) (v : Sample) (s : State) : (idleSample p v s).ports[p] = { s.ports[p] with
    run := { s.ports[p].run with
      throttled := false, bounds := ⟨0, waitingDemand s.ports[p] v, 0, phaseCapacity p s⟩, applied := 0 } } := by
  simp only [idleSample, setBounds, command_ports, modRun, modPort_self]

theorem drainSample_state (p : Fin 8) (v : Sample) (s : State) :
    (drainSample p v s).ports[p].run.state = s.ports[p].run.state ∧
    (drainSample p v s).ports[p].run.stage = s.ports[p].run.stage ∧
    (drainSample p v s).ports[p].run.stepTimer = s.ports[p].run.stepTimer ∧
    (drainSample p v s).ports[p].alloc = s.ports[p].alloc ∧ (drainSample p v s).ports[p].intake = s.ports[p].intake := by
  simp only [drainSample, setBounds, command_ports, modRun, modPort_self, and_self]

theorem applyStep_state (p : Fin 8) (r : StepRecord) (v : Sample) (c : Option Nat) (s : State) :
    (applyStep p r v c s).ports[p].run.state = s.ports[p].run.state := by
  simp only [applyStep, command_ports, modRun, modPort_self]

theorem subPhaseTests_state (p : Fin 8) (r : StepRecord) (v : Sample) (c : Option Nat) (s : State) :
    (subPhaseTests p r v c s).ports[p].run.state = s.ports[p].run.state := by
  unfold subPhaseTests
  split
  · simp [enterCv]
  · split
    · simp [updateCv]
    · split
      · simp
      · rfl

theorem runningCount_state (p : Fin 8) (v : Sample) (s : State) :
    (runningCount p v s).ports[p].run.state = s.ports[p].run.state := by
  simp only [runningCount, modRun, modPort_self, applyStep_state, subPhaseTests_state]

theorem rampSample_state (p : Fin 8) (v : Sample) (s : State) (h : s.ports[p].run.state = .transfer) :
    (rampSample p v s).ports[p].run.state = .transfer ∨ (rampSample p v s).ports[p].run.state = .running := by
  simp only [rampSample, modRun, modPort_self]
  split
  · exact .inr rfl
  · left
    dsimp only
    rw [applyStep_state, subPhaseTests_state, h]

/-- How a port of a run can stand after the sequencer's work: still bound, READY with its run over, or faulted by its program. -/
def Carried (p : Fin 8) (t : State) : Prop :=
  isBound t.ports[p].run.state = true ∨
  ((t.ports[p].run.state = .ready ∨
      (t.ports[p].run.state = .faulted ∧ t.ports[p].prot.fault.isSome = true ∧ flagged p .fault t)) ∧
    t.ports[p].run.applied = 0 ∧ t.ports[p].run.program = none)

theorem carried_of_state {x : PortState} (h : t.ports[p].run.state = x) (hx : isBound x = true) : Carried p t := .inl (by rw [h, hx])

theorem completeEnding_carried (p : Fin 8) (s : State) : Carried p (completeEnding p s) := by
  refine .inr ⟨.inl ?_, ?_, ?_⟩ <;> simp [completeEnding]

theorem enterEnding_carried (o : RunOutcome) (p : Fin 8) (s : State) : Carried p (enterEnding o p s) := by
  by_cases h : s.ports[p].run.applied = 0
  · rw [enterEnding_completes h]
    exact completeEnding_carried ..
  · exact carried_of_state ((enterEnding_port o p s).2.2.1 h).1 rfl

theorem enterTransfer_carried (p : Fin 8) (i : Nat) (r : StepRecord) (s : State) : Carried p (enterTransfer p i r s) := by
  obtain ⟨st, sl, nd, a, hport⟩ := enterTransfer_port p i r s
  refine .inl ?_
  rw [hport]
  dsimp only
  split <;> rfl

theorem enterIndex_carried (p : Fin 8) (fuel i : Nat) (s : State) : Carried p (enterIndex p fuel i s) := by
  obtain ⟨x, -, hend | ⟨j, b, hstep⟩⟩ := enterIndex_reaches (p := p) fuel i s
  · rw [hend]
    exact enterEnding_carried ..
  · rw [hstep]
    exact enterTransfer_carried ..

theorem recordFault_isSome (code : FaultCode) (time : Nat) (q : Port) : (recordFault code time q).prot.fault.isSome = true := by
  unfold recordFault
  split <;> rfl

theorem faultBound_carried (p : Fin 8) (code : FaultCode) (s : State) : Carried p (faultBound p code s) := by
  refine .inr ⟨.inr ⟨by simp [faultBound], ?_, flagged_raisePort ..⟩, by simp [faultBound], by simp [faultBound]⟩
  rw [faultBound_fault]
  exact recordFault_isSome ..

theorem endStep_carried (p : Fin 8) (e : EndReason) (a : Action) (s : State) (hb : isBound s.ports[p].run.state = true) :
    Carried p (endStep p e a s) := by
  unfold endStep
  dsimp only
  split
  · exact enterIndex_carried ..
  · exact enterIndex_carried ..
  · exact enterEnding_carried ..
  · rw [faultPort_bound (by simpa using hb)]
    exact faultBound_carried ..

theorem completeDrain_state (p : Fin 8) (s : State) : (completeDrain p s).ports[p].run.state = .transfer ∨
    (completeDrain p s).ports[p].run.state = .running := by
  unfold completeDrain
  dsimp only
  split
  · left
    obtain ⟨st, sl, nd, -, hport⟩ := acquire_port p (setBasis p (some _) (modRun p _ _))
    rw [hport]
  · right
    simp

theorem isBound_of_transfer {x : PortState} (h : x = .transfer ∨ x = .running) : isBound x = true := by
  rcases h with rfl | rfl <;> rfl

theorem transfer_carried (v : Sample) (hs : s.ports[p].run.state = .transfer) : Carried p (sequencerSample p v s) := by
  obtain ⟨hdrain, -⟩ := drainSample_state p v s
  cases hg : s.ports[p].run.stage with
  | draining =>
    rw [sequencer_draining hs hg]
    split
    · exact .inl (isBound_of_transfer (completeDrain_state ..))
    · exact carried_of_state (hdrain.trans hs) rfl
  | acquiring =>
    rw [sequencer_acquiring hs hg]
    exact carried_of_state (x := .transfer) (by rw [idleSample_run, hs]) rfl
  | ramping =>
    rw [sequencer_ramping hs hg]
    exact .inl (isBound_of_transfer (rampSample_state p v s hs))

theorem running_carried (v : Sample) (hs : s.ports[p].run.state = .running) : Carried p (sequencerSample p v s) := by
  have hrun : (runningCount p v s).ports[p].run.state = .running := (runningCount_state p v s).trans hs
  rw [sequencer_running hs]
  cases he : stepEnd (runningCount p v s).ports[p] v with
  | none =>
    rw [runningSample_goes he]
    exact carried_of_state hrun rfl
  | some x =>
    rw [runningSample_ends he]
    exact endStep_carried p _ _ _ (congrArg isBound hrun)

theorem enterHeld_carried (p : Fin 8) (s : State) : Carried p (enterHeld p s) := carried_of_state enterHeld_state rfl

theorem drained_carried (v : Sample) (hs : s.ports[p].run.state = .holding ∨ s.ports[p].run.state = .ending) :
    Carried p (sequencerSample p v s) := by
  obtain ⟨hdrain, -⟩ := drainSample_state p v s
  rcases hs with hs | hs
  · rw [sequencer_holding hs]
    by_cases hd : slewDue s.ports[p].run = true
    · rw [if_pos hd]
      exact enterHeld_carried ..
    · rw [if_neg hd]
      exact carried_of_state (hdrain.trans hs) rfl
  · rw [sequencer_ending hs]
    by_cases hd : slewDue s.ports[p].run = true
    · rw [if_pos hd]
      exact completeEnding_carried ..
    · rw [if_neg hd]
      exact carried_of_state (hdrain.trans hs) rfl

theorem sequencer_carried (v : Sample) (hb : isBound s.ports[p].run.state = true) : Carried p (sequencerSample p v s) := by
  cases hs : s.ports[p].run.state with
  | vacant | identifying | unidentified | ready | faulted =>
    rw [hs] at hb
    exact absurd hb (by simp [isBound])
  | held =>
    rw [sequencer_idle (.inr (.inl hs))]
    exact carried_of_state (x := .held) (by rw [idleSample_run, hs]) rfl
  | transfer => exact transfer_carried v hs
  | running => exact running_carried v hs
  | holding => exact drained_carried v (.inl hs)
  | ending => exact drained_carried v (.inr hs)

/-! ### What the sequencer leaves to the other consumers -/

theorem ite_rel {α : Type} {K : α → Prop} {c : Prop} [Decidable c] {x y : α} (hx : K x) (hy : K y) : K (if c then x else y) := by
  split
  · exact hx
  · exact hy

theorem completeDrain_onward (p : Fin 8) (s : State) : Onward p s (completeDrain p s) := by
  unfold completeDrain
  dsimp only
  split
  · obtain ⟨st, sl, nd, -, hport⟩ := acquire_port p (setBasis p (some _) (modRun p _ _))
    constructor <;> rw [hport] <;> simp
  · constructor <;> simp

theorem enterHeld_onward (p : Fin 8) (s : State) : Onward p s (enterHeld p s) := by
  constructor <;> simp [enterHeld, intakeCore]

theorem completeEnding_onward (p : Fin 8) (s : State) : Onward p s (completeEnding p s) := by
  constructor <;> simp [completeEnding]

theorem runningSample_onward (p : Fin 8) (v : Sample) (s : State) : Onward p s (runningSample p v s) := by
  cases he : stepEnd (runningCount p v s).ports[p] v with
  | none =>
    rw [runningSample_goes he]
    exact (steady_runningCount ..).onward
  | some x =>
    rw [runningSample_ends he]
    exact (steady_runningCount ..).onward.trans (endStep_onward ..)

theorem sequencer_onward (p : Fin 8) (v : Sample) (s : State) : Onward p s (sequencerSample p v s) := by
  have hdrain := (steady_drainSample p v s).onward
  have hidle := (steady_idleSample p v s).onward
  cases hs : s.ports[p].run.state with
  | vacant | identifying | unidentified | ready | faulted | held =>
    rw [sequencer_idle (by rw [hs]; simp [commandsNone, isIdle])]
    exact hidle
  | transfer =>
    cases hg : s.ports[p].run.stage with
    | draining =>
      rw [sequencer_draining hs hg]
      exact ite_rel (K := Onward p s) (hdrain.trans (completeDrain_onward ..)) hdrain
    | acquiring =>
      rw [sequencer_acquiring hs hg]
      exact hidle
    | ramping =>
      rw [sequencer_ramping hs hg]
      exact (steady_rampSample ..).onward
  | running =>
    rw [sequencer_running hs]
    exact runningSample_onward ..
  | holding =>
    rw [sequencer_holding hs]
    exact ite_rel (K := Onward p s) (hdrain.trans (enterHeld_onward ..)) hdrain
  | ending =>
    rw [sequencer_ending hs]
    exact ite_rel (K := Onward p s) (hdrain.trans (completeEnding_onward ..)) hdrain

/-- A port of no run stands in its state at a sample. -/
theorem sequencer_stays (v : Sample) (h : isBound s.ports[p].run.state = false) :
    (sequencerSample p v s).ports[p].run.state = s.ports[p].run.state := by
  rw [sequencer_idle, idleSample_run]
  generalize s.ports[p].run.state = x at h
  cases x <;> simp_all [commandsNone, isIdle, isBound]

theorem completeEnding_state (p : Fin 8) (s : State) : (completeEnding p s).ports[p].run.state = .ready := by
  simp [completeEnding]

theorem ending_after (v : Sample) (h : s.ports[p].run.state = .ending) :
    (sequencerSample p v s).ports[p].run.state = .ready ∨ (sequencerSample p v s).ports[p].run.state = .ending := by
  obtain ⟨hdrain, -⟩ := drainSample_state p v s
  rw [sequencer_ending h]
  by_cases hd : slewDue s.ports[p].run = true
  · rw [if_pos hd]
    exact .inl (completeEnding_state ..)
  · rw [if_neg hd]
    exact .inr (hdrain.trans h)

/-- The state after the sequencer's work is checked for VOLTAGE_LOW only where the state before was (R171). -/
theorem sequencer_checked (v : Sample) (code : FaultCode) (h : tripChecked (sequencerSample p v s).ports[p].run.state code = true) :
    tripChecked s.ports[p].run.state code = true := by
  cases hs : s.ports[p].run.state with
  | transfer | running | holding => cases code <;> rfl
  | vacant | identifying | unidentified | ready | faulted =>
    rwa [sequencer_stays v (by rw [hs]; rfl), hs] at h
  | held =>
    rw [sequencer_idle (.inr (.inl hs)), idleSample_run] at h
    rwa [hs] at h
  | ending =>
    rcases ending_after v hs with he | he <;> rw [he] at h <;> cases code <;> simp_all [tripChecked]

end

end Sys2Proof.Samples
end

section
/-! PROOFS. The rows of a sample instant: what the intake hands on, the orders of the consumers (log entry 1), and the form of an
instant at which no fault of its own reaches the port. -/

open Sys2Proof Sys2Proof.Machine Sys2Proof.Indexing Sys2Proof.PoolPhases Sys2Proof.Acquiring Sys2Proof.Faults Sys2Proof.FaultPaths
open Sys2Proof.Samples

namespace Sys2Proof.Instants

section
variable {p : Fin 8} {s t u x y : State} {v : Sample} {rd : Reading} {reply : List Byte} {codes : Int × Int × Int}
  {arrived : Bool} {raw : Nat}

/-! ### A reading and its sample (R55, R59, R60) -/

/-- Whether a reading is an arrival. -/
def arrives : Reading → Bool
  | .arrival _ => true
  | .missed => false

/-- The intake's work on a reading. -/
def takenIn (p : Fin 8) (v : Sample) (s : State) : Reading → State
  | .arrival _ => intakeArrival p v s
  | .missed => intakeMissed p s

/-- What follows the consumers' work: the strobe of a missed sample. -/
def concluded (p : Fin 8) (s : State) : Reading → State
  | .arrival _ => s
  | .missed => send (.strobe p) (modIntake p (fun i => { i with strobe := .awaited }) s)

theorem arrival_sample (hs : s.ports[p].intake.strobe = .awaited) (hc : replyCodes reply = some codes) :
    readingSample s.ports[p] (.arrival reply) = some (convertSample s.ports[p].intake codes) := by
  simp only [readingSample, hs, if_true, hc, Option.map_some]

theorem sample_arrival (h : readingSample s.ports[p] (.arrival reply) = some v) :
    s.ports[p].intake.strobe = .awaited ∧ ∃ codes, replyCodes reply = some codes ∧ v = convertSample s.ports[p].intake codes := by
  unfold readingSample at h
  dsimp only at h
  split at h
  · next hs =>
    obtain ⟨codes, hc, hv⟩ := Option.map_eq_some_iff.mp h
    exact ⟨hs, codes, hc, hv.symm⟩
  · cases h

theorem sample_missed (h : readingSample s.ports[p] .missed = some v) :
    strobeMissed s.ports[p] = true ∧ v = nextHeld s.ports[p].intake := by
  unfold readingSample at h
  dsimp only at h
  split at h
  · next hs => exact ⟨hs, (Option.some.inj h).symm⟩
  · cases h

theorem takeReading_eq (h : readingSample s.ports[p] rd = some v) :
    takeReading p s rd = concluded p (handOn p (arrives rd) v (takenIn p v s rd)) rd := by
  cases rd with
  | arrival reply =>
    obtain ⟨hs, codes, hc, rfl⟩ := sample_arrival h
    have hnot : ¬ s.ports[p].intake.strobe ≠ .awaited := not_not.mpr hs
    simp only [takeReading, receiveReply, if_neg hnot, hc]
    rfl
  | missed =>
    obtain ⟨hs, rfl⟩ := sample_missed h
    simp only [takeReading, strobe, if_pos hs]
    rfl

theorem exec_readingRow (p : Fin 8) (rd : Reading) (s : State) : exec (readingRow p rd) s = .next (takeReading p s rd) := by
  cases rd <;> rfl

theorem namedInstant_due {due : Port → Sample → Bool} (h : readingSample s.ports[p] rd = some v) (hd : due s.ports[p] v = true) :
    namedInstant p rd due s = takeReading p s rd := by
  simp only [namedInstant, h, hd, if_true]

/-- The state that the consumers of a reading start from. -/
def handed (p : Fin 8) (rd : Reading) (v : Sample) (s : State) : State :=
  { takenIn p v s rd with instants := (takenIn p v s rd).instants + 1 }

/-- A sample instant: the intake's work, the consumers in some order, and the strobe of a missed sample. -/
theorem takeReading_instant (h : readingSample s.ports[p] rd = some v) :
    ∃ o, takeReading p s rd = concluded p (consumeIn o p (arrives rd) v (handed p rd v s)) rd :=
  ⟨_, takeReading_eq h⟩

/-! ### The orders of the consumers (R42, log entry 1) -/

/-- The protection unit's work on a sample. -/
def protects (p : Fin 8) (arrived : Bool) (v : Sample) (s : State) : State :=
  if arrived then protectArrival p v s else protectMissed p s

/-- The orders in which the sequencer comes before the accounting are not taken in RUNNING. -/
theorem consumeIn_orders (o : Config.ConsumerOrder) (p : Fin 8) (arrived : Bool) (v : Sample) (s : State) :
    consumeIn o p arrived v s = protects p arrived v (sequencerSample p v (accountSample p v s)) ∨
    consumeIn o p arrived v s = sequencerSample p v (protects p arrived v (accountSample p v s)) ∨
    consumeIn o p arrived v s = sequencerSample p v (accountSample p v (protects p arrived v s)) ∨
    (s.ports[p].run.state ≠ .running ∧
      (consumeIn o p arrived v s = protects p arrived v (accountSample p v (sequencerSample p v s)) ∨
       consumeIn o p arrived v s = accountSample p v (protects p arrived v (sequencerSample p v s)) ∨
       consumeIn o p arrived v s = accountSample p v (sequencerSample p v (protects p arrived v s)))) := by
  cases o with
  | accountingSequencerProtection => exact .inl rfl
  | accountingProtectionSequencer => exact .inr (.inl rfl)
  | protectionAccountingSequencer => exact .inr (.inr (.inl rfl))
  | sequencerAccountingProtection =>
    by_cases hr : s.ports[p].run.state = .running
    · exact .inl (by simp only [consumeIn, consumers, hr, decide_true, if_true]; rfl)
    · exact .inr (.inr (.inr ⟨hr, .inl (by simp only [consumeIn, consumers, hr, decide_false, Bool.false_eq_true, if_false]; rfl)⟩))
  | sequencerProtectionAccounting =>
    by_cases hr : s.ports[p].run.state = .running
    · exact .inl (by simp only [consumeIn, consumers, hr, decide_true, if_true]; rfl)
    · exact .inr (.inr (.inr ⟨hr, .inr (.inl (by
        simp only [consumeIn, consumers, hr, decide_false, Bool.false_eq_true, if_false]; rfl))⟩))
  | protectionSequencerAccounting =>
    by_cases hr : s.ports[p].run.state = .running
    · exact .inr (.inr (.inl (by simp only [consumeIn, consumers, hr, decide_true, if_true]; rfl)))
    · exact .inr (.inr (.inr ⟨hr, .inr (.inr (by
        simp only [consumeIn, consumers, hr, decide_false, Bool.false_eq_true, if_false]; rfl))⟩))

/-! ### An instant without a fault of its own -/

/-- A port's filters set. -/
def filtered (p : Fin 8) (f : Vector Nat 6) (s : State) : State := modProt p (fun x => { x with filters := f }) s

theorem filtered_port (f : Vector Nat 6) : (filtered p f s).ports[p] =
    { s.ports[p] with prot := { s.ports[p].prot with filters := f } } := by
  rw [filtered, modProt_self]

theorem modPort_id {g : Port → Port} (h : g s.ports[p] = s.ports[p]) : modPort p g s = s := by
  unfold modPort
  rw [h, Fin.getElem_fin, Vector.set_getElem_self]

theorem filtered_own (p : Fin 8) (s : State) : filtered p s.ports[p].prot.filters s = s :=
  modPort_id (g := fun q => { q with prot := { q.prot with filters := s.ports[p].prot.filters } }) rfl

theorem filtered_account (f : Vector Nat 6) : accountSample p v (filtered p f s) = filtered p f (accountSample p v s) := by
  simp only [filtered, modProt, accountSample, modPort_modPort]
  exact Owners.modPort_congr rfl

/-- No fault of a sample's own reaches the port: no filter fires at an arrival, and no missed sample raises MEASUREMENT_LOST. -/
def Clear (p : Fin 8) (arrived : Bool) (v : Sample) (s : State) : Prop :=
  (arrived = true → firing s.ports[p] v = []) ∧
  (arrived = false → lostRaised s.ports[p].run.state s.ports[p].intake.missed = false)

theorem protects_clear (h : Clear p arrived v s) : ∃ f, protects p arrived v s = filtered p f s := by
  obtain ⟨hfire, hlost⟩ := h
  cases arrived with
  | true =>
    refine ⟨filtersAfter s.ports[p] v, ?_⟩
    simp only [protects, if_true, protectArrival, hfire rfl, List.foldl_nil]
    rfl
  | false =>
    refine ⟨s.ports[p].prot.filters, ?_⟩
    simp only [protects, Bool.false_eq_true, if_false, protectMissed, hlost rfl, filtered_own]

theorem mem_firing {q : Port} {code : FaultCode} : code ∈ firing q v ↔
    ∃ k : Fin 6, q.prot.filters[k] ≠ 3 ∧ filterAfter q v (tripCodes.getD k .lockout) q.prot.filters[k] = 3 ∧
      tripCodes.getD k .lockout = code := by
  simp [firing, filtersAfter, and_assoc]

/-- A filter that fires at a port fires at one with the same envelope and filters whose state checks it. -/
theorem firing_of_checked {q q' : Port} {code : FaultCode} (hp : q'.ident.present = q.ident.present)
    (he : q'.prot.effective = q.prot.effective) (hf : q'.prot.filters = q.prot.filters)
    (hc : tripChecked q'.run.state code = true → tripChecked q.run.state code = true) (h : code ∈ firing q' v) :
    code ∈ firing q v := by
  obtain ⟨k, hne, hthree, hk⟩ := mem_firing.mp h
  refine mem_firing.mpr ⟨k, by rwa [← hf], ?_, hk⟩
  rw [hk] at hthree ⊢
  unfold filterAfter at hthree ⊢
  rw [hp, he, hf] at hthree
  split at hthree
  · next hcond =>
    simp only [Bool.and_eq_true] at hcond
    rw [if_pos (by simp [hcond, hc hcond.1.2])]
    exact hthree
  · exact absurd hthree (by decide)

theorem firing_nil {q q' : Port} (hp : q'.ident.present = q.ident.present) (he : q'.prot.effective = q.prot.effective)
    (hf : q'.prot.filters = q.prot.filters)
    (hc : ∀ code, tripChecked q'.run.state code = true → tripChecked q.run.state code = true) (h : firing q v = []) :
    firing q' v = [] :=
  List.eq_nil_iff_forall_not_mem.mpr fun code hcode => by
    have := firing_of_checked hp he hf (hc code) hcode
    rw [h] at this
    cases this

theorem clear_account (h : Clear p arrived v s) : Clear p arrived v (accountSample p v s) := by
  have hport : (accountSample p v s).ports[p] = account v s.ports[p] := modPort_self ..
  rw [Clear, hport]
  exact ⟨fun ha => firing_nil (q := s.ports[p]) rfl rfl rfl (fun _ => id) (h.1 ha), h.2⟩

theorem clear_sequencer (h : Clear p arrived v s) : Clear p arrived v (sequencerSample p v s) := by
  obtain ⟨hcore, hpres, heff, hfil⟩ := sequencer_onward p v s
  refine ⟨fun ha => firing_nil hpres heff hfil (fun code => sequencer_checked v code) (h.1 ha), fun ha => ?_⟩
  have hmissed : (sequencerSample p v s).ports[p].intake.missed = s.ports[p].intake.missed := 
    congrArg (fun i => i.missed) hcore
  have hlost := h.2 ha
  rw [hmissed]
  by_cases hb : isBound s.ports[p].run.state = true
  · have hnot {x : PortState} (hx : isBound x = false) : s.ports[p].run.state ≠ x := fun he => by
      rw [he, hx] at hb
      exact Bool.false_ne_true hb
    have hv : s.ports[p].run.state ≠ .vacant := hnot rfl
    have hf : s.ports[p].run.state ≠ .faulted := hnot rfl
    simp only [lostRaised, hv, hf, ne_eq, not_false_eq_true, decide_true, Bool.true_and, Bool.and_true, Bool.or_eq_false_iff,
      decide_eq_false_iff_not] at hlost
    simp only [lostRaised, hlost, decide_false, Bool.false_and, Bool.or_false, Bool.and_false]
  · rw [sequencer_stays v (by simpa using hb), hlost]

/-- The two forms of an instant at which no fault of its own reaches the port: the sample is accounted before the sequencer takes
it, or, outside RUNNING, behind it; and the filters are set somewhere on the way. -/
theorem clear_consumeIn (h : Clear p arrived v s) (o : Config.ConsumerOrder) : ∃ f g,
    consumeIn o p arrived v s = filtered p g (sequencerSample p v (filtered p f (accountSample p v s))) ∨
    (s.ports[p].run.state ≠ .running ∧
      consumeIn o p arrived v s = filtered p g (accountSample p v (sequencerSample p v (filtered p f s)))) := by
  obtain ⟨f, hf⟩ := protects_clear h
  have hacc := clear_account h
  obtain ⟨fa, hfa⟩ := protects_clear hacc
  have hseq := clear_sequencer h
  obtain ⟨fq, hfq⟩ := protects_clear hseq
  obtain ⟨fqa, hfqa⟩ := protects_clear (clear_account hseq)
  obtain ⟨faq, hfaq⟩ := protects_clear (clear_sequencer hacc)
  have hown (x : State) : ∃ g, x = filtered p g x := ⟨_, (filtered_own p x).symm⟩
  rcases consumeIn_orders o p arrived v s with ho | ho | ho | ⟨hr, ho | ho | ho⟩
  · obtain ⟨g, hg⟩ := hown (accountSample p v s)
    exact ⟨g, faq, .inl (by rw [ho, hfaq, ← hg])⟩
  · obtain ⟨g, hg⟩ := hown (sequencerSample p v (filtered p fa (accountSample p v s)))
    exact ⟨fa, g, .inl (by rw [ho, hfa, ← hg])⟩
  · obtain ⟨g, hg⟩ := hown (sequencerSample p v (filtered p f (accountSample p v s)))
    exact ⟨f, g, .inl (by rw [ho, hf, filtered_account, ← hg])⟩
  · obtain ⟨g, hg⟩ := hown s
    exact ⟨g, fqa, .inr ⟨hr, by rw [ho, hfqa, ← hg]⟩⟩
  · obtain ⟨g, hg⟩ := hown s
    exact ⟨g, fq, .inr ⟨hr, by rw [ho, hfq, filtered_account, ← hg]⟩⟩
  · obtain ⟨g, hg⟩ := hown (accountSample p v (sequencerSample p v (filtered p f s)))
    exact ⟨f, g, .inr ⟨hr, by rw [ho, hf, ← hg]⟩⟩

/-! ### What the intake's work changes -/

/-- The state behind the intake's work on a reading, and behind what the other consumers add to it before the sequencer: the port's
intake, the resistance of its step, its accounts and its filters alone. -/
structure Fed (p : Fin 8) (s y : State) : Prop where
  port : ∃ i res a fl, y.ports[p] = { s.ports[p] with
    intake := i, run := { s.ports[p].run with resistance := res }, acct := a, prot := { s.ports[p].prot with filters := fl } }
  others : ∀ q : Fin 8, q ≠ p → y.ports[q] = s.ports[q]
  defaults : y.ports[p].intake.defaults = s.ports[p].intake.defaults
  headers : y.headers = s.headers
  pool : y.pool = s.pool
  history : y.history = s.history
  alloc : y.alloc = s.alloc
  prot : y.prot = s.prot
  cmd : FlagsRise s.cmd y.cmd

theorem Fed.refl (p : Fin 8) (s : State) : Fed p s s := ⟨⟨_, _, _, _, rfl⟩, fun _ _ => rfl, rfl, rfl, rfl, rfl, rfl, rfl, .refl _⟩

theorem Fed.trans (h : Fed p s t) (h' : Fed p t u) : Fed p s u := by
  obtain ⟨i, res, a, fl, hport⟩ := h.port
  obtain ⟨i', res', a', fl', hport'⟩ := h'.port
  exact ⟨⟨i', res', a', fl', by rw [hport', hport]⟩, fun q hq => (h'.others q hq).trans (h.others q hq), h'.defaults.trans h.defaults, h'.headers.trans h.headers, h'.pool.trans h.pool,
    h'.history.trans h.history, h'.alloc.trans h.alloc, h'.prot.trans h.prot, h.cmd.trans h'.cmd⟩

theorem fed_modPort {g : Port → Port} (h : ∃ i res a fl, g s.ports[p] = { s.ports[p] with
      intake := i, run := { s.ports[p].run with resistance := res }, acct := a, prot := { s.ports[p].prot with filters := fl } })
    (hd : (g s.ports[p]).intake.defaults = s.ports[p].intake.defaults) : Fed p s (modPort p g s) := by
  obtain ⟨i, res, a, fl, hg⟩ := h
  exact ⟨⟨i, res, a, fl, by rw [modPort_self, hg]⟩, fun q hq => modPort_other _ hq g, by rw [modPort_self, hd], rfl, rfl, rfl, rfl, rfl, .refl _⟩

/-- The intake's own work on a reading: the port's intake, the resistance of its step and of its unfolded set, and flags. -/
structure Taken (p : Fin 8) (s y : State) : Prop where
  port : ∃ i res z, y.ports[p] = { s.ports[p] with
    intake := i, run := { s.ports[p].run with resistance := res }
    acct := { s.ports[p].acct with unfolded := { s.ports[p].acct.unfolded with lastResistance := z } } }
  others : ∀ q : Fin 8, q ≠ p → y.ports[q] = s.ports[q]
  defaults : y.ports[p].intake.defaults = s.ports[p].intake.defaults
  headers : y.headers = s.headers
  pool : y.pool = s.pool
  history : y.history = s.history
  alloc : y.alloc = s.alloc
  prot : y.prot = s.prot
  cmd : FlagsRise s.cmd y.cmd

theorem Taken.refl (p : Fin 8) (s : State) : Taken p s s := ⟨⟨_, _, _, rfl⟩, fun _ _ => rfl, rfl, rfl, rfl, rfl, rfl, rfl, .refl _⟩

theorem Taken.trans (h : Taken p s t) (h' : Taken p t u) : Taken p s u := by
  obtain ⟨i, res, z, hport⟩ := h.port
  obtain ⟨i', res', z', hport'⟩ := h'.port
  exact ⟨⟨i', res', z', by rw [hport', hport]⟩, fun q hq => (h'.others q hq).trans (h.others q hq), h'.defaults.trans h.defaults, h'.headers.trans h.headers, h'.pool.trans h.pool,
    h'.history.trans h.history, h'.alloc.trans h.alloc, h'.prot.trans h.prot, h.cmd.trans h'.cmd⟩

theorem Taken.fed (h : Taken p s y) : Fed p s y := by
  obtain ⟨i, res, z, hport⟩ := h.port
  exact ⟨⟨i, res, _, _, hport⟩, h.others, h.defaults, h.headers, h.pool, h.history, h.alloc, h.prot, h.cmd⟩

theorem taken_modPort {g : Port → Port} (h : ∃ i res z, g s.ports[p] = { s.ports[p] with
      intake := i, run := { s.ports[p].run with resistance := res }
      acct := { s.ports[p].acct with unfolded := { s.ports[p].acct.unfolded with lastResistance := z } } })
    (hd : (g s.ports[p]).intake.defaults = s.ports[p].intake.defaults) : Taken p s (modPort p g s) := by
  obtain ⟨i, res, z, hg⟩ := h
  exact ⟨⟨i, res, z, by rw [modPort_self, hg]⟩, fun q hq => modPort_other _ hq g, by rw [modPort_self, hd], rfl, rfl, rfl, rfl, rfl, .refl _⟩

theorem taken_modIntake {g : Intake → Intake} (hd : (g s.ports[p].intake).defaults = s.ports[p].intake.defaults) :
    Taken p s (modIntake p g s) :=
  taken_modPort ⟨_, _, _, rfl⟩ hd

theorem taken_raisePort (f : PortFlag) : Taken p s (raisePort f p s) :=
  ⟨⟨_, _, _, rfl⟩, fun _ _ => rfl, rfl, rfl, rfl, rfl, rfl, rfl, (raisePort_portWork (b := true) (p := p) f p).cmd⟩

theorem taken_settleUpdate (p : Fin 8) (v : Sample) (s : State) : Taken p s (settleUpdate p v s) := by
  unfold settleUpdate
  dsimp only
  split
  · split
    · split
      · exact ite_rel (K := Taken p s) ((taken_modIntake rfl).trans (taken_raisePort _)) (taken_modIntake rfl)
      · exact .refl p s
    · exact .refl p s
  · exact .refl p s

theorem taken_takeCaptureA (p : Fin 8) (v : Sample) (held : Bool) (s : State) : Taken p s (takeCaptureA p v held s) :=
  ite_rel (K := Taken p s) (taken_modIntake rfl) (.refl p s)

theorem taken_takeCaptureB (p : Fin 8) (v : Sample) (s : State) : Taken p s (takeCaptureB p v s) := by
  unfold takeCaptureB
  split
  · split
    · unfold deliverCapture
      exact (taken_modPort ⟨_, _, _, rfl⟩ rfl).trans (taken_raisePort _)
    · exact .refl p s
  · exact .refl p s

theorem taken_takenIn (p : Fin 8) (v : Sample) (s : State) (rd : Reading) : Taken p s (takenIn p v s rd) := by
  cases rd with
  | arrival reply =>
    exact (taken_modIntake rfl).trans ((taken_settleUpdate ..).trans ((taken_takeCaptureA ..).trans (taken_takeCaptureB ..)))
  | missed => exact (taken_modIntake rfl).trans (taken_takeCaptureA ..)

theorem taken_handed (p : Fin 8) (rd : Reading) (v : Sample) (s : State) : Taken p s (handed p rd v s) := by
  obtain ⟨hport, ho, hd, hh, hp, hi, ha, hpr, hc⟩ := taken_takenIn p v s rd
  exact ⟨hport, ho, hd, hh, hp, hi, ha, hpr, hc⟩

theorem fed_account (p : Fin 8) (v : Sample) (s : State) : Fed p s (accountSample p v s) :=
  fed_modPort ⟨_, _, _, _, rfl⟩ rfl

theorem fed_filtered (p : Fin 8) (f : Vector Nat 6) (s : State) : Fed p s (filtered p f s) := by
  unfold filtered modProt
  exact fed_modPort ⟨_, _, _, _, rfl⟩ rfl

/-! ### What follows the sequencer -/

/-- The state behind what the other consumers add to the sequencer's work, with the strobe of a missed sample: the port's accounts,
its filters and its strobe alone. -/
structure Beside (p : Fin 8) (u t : State) : Prop where
  port : ∃ a fl st, t.ports[p] = { u.ports[p] with
    acct := a, prot := { u.ports[p].prot with filters := fl }, intake := { u.ports[p].intake with strobe := st } }
  headers : t.headers = u.headers
  pool : t.pool = u.pool
  history : t.history = u.history
  alloc : t.alloc = u.alloc
  prot : t.prot = u.prot
  cmd : t.cmd = u.cmd

theorem Beside.refl (p : Fin 8) (s : State) : Beside p s s := ⟨⟨_, _, _, rfl⟩, rfl, rfl, rfl, rfl, rfl, rfl⟩

theorem Beside.trans (h : Beside p s t) (h' : Beside p t u) : Beside p s u := by
  obtain ⟨a, fl, st, hport⟩ := h.port
  obtain ⟨a', fl', st', hport'⟩ := h'.port
  exact ⟨⟨a', fl', st', by rw [hport', hport]⟩, h'.headers.trans h.headers, h'.pool.trans h.pool, h'.history.trans h.history,
    h'.alloc.trans h.alloc, h'.prot.trans h.prot, h'.cmd.trans h.cmd⟩

theorem beside_modPort {g : Port → Port} (h : ∃ a fl st, g s.ports[p] = { s.ports[p] with
      acct := a, prot := { s.ports[p].prot with filters := fl }, intake := { s.ports[p].intake with strobe := st } }) :
    Beside p s (modPort p g s) := by
  obtain ⟨a, fl, st, hg⟩ := h
  exact ⟨⟨a, fl, st, by rw [modPort_self, hg]⟩, rfl, rfl, rfl, rfl, rfl, rfl⟩

theorem beside_account (p : Fin 8) (v : Sample) (s : State) : Beside p s (accountSample p v s) := beside_modPort ⟨_, _, _, rfl⟩

theorem beside_filtered (p : Fin 8) (f : Vector Nat 6) (s : State) : Beside p s (filtered p f s) := by
  unfold filtered modProt
  exact beside_modPort ⟨_, _, _, rfl⟩

theorem beside_concluded (p : Fin 8) (s : State) (rd : Reading) : Beside p s (concluded p s rd) := by
  cases rd with
  | arrival reply => exact .refl p s
  | missed =>
    obtain ⟨hport, hh, hp, hi, ha, hpr, hc⟩ : Beside p s (modPort p (fun q => { q with intake := { q.intake with strobe := .awaited } }) s) :=
      beside_modPort ⟨_, _, _, rfl⟩
    exact ⟨hport, hh, hp, hi, ha, hpr, hc⟩

theorem concluded_acct (p : Fin 8) (s : State) (rd : Reading) : (concluded p s rd).ports[p].acct = s.ports[p].acct := by
  cases rd with
  | arrival reply => rfl
  | missed =>
    change (modIntake p (fun i => { i with strobe := .awaited }) s).ports[p].acct = _
    rw [modIntake, modPort_self]

/-! ### The instant without a fault -/

theorem missed_handed (p : Fin 8) (v : Sample) (s : State) :
    (handed p .missed v s).ports[p].intake.missed = min 65535 (s.ports[p].intake.missed + 1) := by
  change (takeCaptureA p _ true (modIntake p _ s)).ports[p].intake.missed = _
  unfold takeCaptureA
  split
  · simp only [modIntake, modPort_self]
  · simp only [modIntake, modPort_self]

theorem clear_handed (h : faultless s.ports[p] rd v = true) : Clear p (arrives rd) v (handed p rd v s) := by
  cases rd with
  | arrival reply =>
    obtain ⟨i, res, z, hport⟩ := (taken_handed p (.arrival reply) v s).port
    refine ⟨fun _ => ?_, nofun⟩
    rw [hport]
    exact firing_nil (q := s.ports[p]) rfl rfl rfl (fun _ => id) (by simpa [faultless] using h)
  | missed =>
    obtain ⟨i, res, z, hport⟩ := (taken_handed p .missed v s).port
    refine ⟨nofun, fun _ => ?_⟩
    rw [missed_handed, hport]
    simpa [faultless] using h

/-- What the accounts of a port are on both sides of the sequencer: the sample counted before it, or, outside RUNNING, behind it. -/
def accountedAbout (p : Fin 8) (v : Sample) (x y u t : State) : Prop :=
  (y.ports[p].acct = (account v x.ports[p]).acct ∧ t.ports[p].acct = u.ports[p].acct) ∨
  (x.ports[p].run.state ≠ .running ∧ y.ports[p].acct = x.ports[p].acct ∧ t.ports[p].acct = (account v u.ports[p]).acct)

/-- A sample instant at which no fault of its own reaches the port is the sequencer's work on it, with the other consumers' beside. -/
theorem clear_instant (h : readingSample s.ports[p] rd = some v) (hf : faultless s.ports[p] rd v = true) :
    ∃ y, Fed p s y ∧ Beside p (sequencerSample p v y) (takeReading p s rd) ∧
      y.ports[p].intake = (handed p rd v s).ports[p].intake ∧ y.ports[p].run = (handed p rd v s).ports[p].run ∧
      (handed p rd v s).cmd = y.cmd ∧
      accountedAbout p v (handed p rd v s) y (sequencerSample p v y) (takeReading p s rd) := by
  obtain ⟨o, ho⟩ := takeReading_instant h
  obtain ⟨f, g, hform | ⟨hr, hform⟩⟩ := clear_consumeIn (clear_handed hf) o
  · rw [ho, hform]
    refine ⟨filtered p f (accountSample p v (handed p rd v s)),
      (taken_handed ..).fed.trans ((fed_account ..).trans (fed_filtered ..)),
      (beside_filtered ..).trans (beside_concluded ..), ?_, ?_, rfl, .inl ⟨?_, ?_⟩⟩
    · rw [filtered_port, accountSample, modPort_self]
      rfl
    · rw [filtered_port, accountSample, modPort_self]
      rfl
    · rw [filtered_port, accountSample, modPort_self]
    · rw [concluded_acct, filtered_port]
  · rw [ho, hform]
    refine ⟨filtered p f (handed p rd v s), (taken_handed ..).fed.trans (fed_filtered ..),
      (beside_account ..).trans ((beside_filtered ..).trans (beside_concluded ..)), ?_, ?_, rfl, .inr ⟨hr, ?_, ?_⟩⟩
    · rw [filtered_port]
    · rw [filtered_port]
    · rw [filtered_port]
    · rw [concluded_acct, filtered_port, accountSample, modPort_self]

/-! ### Around the sequencer's work -/

theorem Fed.sameStart (h : Fed p s y) : SameStart p s y := by
  obtain ⟨i, res, a, fl, hport⟩ := h.port
  apply sameStart_of_port h.pool <;> rw [hport]

theorem Fed.samePool (h : Fed p s y) : SamePool s y := by
  refine ⟨fun f => by rw [h.pool], by rw [h.pool], fun q => ?_⟩
  by_cases hq : q = p
  · obtain ⟨i, res, a, fl, hport⟩ := h.port
    rw [hq, hport]
  · rw [h.others q hq]

theorem samePool_trans (h : SamePool s t) (h' : SamePool t u) : SamePool s u :=
  ⟨fun f => (h'.state f).trans (h.state f), h'.queue.trans h.queue, fun q => (h'.reserved q).trans (h.reserved q)⟩

theorem drainSample_samePool (p : Fin 8) (v : Sample) (s : State) : SamePool s (drainSample p v s) := by
  have hsteady := steady_drainSample p v s
  exact ⟨hsteady.phaseState, hsteady.queue, fun q => congrArg (fun x => x.2.2.1) ((drainSample_portWork (b := true) (p := p) v).own q)⟩

/-- A drain's sample leaves what a hold, an end or a fault looks at. -/
theorem drained_sameStart (h : Fed p s y) (v : Sample) : SameStart p s (drainSample p v y) :=
  (h.sameStart).trans ((steady_drainSample p v y).sameStart (drainSample_state p v y).1)

theorem Beside.releasesUnreserved (h : Beside p u t) (hu : releasesUnreserved p s u) : releasesUnreserved p s t :=
  releasesUnreserved_congr hu (fun f => by rw [h.pool]) (by rw [h.pool])

theorem Beside.enablesFall (h : Beside p u t) (hu : enablesFall p s u) : enablesFall p s t := enablesFall_congr hu h.pool

theorem Beside.flagged (h : Beside p u t) {f : PortFlag} (hu : flagged p f u) : flagged p f t := by
  rwa [Machine.flagged, h.cmd]

theorem Beside.acquired (h : Beside p u t) (hu : acquired p raw s u) : acquired p raw s t := by
  obtain ⟨a, fl, st, hport⟩ := h.port
  exact acquired_then hu h.pool (by rw [hport]) (by rw [hport]) (h.cmd ▸ .refl _)

end

end Sys2Proof.Instants
end

section
/-! PROOFS. The last sample instant of a drain or a ramp (R34, R35, R37, R44, R47). -/

open Sys2Proof Sys2Proof.Machine Sys2Proof.Indexing Sys2Proof.PoolPhases Sys2Proof.Acquiring Sys2Proof.Faults Sys2Proof.FaultPaths
open Sys2Proof.Holds Sys2Proof.RunEnds Sys2Proof.Entering Sys2Proof.StartRun Sys2Proof.Samples Sys2Proof.Instants

namespace Sys2Proof.Slews

section
variable {p : Fin 8} {s t u y : State} {v : Sample} {rd : Reading} {r : StepRecord} {raw : Nat}

/-! ### The rows -/

theorem slewEnds_due {st : PortState} {stage : Option Stage} (hs : s.ports[p].run.state = st)
    (hg : stage = none ∨ stage = some s.ports[p].run.stage) (hd : slewDue s.ports[p].run = true) (v : Sample) :
    slewEnds st stage s.ports[p] v = true := by
  rcases hg with rfl | rfl
  · simp only [slewEnds, hs, hd, Option.isNone_none, Bool.true_or, decide_true, Bool.and_self]
  · simp only [slewEnds, hs, hd, Option.isNone_some, Bool.false_or, decide_true, Bool.and_self]

theorem applyStep_stepTimer (c : Option Nat) :
    (applyStep p r v c s).ports[p].run.stepTimer = s.ports[p].run.stepTimer := by
  simp only [applyStep, command_ports, modRun, modPort_self]

theorem subPhaseTests_stepTimer (c : Option Nat) :
    (subPhaseTests p r v c s).ports[p].run.stepTimer = s.ports[p].run.stepTimer := by
  unfold subPhaseTests
  split
  · simp [enterCv]
  · split
    · simp [updateCv]
    · split
      · simp
      · rfl

/-- A REST that is entered keeps the enables of the phases it keeps (R35, R155). -/
theorem completeDrain_keeps (hr : s.ports[p].run.step = some r) (hk : isPowerStep r.kind = false) (ha : Absent p s.pool.queue)
    {f : Fin 16} (hf : f ∈ gang p (completeDrain p s)) : (completeDrain p s).pool.phases[f] = s.pool.phases[f] := by
  have hpool : (setBasis p none (stilled p s)).pool = s.pool := by
    rw [setBasis_pool]
    rfl
  have hgang : gang p (completeDrain p s) = gang p (releaseUnreserved p (setBasis p none (stilled p s))) := by
    rw [completeDrain_rest hr hk]
    exact gang_congr fun _ => Iff.rfl
  have hkept := releaseAndServe_kept (p := p) (s := setBasis p none (stilled p s))
    (keep := (setBasis p none (stilled p s)).ports[p].phases.reserved) (f := f)
  rw [← releaseAndServe_gang (by rw [hpool]; exact ha)] at hkept
  rw [hgang] at hf
  have hph := hkept hf
  rw [hpool] at hph
  rw [completeDrain_rest hr hk]
  exact hph

/-- A ramp's last sample enters RUNNING (R37). -/
theorem rampSample_last (p : Fin 8) (v : Sample) (hd : slewDue s.ports[p].run = true) :
    (rampSample p v s).ports[p].run.state = .running ∧ (rampSample p v s).ports[p].run.slew = none ∧
    (rampSample p v s).ports[p].run.stepTimer = s.ports[p].run.stepTimer := by
  have hlast : (s.ports[p].run.slew.getD ⟨0, .charge, 0, 0⟩).time ≤ (s.ports[p].run.slew.getD ⟨0, .charge, 0, 0⟩).elapsed + 1 := by
    unfold slewDue at hd
    cases hs : s.ports[p].run.slew with
    | none => exact Nat.zero_le _
    | some d =>
      rw [hs] at hd
      simpa using hd
  have htimer (c : Option Nat) (r : StepRecord) : (applyStep p r v c (subPhaseTests p r v c s)).ports[p].run.stepTimer =
      s.ports[p].run.stepTimer := by
    rw [applyStep_stepTimer, subPhaseTests_stepTimer]
  simp only [rampSample, modRun, modPort_self, if_pos hlast, htimer, and_self]

theorem slewDue_of_fed (h : Fed p s y) (hd : slewDue s.ports[p].run = true) : slewDue y.ports[p].run = true := by
  obtain ⟨i, res, a, fl, hy⟩ := h.port
  rw [hy]
  exact hd

/-! ### The last sample of each slew, seen from the state before -/

theorem drain_completes (hfed : Fed p s y) (hbeside : Beside p (sequencerSample p v y) t) (hd : slewDue s.ports[p].run = true)
    (hs : s.ports[p].run.state = .transfer) (hg : s.ports[p].run.stage = .draining) (hr : s.ports[p].run.step = some r) :
    t.ports[p].run.applied = 0 ∧
    (isPowerStep r.kind = true → t.ports[p].run.state = .transfer ∧ t.ports[p].run.stage ≠ .draining ∧
      t.ports[p].alloc.basis = some ⟨s.ports[p].run.stepIndex, r, initialSubPhase r.kind⟩ ∧
      (isQueued p s = false → acquired p (rawNeed r s.ports[p].prot.effective.vMin) s t)) ∧
    (isPowerStep r.kind = false → t.ports[p].run.state = .running ∧ t.ports[p].run.stepTimer = 0 ∧
      t.ports[p].alloc.basis = none ∧ (isQueued p s = false → releasesUnreserved p s t ∧
        ∀ f ∈ gang p t, t.pool.phases[f].enabled = s.pool.phases[f].enabled)) := by
  obtain ⟨i, res, a, fl, hy⟩ := hfed.port
  have hsteady := steady_drainSample p v y
  have hstep : (drainSample p v y).ports[p].run.step = some r := by rw [hsteady.step, hy]; exact hr
  have hidx : (drainSample p v y).ports[p].run.stepIndex = s.ports[p].run.stepIndex := by rw [hsteady.stepIndex, hy]
  have heff : (drainSample p v y).ports[p].prot.effective = s.ports[p].prot.effective := by rw [hsteady.ownProt, hy]
  have hpool : SamePool s (drainSample p v y) := samePool_trans hfed.samePool (drainSample_samePool p v y)
  have habs (hq : isQueued p s = false) : Absent p (drainSample p v y).pool.queue := by
    rw [hpool.queue]
    exact isQueued_false.mp hq
  have hstart := drained_sameStart hfed v
  have henabled (f : Fin 16) : (drainSample p v y).pool.phases[f].enabled = s.pool.phases[f].enabled := hstart.enabled f
  rw [sequencer_draining (by rw [hy]; exact hs) (by rw [hy]; exact hg), if_pos (slewDue_of_fed hfed hd)] at hbeside
  generalize drainSample p v y = d at *
  obtain ⟨a', fl', st', ht⟩ := hbeside.port
  obtain ⟨st, sl, nd, g, hport, hpower, hrest⟩ := completeDrain_port hstep
  rw [hport] at ht
  rw [ht]
  refine ⟨rfl, fun hk => ?_, fun hk => ?_⟩
  · obtain ⟨hst, hbasis⟩ := hpower hk
    refine ⟨if_pos hk, hst, hidx ▸ hbasis, fun hq => hbeside.acquired (hpool.acquired ?_)⟩
    rw [← heff]
    exact completeDrain_acquired hstep hk (habs hq)
  · have hnk : ¬ isPowerStep r.kind = true := by simp [hk]
    refine ⟨if_neg hnk, if_neg hnk, hrest hk, fun hq => ⟨?_, fun f hmem => ?_⟩⟩
    · exact hbeside.releasesUnreserved (hstart.releasesUnreserved (completeDrain_releases hstep hk (habs hq)))
    · have hgang : gang p t = gang p (completeDrain p d) := gang_congr fun f => by rw [hbeside.pool]
      rw [hgang] at hmem
      rw [hbeside.pool, completeDrain_keeps hstep hk (habs hq) hmem, henabled]

theorem ramp_completes (hfed : Fed p s y) (hbeside : Beside p (sequencerSample p v y) t) (hd : slewDue s.ports[p].run = true)
    (hs : s.ports[p].run.state = .transfer) (hg : s.ports[p].run.stage = .ramping) :
    t.ports[p].run.state = .running ∧ t.ports[p].run.slew = none ∧ t.ports[p].run.stepTimer = s.ports[p].run.stepTimer := by
  obtain ⟨i, res, a, fl, hy⟩ := hfed.port
  obtain ⟨a', fl', st', ht⟩ := hbeside.port
  obtain ⟨hstate, hslew, htimer⟩ := rampSample_last p v (slewDue_of_fed hfed hd)
  rw [sequencer_ramping (by rw [hy]; exact hs) (by rw [hy]; exact hg)] at ht
  rw [ht]
  exact ⟨hstate, hslew, by rw [htimer, hy]⟩

theorem hold_completes (hfed : Fed p s y) (hbeside : Beside p (sequencerSample p v y) t) (hd : slewDue s.ports[p].run = true)
    (hs : s.ports[p].run.state = .holding) :
    t.ports[p].run.state = .held ∧ t.ports[p].run.applied = 0 ∧ t.ports[p].run.cvIntegrator = 0 ∧ t.ports[p].alloc.basis = none ∧
    t.ports[p].alloc.request = 0 ∧ flagged p .hold t ∧ releasesUnreserved p s t ∧ enablesFall p s t := by
  obtain ⟨i, res, a, fl, hy⟩ := hfed.port
  have hstart := drained_sameStart hfed v
  rw [sequencer_holding (by rw [hy]; exact hs), if_pos (slewDue_of_fed hfed hd)] at hbeside
  obtain ⟨a', fl', st', ht⟩ := hbeside.port
  obtain ⟨hstate, happ, hcv, -, -, -, hbasis, hreq, hflag⟩ := enterHeld_port p (drainSample p v y)
  obtain ⟨hrel, hfall⟩ := enterHeld_pool p (drainSample p v y)
  rw [ht]
  generalize enterHeld p (drainSample p v y) = u at *
  exact ⟨hstate, happ, hcv, hbasis, hreq, hbeside.flagged hflag, hbeside.releasesUnreserved (hstart.releasesUnreserved hrel),
    hbeside.enablesFall (hstart.enablesFall hfall)⟩

theorem ending_completes (hfed : Fed p s y) (hbeside : Beside p (sequencerSample p v y) t) (hd : slewDue s.ports[p].run = true)
    (hs : s.ports[p].run.state = .ending) :
    t.ports[p].run.state = .ready ∧ t.ports[p].run.program = none ∧ t.ports[p].run.outcome = s.ports[p].run.endingAs ∧
    t.ports[p].alloc.basis = none ∧ t.ports[p].alloc.request = 0 ∧ flagged p .runEnd t ∧
    (isQueued p s = false → releasesUnreserved p s t ∧ enablesFall p s t) := by
  obtain ⟨i, res, a, fl, hy⟩ := hfed.port
  have hstart := drained_sameStart hfed v
  have hending : (drainSample p v y).ports[p].run.endingAs = s.ports[p].run.endingAs := by
    rw [(steady_drainSample p v y).endingAs, hy]
  rw [sequencer_ending (by rw [hy]; exact hs), if_pos (slewDue_of_fed hfed hd)] at hbeside
  obtain ⟨a', fl', st', ht⟩ := hbeside.port
  obtain ⟨hstate, hprog, hout, happ, hbasis, hreq, hflag⟩ := completeEnding_port p (drainSample p v y)
  have hpool (hq : isQueued p s = false) := completeEnding_pool (departed_of_absent (p := p) (s := drainSample p v y)
    (by rw [hstart.queue]; exact isQueued_false.mp hq))
  rw [ht]
  generalize completeEnding p (drainSample p v y) = u at *
  refine ⟨hstate, hprog, hout.trans hending, hbasis, hreq, hbeside.flagged hflag, fun hq => ?_⟩
  obtain ⟨hrel, hfall⟩ := hpool hq
  exact ⟨hbeside.releasesUnreserved (hstart.releasesUnreserved hrel), hbeside.enablesFall (hstart.enablesFall hfall)⟩

end

/-- Settles O33: one case per kind of slew. -/
theorem slewsComplete : Obligations.SlewsComplete := by
  intro p rd v s h hd hf
  obtain ⟨y, hfed, hbeside, -, -, -, -⟩ := clear_instant h hf
  have hrow {st : PortState} {stage : Option Stage} (hs : s.ports[p].run.state = st)
      (hg : stage = none ∨ stage = some s.ports[p].run.stage) :
      Host.Outcome.next (namedInstant p rd (slewEnds st stage) s) = (.next (takeReading p s rd) : Host.Outcome State Fault Refusal) :=
    congrArg Host.Outcome.next (namedInstant_due h (slewEnds_due hs hg hd v))
  exact ⟨fun r hs hg hr => ⟨_, hrow hs (.inr (congrArg some hg.symm)), drain_completes hfed hbeside hd hs hg hr⟩,
    fun hs hg => ⟨_, hrow hs (.inr (congrArg some hg.symm)), ramp_completes hfed hbeside hd hs hg⟩,
    fun hs => ⟨_, hrow hs (.inl rfl), hold_completes hfed hbeside hd hs⟩,
    fun hs => ⟨_, hrow hs (.inl rfl), ending_completes hfed hbeside hd hs⟩⟩

end Sys2Proof.Slews
end

section
/-! PROOFS. Replies and strobes (R55, R59): what the intake has stored stands through the consumers' work, faults included. -/

open Sys2Proof Sys2Proof.Machine Sys2Proof.Indexing Sys2Proof.Faults Sys2Proof.FaultPaths Sys2Proof.Samples Sys2Proof.Instants

namespace Sys2Proof.Arrivals

section
variable {p : Fin 8} {s t u : State} {v : Sample} {rd : Reading} {arrived : Bool}

/-! ### What the intake has stored -/

/-- The sample, the missed count and the strobe of an intake. -/
def stored (i : Intake) : Option Sample × Nat × Strobe := (i.latest, i.missed, i.strobe)

theorem stored_of_core {i j : Intake} (h : intakeCore i = intakeCore j) : stored i = stored j :=
  congrArg (fun x => (x.latest, x.missed, x.strobe)) h

theorem settleUpdate_stored (p : Fin 8) (v : Sample) (s : State) :
    stored (settleUpdate p v s).ports[p].intake = stored s.ports[p].intake := by
  unfold settleUpdate
  dsimp only
  split
  · split
    · split
      · split <;> simp [stored]
      · rfl
    · rfl
  · rfl

theorem takeCaptureA_stored (p : Fin 8) (v : Sample) (held : Bool) (s : State) :
    stored (takeCaptureA p v held s).ports[p].intake = stored s.ports[p].intake := by
  unfold takeCaptureA
  split <;> simp [stored]

theorem takeCaptureB_stored (p : Fin 8) (v : Sample) (s : State) :
    stored (takeCaptureB p v s).ports[p].intake = stored s.ports[p].intake := by
  unfold takeCaptureB
  split
  · split
    · simp [stored, deliverCapture]
    · rfl
  · rfl

theorem intakeArrival_stored (p : Fin 8) (v : Sample) (s : State) :
    stored (intakeArrival p v s).ports[p].intake = (some v, 0, .answered) := by
  unfold intakeArrival
  dsimp only
  rw [takeCaptureB_stored, takeCaptureA_stored, settleUpdate_stored, modIntake, modPort_self]
  rfl

theorem intakeMissed_stored (p : Fin 8) (s : State) : stored (intakeMissed p s).ports[p].intake =
    (s.ports[p].intake.latest, min 65535 (s.ports[p].intake.missed + 1), s.ports[p].intake.strobe) := by
  unfold intakeMissed
  dsimp only
  rw [takeCaptureA_stored, modIntake, modPort_self]
  rfl

/-! ### The consumers leave it -/

theorem faults_core (p : Fin 8) : ∀ (l : List FaultCode) (s : State),
    intakeCore (l.foldl (fun t code => faultPort p code t) s).ports[p].intake = intakeCore s.ports[p].intake
  | [], s => rfl
  | code :: l, s => by rw [List.foldl_cons, faults_core p l, faultPort_core]

theorem protects_core (p : Fin 8) (arrived : Bool) (v : Sample) (s : State) :
    intakeCore (protects p arrived v s).ports[p].intake = intakeCore s.ports[p].intake := by
  unfold protects
  split
  · unfold protectArrival
    dsimp only
    rw [faults_core, modProt_self]
  · unfold protectMissed
    split
    · exact faultPort_core ..
    · rfl

theorem consume_core (p : Fin 8) (arrived : Bool) (v : Sample) (s : State) (c : Config.Consumer) :
    intakeCore (consume p arrived v s c).ports[p].intake = intakeCore s.ports[p].intake := by
  cases c with
  | accounting =>
    change intakeCore (accountSample p v s).ports[p].intake = _
    rw [accountSample, modPort_self]
    rfl
  | sequencer => exact (sequencer_onward p v s).core
  | protection => exact protects_core p arrived v s

theorem consumers_core (p : Fin 8) (arrived : Bool) (v : Sample) : ∀ (l : List Config.Consumer) (s : State),
    intakeCore (l.foldl (consume p arrived v) s).ports[p].intake = intakeCore s.ports[p].intake
  | [], s => rfl
  | c :: l, s => by rw [List.foldl_cons, consumers_core p arrived v l, consume_core]

theorem handOn_stored (p : Fin 8) (arrived : Bool) (v : Sample) (s : State) :
    stored (handOn p arrived v s).ports[p].intake = stored s.ports[p].intake := by
  unfold handOn consumeIn
  exact stored_of_core (consumers_core p arrived v _ _)

/-! ### Conversion (R55, R56) -/

theorem saturate_bounds {lo hi : Int} (h : lo ≤ hi) (x : Int) : lo ≤ saturate lo hi x ∧ saturate lo hi x ≤ hi := by
  unfold saturate
  omega

theorem receiveReply_good {reply : List Byte} {codes : Int × Int × Int} (hs : s.ports[p].intake.strobe = .awaited)
    (hc : replyCodes reply = some codes) : receiveReply p reply s = arrivalInstant p codes s := by
  have hnot : ¬ s.ports[p].intake.strobe ≠ .awaited := not_not.mpr hs
  simp only [receiveReply, if_neg hnot, hc]

theorem receiveReply_bad {reply : List Byte} (hs : s.ports[p].intake.strobe = .awaited) (hc : replyCodes reply = none) :
    receiveReply p reply s = modIntake p (fun i => { i with strobe := .failed }) s := by
  have hnot : ¬ s.ports[p].intake.strobe ≠ .awaited := not_not.mpr hs
  simp only [receiveReply, if_neg hnot, hc]

theorem receiveReply_unawaited {reply : List Byte} (hs : s.ports[p].intake.strobe ≠ .awaited) : receiveReply p reply s = s := by
  simp only [receiveReply, if_pos hs]

end

/-- Settles O28. -/
theorem sampleArrives : Obligations.SampleArrives := by
  intro p reply s
  refine ⟨fun codes hs hc => ⟨arrivalInstant p codes s, congrArg Host.Outcome.next (receiveReply_good hs hc), ?_⟩,
    fun hs hc => congrArg Host.Outcome.next (receiveReply_bad hs hc), fun hs => congrArg Host.Outcome.next (receiveReply_unawaited hs),
    rfl⟩
  have hstored : stored (arrivalInstant p codes s).ports[p].intake = (some (convertSample s.ports[p].intake codes), 0, .answered) := by
    unfold arrivalInstant
    dsimp only
    rw [handOn_stored, intakeArrival_stored]
  simp only [stored, Prod.mk.injEq] at hstored
  obtain ⟨hlatest, hmissed, hstrobe⟩ := hstored
  obtain ⟨hclo, hchi⟩ := saturate_bounds (lo := -400000) (hi := 400000) (by decide) (convert s.ports[p].intake.currentCal codes.2.1)
  obtain ⟨htlo, hthi⟩ := saturate_bounds (lo := -400) (hi := 1500) (by decide) (convert s.ports[p].intake.temperatureCal codes.2.2)
  obtain ⟨-, hvhi⟩ := saturate_bounds (lo := 0) (hi := 1000000) (by decide) (convert s.ports[p].intake.voltageCal codes.1)
  exact ⟨hlatest, hmissed, hstrobe, (arrivalInstant_portWork (b := false) (p := p) codes).sent rfl, Nat.zero_le _,
    Int.toNat_le.mpr hvhi, hclo, hchi, htlo, hthi⟩

end Sys2Proof.Arrivals
end

section
/-! PROOFS. Faults that a sample itself brings (R59, R170 to R174): a trip filter that fires, and MEASUREMENT_LOST. -/

open Sys2Proof Sys2Proof.Machine Sys2Proof.Indexing Sys2Proof.PoolPhases Sys2Proof.Faults Sys2Proof.FaultPaths Sys2Proof.Entering
open Sys2Proof.Samples Sys2Proof.Instants Sys2Proof.Arrivals

namespace Sys2Proof.Trips

section
variable {p : Fin 8} {s t u x y : State} {v : Sample} {rd : Reading} {arrived : Bool} {code : FaultCode} {more l : List FaultCode}

/-! ### The faults of a sample in turn -/

/-- The codes of the faults that a sample brings to a port, in order. -/
def raisedCodes (arrived : Bool) (v : Sample) (q : Port) : List FaultCode :=
  if arrived then firing q v else if lostRaised q.run.state q.intake.missed then [.measurementLost] else []

/-- Faults in turn. -/
def faultsIn (p : Fin 8) (l : List FaultCode) (s : State) : State := l.foldl (fun t code => faultPort p code t) s

theorem protects_eq (p : Fin 8) (arrived : Bool) (v : Sample) (s : State) :
    ∃ f, protects p arrived v s = faultsIn p (raisedCodes arrived v s.ports[p]) (filtered p f s) := by
  cases arrived with
  | true => exact ⟨filtersAfter s.ports[p] v, rfl⟩
  | false =>
    refine ⟨s.ports[p].prot.filters, ?_⟩
    simp only [protects, Bool.false_eq_true, if_false, protectMissed, raisedCodes, filtered_own]
    cases lostRaised s.ports[p].run.state s.ports[p].intake.missed <;> rfl

/-- A port has become FAULTED with a record and its flag. -/
structure Down (p : Fin 8) (t : State) : Prop where
  state : t.ports[p].run.state = .faulted
  fault : t.ports[p].prot.fault.isSome = true
  flag : flagged p .fault t

theorem writeFault_port (p : Fin 8) (code : FaultCode) (s : State) :
    (writeFault p code s).ports[p] = recordFault code s.prot.time s.ports[p] := modPort_self ..

theorem down_faultPort (hv : s.ports[p].run.state ≠ .vacant) (hf : s.ports[p].run.state ≠ .faulted) (hc : code ≠ .programFault) :
    Down p (faultPort p code s) := by
  obtain ⟨hstate, hflag⟩ := hasFaulted_state (faultPort_faulted hc hv) hf
  refine ⟨hstate, ?_, hflag⟩
  rw [faultPort_prot hv]
  exact recordFault_isSome ..

theorem Down.again (h : Down p t) (code : FaultCode) : Down p (faultPort p code t) := by
  rw [faultPort_again h.state]
  refine ⟨?_, ?_, h.flag⟩
  · rw [writeFault_port, recordFault_run]
    exact h.state
  · rw [writeFault_port]
    exact recordFault_isSome ..

theorem Down.faultsIn (h : Down p t) (l : List FaultCode) : Down p (faultsIn p l t) := by
  induction l generalizing t with
  | nil => exact h
  | cons code l ih => exact ih (h.again code)

/-- The command off and no program bound. -/
structure Gone (p : Fin 8) (t : State) : Prop where
  applied : t.ports[p].run.applied = 0
  program : t.ports[p].run.program = none

/-- A fault outside a run leaves the command and the program. -/
theorem faultPort_unbound (hb : isBound s.ports[p].run.state = false) (code : FaultCode) :
    (faultPort p code s).ports[p].run.applied = s.ports[p].run.applied ∧
    (faultPort p code s).ports[p].run.program = s.ports[p].run.program := by
  cases hs : s.ports[p].run.state with
  | vacant =>
    rw [faultPort_vacant hs]
    exact ⟨rfl, rfl⟩
  | identifying =>
    rw [faultPort_identifying hs]
    constructor <;> simp [faultIdle, unread]
  | unidentified =>
    rw [faultPort_still (.inr hs)]
    constructor <;> simp [faultIdle]
  | ready =>
    rw [faultPort_still (.inl hs)]
    constructor <;> simp [faultIdle]
  | faulted =>
    rw [faultPort_again hs]
    constructor <;> simp
  | transfer | running | holding | held | ending =>
    rw [hs] at hb
    cases hb

theorem Gone.faultPort (h : Gone p s) (hb : isBound s.ports[p].run.state = false) (code : FaultCode) : Gone p (faultPort p code s) := by
  obtain ⟨happ, hprog⟩ := faultPort_unbound hb code
  exact ⟨happ.trans h.applied, hprog.trans h.program⟩

theorem gone_faultBound (p : Fin 8) (code : FaultCode) (s : State) : Gone p (faultBound p code s) := by
  constructor <;> simp [faultBound]

/-! ### A sample that brings a fault to any state with a pack -/

/-- A state with a pack in which a port is not FAULTED. -/
def Live (x : PortState) : Prop := x ≠ .vacant ∧ x ≠ .faulted

theorem live_of_bound {x : PortState} (h : isBound x = true) : Live x := by
  constructor <;> rintro rfl <;> cases h

/-- A sample brings a fault whatever the state of a live port: a filter that every state checks fires, or three samples are missed. -/
structure Raised (p : Fin 8) (arrived : Bool) (v : Sample) (s : State) : Prop where
  fires : arrived = true → ∃ code ∈ firing s.ports[p] v, code ≠ .voltageLow
  lost : arrived = false → 3 ≤ s.ports[p].intake.missed

theorem tripCode_reason : ∀ k : Fin 6, faultReason (tripCodes.getD k .lockout) = .fault ∧ tripCodes.getD k .lockout ≠ .programFault := by
  decide

/-- The codes that a sample raises end a run with reason FAULT. -/
theorem raisedCodes_reason {q : Port} (h : code ∈ raisedCodes arrived v q) : faultReason code = .fault ∧ code ≠ .programFault := by
  unfold raisedCodes at h
  split at h
  · obtain ⟨k, -, -, rfl⟩ := mem_firing.mp h
    exact tripCode_reason k
  · split at h
    · rw [List.mem_singleton.mp h]
      exact ⟨rfl, nofun⟩
    · cases h

theorem Raised.codes (h : Raised p arrived v s) (hl : Live s.ports[p].run.state) :
    ∃ code more, raisedCodes arrived v s.ports[p] = code :: more := by
  refine List.exists_cons_of_ne_nil fun hnil => ?_
  cases arrived with
  | true =>
    obtain ⟨code, hmem, -⟩ := h.fires rfl
    rw [raisedCodes, if_pos rfl] at hnil
    rw [hnil] at hmem
    cases hmem
  | false =>
    have hlost : lostRaised s.ports[p].run.state s.ports[p].intake.missed = true := by
      have hm := h.lost rfl
      simp only [lostRaised, hl.1, hl.2, ne_eq, not_false_eq_true, decide_true, Bool.true_and, Bool.and_true, Bool.or_eq_true,
        decide_eq_true_eq]
      omega
    rw [raisedCodes, if_neg Bool.false_ne_true, if_pos hlost] at hnil
    cases hnil

theorem tripChecked_of_ne (h : code ≠ .voltageLow) (st : PortState) : tripChecked st code = true := by
  cases code with
  | voltageLow => exact absurd rfl h
  | _ => rfl

theorem Raised.onward (h : Raised p arrived v s) (ho : Onward p s t) : Raised p arrived v t := by
  refine ⟨fun ha => ?_, fun ha => ?_⟩
  · obtain ⟨code, hmem, hne⟩ := h.fires ha
    exact ⟨code, firing_of_checked ho.present.symm ho.effective.symm ho.filters.symm (fun _ => tripChecked_of_ne hne _) hmem, hne⟩
  · rw [show t.ports[p].intake.missed = s.ports[p].intake.missed from congrArg (fun i => i.missed) ho.core]
    exact h.lost ha

theorem account_onward (p : Fin 8) (v : Sample) (s : State) : Onward p s (accountSample p v s) := by
  have hport : (accountSample p v s).ports[p] = account v s.ports[p] := modPort_self ..
  exact ⟨by rw [hport]; rfl, by rw [hport]; rfl, by rw [hport]; rfl, by rw [hport]; rfl, fun h => by rw [hport]; exact h⟩

theorem account_run (p : Fin 8) (v : Sample) (s : State) : (accountSample p v s).ports[p].run = s.ports[p].run ∧
    (accountSample p v s).ports[p].prot = s.ports[p].prot := by
  rw [accountSample, modPort_self]
  exact ⟨rfl, rfl⟩

theorem Down.of_port (h : Down p s) (hs : t.ports[p].run.state = s.ports[p].run.state)
    (hf : t.ports[p].prot.fault = s.ports[p].prot.fault) (hc : t.cmd = s.cmd) : Down p t :=
  ⟨hs.trans h.state, hf ▸ h.fault, by rw [flagged, hc]; exact h.flag⟩

theorem Down.account (h : Down p s) (v : Sample) : Down p (accountSample p v s) := by
  obtain ⟨hrun, hprot⟩ := account_run p v s
  exact h.of_port (by rw [hrun]) (by rw [hprot]) rfl

theorem Down.sequencer (h : Down p s) (v : Sample) : Down p (sequencerSample p v s) ∧ (sequencerSample p v s).ports[p].run.applied = 0 ∧
    (sequencerSample p v s).ports[p].run.program = s.ports[p].run.program := by
  have hport := idleSample_run p v s
  rw [sequencer_idle (.inr (.inr h.state))]
  exact ⟨h.of_port (by rw [hport]) (by rw [hport]) (steady_idleSample p v s).cmd, by rw [hport], by rw [hport]⟩

theorem Down.protects (h : Down p s) (arrived : Bool) (v : Sample) : Down p (protects p arrived v s) := by
  obtain ⟨f, hf⟩ := protects_eq p arrived v s
  have hport := filtered_port (p := p) (s := s) f
  rw [hf]
  have hdown : Down p (filtered p f s) := h.of_port (by rw [hport]) (by rw [hport]) rfl
  exact hdown.faultsIn _

theorem Gone.of_run (h : Gone p s) (hr : t.ports[p].run = s.ports[p].run) : Gone p t := ⟨hr ▸ h.applied, hr ▸ h.program⟩

theorem gone_faultsIn (l : List FaultCode) (h : Gone p s) (hd : Down p s) : Gone p (faultsIn p l s) := by
  induction l generalizing s with
  | nil => exact h
  | cons code l ih => exact ih (h.faultPort (by rw [hd.state]; rfl) code) (hd.again code)

/-- A port that a sample is to fault: live still, in its run or with its run over, or down already. -/
def Doomed (p : Fin 8) (arrived : Bool) (v : Sample) (run : Prop) (y : State) : Prop :=
  (Live y.ports[p].run.state ∧ Raised p arrived v y ∧
    (run → isBound y.ports[p].run.state = true ∨ (isBound y.ports[p].run.state = false ∧ Gone p y))) ∨
  (Down p y ∧ (run → Gone p y))

/-- A port that a sample has faulted, with its run over. -/
def Fallen (p : Fin 8) (run : Prop) (t : State) : Prop := Down p t ∧ (run → Gone p t)

section
variable {run : Prop}

theorem Fallen.account (h : Fallen p run s) (v : Sample) : Fallen p run (accountSample p v s) :=
  ⟨h.1.account v, fun hr => (h.2 hr).of_run (account_run p v s).1⟩

theorem Fallen.sequencer (h : Fallen p run s) (v : Sample) : Fallen p run (sequencerSample p v s) := by
  obtain ⟨hdown, happ, hprog⟩ := h.1.sequencer v
  exact ⟨hdown, fun hr => ⟨happ, hprog.trans (h.2 hr).program⟩⟩

theorem Doomed.account (h : Doomed p arrived v run s) : Doomed p arrived v run (accountSample p v s) := by
  obtain ⟨hrun, hprot⟩ := account_run p v s
  rcases h with ⟨hl, hr, hb⟩ | ⟨hd, hg⟩
  · refine .inl ⟨hrun ▸ hl, hr.onward (account_onward ..), fun h => ?_⟩
    rw [hrun]
    exact (hb h).imp_right fun ⟨hn, hg⟩ => ⟨hn, hg.of_run hrun⟩
  · exact .inr ⟨hd.account v, fun h => (hg h).of_run hrun⟩

theorem Doomed.sequencer (h : Doomed p arrived v run s) : Doomed p arrived v run (sequencerSample p v s) := by
  rcases h with ⟨hl, hr, hb⟩ | ⟨hd, hg⟩
  · have hraised := hr.onward (sequencer_onward p v s)
    by_cases hbound : isBound s.ports[p].run.state = true
    · rcases sequencer_carried v hbound with hcar | ⟨hstate | ⟨hstate, hfault, hflag⟩, happ, hprog⟩
      · exact .inl ⟨live_of_bound hcar, hraised, fun _ => .inl hcar⟩
      · exact .inl ⟨by rw [hstate]; exact ⟨nofun, nofun⟩, hraised, fun _ => .inr ⟨by rw [hstate]; rfl, happ, hprog⟩⟩
      · exact .inr ⟨⟨hstate, hfault, hflag⟩, fun _ => ⟨happ, hprog⟩⟩
    · have hn : isBound s.ports[p].run.state = false := by simpa using hbound
      have hstays := sequencer_stays v hn
      refine .inl ⟨by rw [hstays]; exact hl, hraised, fun h => .inr ⟨by rw [hstays]; exact hn, ?_⟩⟩
      obtain ⟨-, hg⟩ := (hb h).resolve_left hbound
      have hport := idleSample_run p v s
      rw [sequencer_idle (.inl ((isBound_or_isIdle hl.2).resolve_left hbound))]
      exact ⟨by rw [hport], by rw [hport]; exact hg.program⟩
  · obtain ⟨hdown, happ, hprog⟩ := hd.sequencer v
    exact .inr ⟨hdown, fun h => ⟨happ, hprog.trans (hg h).program⟩⟩

theorem Doomed.protects (h : Doomed p arrived v run s) : Fallen p run (protects p arrived v s) := by
  obtain ⟨f, hf⟩ := protects_eq p arrived v s
  have hport := filtered_port (p := p) (s := s) f
  rw [hf]
  rcases h with ⟨hl, hr, hb⟩ | ⟨hd, hg⟩
  · obtain ⟨code, more, hcodes⟩ := hr.codes hl
    have hcode : code ≠ .programFault := (raisedCodes_reason (hcodes ▸ List.mem_cons_self)).2
    have hstate : (filtered p f s).ports[p].run = s.ports[p].run := by rw [hport]
    have hdown : Down p (faultPort p code (filtered p f s)) := down_faultPort (hstate ▸ hl.1) (hstate ▸ hl.2) hcode
    rw [hcodes]
    refine ⟨hdown.faultsIn more, fun h => gone_faultsIn (s := faultPort p code (filtered p f s)) more ?_ hdown⟩
    rcases hb h with hbound | ⟨hn, hg⟩
    · rw [faultPort_bound (by rw [hstate]; exact hbound)]
      exact gone_faultBound ..
    · exact (hg.of_run hstate).faultPort (by rw [hstate]; exact hn) code
  · have hdown : Down p (filtered p f s) := hd.of_port (by rw [hport]) (by rw [hport]) rfl
    exact ⟨hdown.faultsIn _, fun h => gone_faultsIn _ ((hg h).of_run (by rw [hport])) hdown⟩

end

/-- A fault of the sample's own reaches a live port in every order of the consumers. -/
theorem raised_consumeIn (hl : Live s.ports[p].run.state) (hr : Raised p arrived v s) (o : Config.ConsumerOrder) :
    Fallen p (isBound s.ports[p].run.state = true) (consumeIn o p arrived v s) := by
  have hx : Doomed p arrived v (isBound s.ports[p].run.state = true) s := .inl ⟨hl, hr, .inl⟩
  rcases consumeIn_orders o p arrived v s with ho | ho | ho | ⟨-, ho | ho | ho⟩ <;> rw [ho]
  · exact hx.account.sequencer.protects
  · exact hx.account.protects.sequencer v
  · exact (hx.protects.account v).sequencer v
  · exact hx.sequencer.account.protects
  · exact hx.sequencer.protects.account v
  · exact (hx.protects.sequencer v).account v

theorem Fallen.concluded {run : Prop} (h : Fallen p run s) (rd : Reading) : Fallen p run (concluded p s rd) := by
  obtain ⟨a, fl, st, hport⟩ := (beside_concluded p s rd).port
  exact ⟨h.1.of_port (by rw [hport]) (by rw [hport]) (beside_concluded p s rd).cmd, fun hr => (h.2 hr).of_run (by rw [hport])⟩

/-- A reading that brings a fault of its own faults a port with a pack in every state. -/
theorem raised_instant (h : readingSample s.ports[p] rd = some v) (hl : Live s.ports[p].run.state)
    (hr : Raised p (arrives rd) v (handed p rd v s)) :
    Fallen p (isBound s.ports[p].run.state = true) (takeReading p s rd) := by
  obtain ⟨o, ho⟩ := takeReading_instant h
  obtain ⟨i, res, z, hport⟩ := (taken_handed p rd v s).port
  have hstate : (handed p rd v s).ports[p].run.state = s.ports[p].run.state := by rw [hport]
  have hfall := (raised_consumeIn (hstate ▸ hl) hr o).concluded rd
  rw [ho]
  rwa [hstate] at hfall

end

end Sys2Proof.Trips
end

section
/-! PROOFS. The path of a fault that a sample brings where no step ends at the instant (R49, R50, R59, R170 to R174), whatever the
order of the consumers. -/

open Sys2Proof Sys2Proof.Machine Sys2Proof.Indexing Sys2Proof.PoolPhases Sys2Proof.Faults Sys2Proof.FaultPaths Sys2Proof.Entering
open Sys2Proof.Acquiring Sys2Proof.RunEnds Sys2Proof.InterlockMask
open Sys2Proof.Samples Sys2Proof.Instants Sys2Proof.Slews Sys2Proof.Arrivals Sys2Proof.Trips

namespace Sys2Proof.TripPaths

section
variable {p : Fin 8} {s t u x y : State} {v w : Sample} {rd : Reading} {arrived : Bool} {code : FaultCode} {more : List FaultCode}
  {n : Nat} {r : StepRecord}

/-! ### A sample at which no step ends -/

theorem runningCount_stepTimer (p : Fin 8) (v : Sample) (s : State) :
    (runningCount p v s).ports[p].run.stepTimer = s.ports[p].run.stepTimer + 1 := by
  simp only [runningCount, modRun, modPort_self, applyStep_stepTimer, subPhaseTests_stepTimer]

/-- A step without conditions whose limit is not reached does not end (R38). -/
theorem stepEnd_none (hr : s.ports[p].run.step = some r) (hc : r.conditions = []) (ht : timerDue s.ports[p] v = false)
    (hs : s.ports[p].run.state = .running) (hfed : Fed p s y) : stepEnd (runningCount p v y).ports[p] v = none := by
  obtain ⟨i, res, a, fl, hy⟩ := hfed.port
  have hstep : (runningCount p v y).ports[p].run.step = some r := by rw [(steady_runningCount p v y).step, hy]; exact hr
  have htimer : (runningCount p v y).ports[p].run.stepTimer = s.ports[p].run.stepTimer + 1 := by
    rw [runningCount_stepTimer, hy]
  simp only [timerDue, hr, hs, decide_true, Bool.true_and, Bool.or_eq_false_iff, Bool.and_eq_false_iff, decide_eq_false_iff_not] at ht
  obtain ⟨hd, hpulse⟩ := ht
  simp only [stepEnd, hstep, hc, List.findIdx?_nil, htimer, if_neg hd]
  exact if_neg fun h => hpulse.elim (fun hk => hk h.1) fun hk => hk h.2

/-- No step of the port ends at a sample. -/
def Goes (p : Fin 8) (v : Sample) (y : State) : Prop :=
  y.ports[p].run.state = .running → stepEnd (runningCount p v y).ports[p] v = none

/-- A reading at which no step ends, from the state before it. -/
theorem goes_of (hgo : s.ports[p].run.state ≠ .running ∨
      (timerDue s.ports[p] v = false ∧ ∃ x, s.ports[p].run.step = some x ∧ x.conditions = [])) (hy : Fed p s y) : Goes p v y := by
  obtain ⟨i, res, a, fl, hyp⟩ := hy.port
  intro hr
  have hrun : s.ports[p].run.state = .running := by
    rw [hyp] at hr
    exact hr
  obtain ⟨ht, x, hx, hc⟩ := hgo.resolve_left (not_not.mpr hrun)
  exact stepEnd_none hx hc ht hrun hy

theorem transfer_after (hs : y.ports[p].run.state = .transfer) : (sequencerSample p v y).ports[p].run.state = .transfer ∨
    (sequencerSample p v y).ports[p].run.state = .running := by
  obtain ⟨hdrain, -⟩ := drainSample_state p v y
  cases hg : y.ports[p].run.stage with
  | draining =>
    rw [sequencer_draining hs hg]
    by_cases hd : slewDue y.ports[p].run = true
    · rw [if_pos hd]
      exact completeDrain_state ..
    · rw [if_neg hd]
      exact .inl (hdrain.trans hs)
  | acquiring =>
    rw [sequencer_acquiring hs hg, idleSample_run]
    exact .inl hs
  | ramping =>
    rw [sequencer_ramping hs hg]
    exact rampSample_state p v y hs

theorem enterHeld_held (p : Fin 8) (s : State) : (enterHeld p s).ports[p].run.state = .held := enterHeld_state

theorem holding_after (hs : y.ports[p].run.state = .holding) :
    (slewDue y.ports[p].run = true ∧ (sequencerSample p v y).ports[p].run.state = .held) ∨
    (sequencerSample p v y).ports[p].run.state = .holding := by
  obtain ⟨hdrain, -⟩ := drainSample_state p v y
  rw [sequencer_holding hs]
  by_cases hd : slewDue y.ports[p].run = true
  · rw [if_pos hd]
    exact .inl ⟨hd, enterHeld_held ..⟩
  · rw [if_neg hd]
    exact .inr (hdrain.trans hs)

/-- Where the sequencer's work leads a port whose step does not end. -/
theorem sequencer_moves (h : Goes p v y) :
    (sequencerSample p v y).ports[p].run.state = y.ports[p].run.state ∨
    (y.ports[p].run.state = .transfer ∧ (sequencerSample p v y).ports[p].run.state = .running) ∨
    (y.ports[p].run.state = .holding ∧ slewDue y.ports[p].run = true ∧ (sequencerSample p v y).ports[p].run.state = .held) ∨
    (y.ports[p].run.state = .ending ∧ (sequencerSample p v y).ports[p].run.state = .ready) := by
  cases hs : y.ports[p].run.state with
  | vacant | identifying | unidentified | ready | faulted =>
    exact .inl ((sequencer_stays v (by rw [hs]; rfl)).trans hs)
  | held =>
    left
    rw [sequencer_idle (.inr (.inl hs)), idleSample_run, hs]
  | running =>
    left
    rw [sequencer_running hs, runningSample_goes (h hs), runningCount_state, hs]
  | transfer =>
    rcases transfer_after (v := v) hs with he | he
    · exact .inl he
    · exact .inr (.inl ⟨rfl, he⟩)
  | holding =>
    rcases holding_after (v := v) hs with ⟨hd, he⟩ | he
    · exact .inr (.inr (.inl ⟨rfl, hd, he⟩))
    · exact .inl he
  | ending =>
    rcases ending_after v hs with he | he
    · exact .inr (.inr (.inr ⟨rfl, he⟩))
    · exact .inl he

theorem completeDrain_prot (p : Fin 8) (s : State) : (completeDrain p s).ports[p].prot = s.ports[p].prot := by
  unfold completeDrain
  dsimp only
  split
  · obtain ⟨st, sl, nd, -, hport⟩ := acquire_port p (setBasis p (some _) (modRun p _ _))
    rw [hport]
    simp
  · simp

theorem enterHeld_prot (p : Fin 8) (s : State) : (enterHeld p s).ports[p].prot = s.ports[p].prot := by
  simp [enterHeld]

theorem completeEnding_prot (p : Fin 8) (s : State) : (completeEnding p s).ports[p].prot = s.ports[p].prot := by
  simp [completeEnding]

/-- Without an end of a drain the sequencer's work is steady. -/
theorem sequencer_steady (h : Goes p v y) (hk : keepsRun y.ports[p].run) : Steady p y (sequencerSample p v y) := by
  obtain ⟨htransfer, hslew⟩ := hk
  have hdrain := steady_drainSample p v y
  cases hs : y.ports[p].run.state with
  | vacant | identifying | unidentified | ready | faulted | held =>
    rw [sequencer_idle (by rw [hs]; simp [commandsNone, isIdle])]
    exact steady_idleSample ..
  | running =>
    rw [sequencer_running hs, runningSample_goes (h hs)]
    exact steady_runningCount ..
  | transfer =>
    cases hg : y.ports[p].run.stage with
    | draining =>
      rw [sequencer_draining hs hg, if_neg (by rw [htransfer hs hg]; exact Bool.false_ne_true)]
      exact hdrain
    | acquiring =>
      rw [sequencer_acquiring hs hg]
      exact steady_idleSample ..
    | ramping =>
      rw [sequencer_ramping hs hg]
      exact steady_rampSample ..
  | holding =>
    rw [sequencer_holding hs, if_neg (by rw [hslew (.inl hs)]; exact Bool.false_ne_true)]
    exact hdrain
  | ending =>
    rw [sequencer_ending hs, if_neg (by rw [hslew (.inr hs)]; exact Bool.false_ne_true)]
    exact hdrain

/-- The fault record stands where no step ends. -/
theorem sequencer_prot (h : Goes p v y) : (sequencerSample p v y).ports[p].prot = y.ports[p].prot := by
  have hdrain := (steady_drainSample p v y).ownProt
  cases hs : y.ports[p].run.state with
  | vacant | identifying | unidentified | ready | faulted | held =>
    rw [sequencer_idle (by rw [hs]; simp [commandsNone, isIdle])]
    exact (steady_idleSample ..).ownProt
  | running =>
    rw [sequencer_running hs, runningSample_goes (h hs)]
    exact (steady_runningCount ..).ownProt
  | transfer =>
    cases hg : y.ports[p].run.stage with
    | draining =>
      rw [sequencer_draining hs hg]
      exact ite_rel (K := fun t : State => t.ports[p].prot = y.ports[p].prot) ((completeDrain_prot ..).trans hdrain) hdrain
    | acquiring =>
      rw [sequencer_acquiring hs hg]
      exact (steady_idleSample ..).ownProt
    | ramping =>
      rw [sequencer_ramping hs hg]
      exact (steady_rampSample ..).ownProt
  | holding =>
    rw [sequencer_holding hs]
    exact ite_rel (K := fun t : State => t.ports[p].prot = y.ports[p].prot) ((enterHeld_prot ..).trans hdrain) hdrain
  | ending =>
    rw [sequencer_ending hs]
    exact ite_rel (K := fun t : State => t.ports[p].prot = y.ports[p].prot) ((completeEnding_prot ..).trans hdrain) hdrain

/-! ### A fault and the further ones behind it -/

/-- The record that a port's first fault of an instant writes, with the further ones counted. -/
def Recorded (p : Fin 8) (code : FaultCode) (n : Nat) (w : Sample) (t : State) : Prop :=
  ∃ r, t.ports[p].prot.fault = some r ∧ r.code = code ∧ r.additional = n ∧ r.voltage = w.voltage ∧ r.current = w.current

theorem sameEnd_of_port (hpool : u.pool = t.pool) (hhist : u.history = t.history) (hcmd : u.cmd = t.cmd)
    (hrun : u.ports[p].run = t.ports[p].run) (hres : u.ports[p].results = t.ports[p].results)
    (halloc : u.ports[p].alloc = t.ports[p].alloc) (hident : u.ports[p].ident = t.ports[p].ident) : SameEnd p t u :=
  ⟨fun f => by rw [hpool], fun f => by rw [hpool], fun f => by rw [hpool], fun f _ h => by rwa [hpool], by rw [hpool], by rw [hrun],
    by rw [hrun], by rw [hrun], by rw [hrun], fun h => by rwa [hrun], hres, by rw [halloc], by rw [halloc], by rw [hident],
    by rw [hident], by rw [hhist], hcmd ▸ .refl _⟩

theorem recordFault_again {c : FaultCode} {time : Nat} {q : Port} {f : FaultRecord} (h : q.prot.fault = some f) :
    recordFault c time q = { q with prot := { q.prot with fault := some { f with additional := min 255 (f.additional + 1) } } } := by
  simp only [recordFault, h]

/-- Further faults of a faulted port are counted and leave the rest (R174). -/
theorem faultsIn_again (l : List FaultCode) (hd : Down p t) (hr : Recorded p code n w t) (hn : n + l.length ≤ 255) :
    SameEnd p t (faultsIn p l t) ∧ Recorded p code (n + l.length) w (faultsIn p l t) := by
  induction l generalizing t n with
  | nil => exact ⟨.refl t, hr⟩
  | cons c l ih =>
    obtain ⟨f, hf, hcode, hadd, hvol, hcur⟩ := hr
    have hport : (faultPort p c t).ports[p] =
        { t.ports[p] with prot := { t.ports[p].prot with fault := some { f with additional := min 255 (f.additional + 1) } } } := by
      rw [faultPort_again hd.state, writeFault_port, recordFault_again hf]
    have hstep : SameEnd p t (faultPort p c t) := by
      rw [faultPort_again hd.state] at hport ⊢
      exact sameEnd_of_port rfl rfl rfl (by rw [hport]) (by rw [hport]) (by rw [hport]) (by rw [hport])
    have hlen : n + 1 + l.length ≤ 255 := by simpa [Nat.add_assoc, Nat.add_comm 1] using hn
    have hrec : Recorded p code (n + 1) w (faultPort p c t) := by
      refine ⟨{ f with additional := min 255 (f.additional + 1) }, by rw [hport], hcode, ?_, hvol, hcur⟩
      change min 255 (f.additional + 1) = n + 1
      omega
    obtain ⟨hsame, hrec'⟩ := ih (hd.again c) hrec hlen
    refine ⟨hstep.trans hsame, ?_⟩
    rw [List.length_cons, Nat.add_comm l.length 1, ← Nat.add_assoc]
    exact hrec'

/-- A live port without a fault takes those of a sample: the first is recorded and followed by its path. -/
theorem faultsIn_live (hl : Live s.ports[p].run.state) (hc : faultReason code = .fault ∧ code ≠ .programFault)
    (hclean : s.ports[p].prot.fault = none) (hlen : more.length ≤ 255) :
    hasFaulted p .fault s (faultsIn p (code :: more) s) ∧
    Recorded p code more.length (latestSample s.ports[p]) (faultsIn p (code :: more) s) := by
  have hpath := faultPort_faulted (code := code) hc.2 hl.1
  rw [hc.1] at hpath
  have hdown := down_faultPort hl.1 hl.2 hc.2
  have hrec : Recorded p code 0 (latestSample s.ports[p]) (faultPort p code s) := by
    have hfirst := recordFault_first code s.prot.time s.ports[p] hclean
    rw [← faultPort_prot hl.1] at hfirst
    exact ⟨_, hfirst, rfl, rfl, rfl, rfl⟩
  obtain ⟨hsame, hrec'⟩ := faultsIn_again more hdown hrec (by omega)
  rw [Nat.zero_add] at hrec'
  exact ⟨hsame.hasFaulted hpath, hrec'⟩

/-! ### Before the protection unit's work -/

/-- A port on which a sample's faults are about to fall, seen from the state before the sample. -/
structure Poised (p : Fin 8) (s : State) (arrived : Bool) (v : Sample) (code : FaultCode) (more : List FaultCode) (w : Sample)
    (y : State) : Prop where
  live : Live y.ports[p].run.state
  codes : raisedCodes arrived v y.ports[p] = code :: more
  clean : y.ports[p].prot.fault = none
  latest : latestSample y.ports[p] = w
  path : ∀ t, keepsRun s.ports[p].run → hasFaulted p .fault y t → hasFaulted p .fault s t

theorem Poised.account (h : Poised p s arrived v code more w y) : Poised p s arrived v code more w (accountSample p v y) := by
  have hport : (accountSample p v y).ports[p] = Machine.account v y.ports[p] := modPort_self ..
  have hstart := (fed_account p v y).sameStart
  refine ⟨by rw [hport]; exact h.live, by rw [hport]; exact h.codes, by rw [hport]; exact h.clean, by rw [hport]; exact h.latest,
    fun t hk ht => h.path t hk (hstart.hasFaulted ht)⟩

theorem firing_congr {q q' : Port} (hp : q'.ident.present = q.ident.present) (he : q'.prot.effective = q.prot.effective)
    (hf : q'.prot.filters = q.prot.filters) (hc : ∀ c, tripChecked q'.run.state c = tripChecked q.run.state c) :
    firing q' v = firing q v := by
  have hafter : filtersAfter q' v = filtersAfter q v := by
    unfold filtersAfter filterAfter
    simp only [hp, he, hf, hc]
  unfold firing
  rw [hafter, hf]

/-- The state with a port's ramp taken as over. -/
def ramped (p : Fin 8) (s : State) : State := modRun p (fun r => { r with state := .running }) s

theorem ramped_port : (ramped p s).ports[p] = { s.ports[p] with run := { s.ports[p].run with state := .running } } := by
  rw [ramped, modRun, modPort_self]

/-- A ramp that ends just before the fault changes nothing that the path says of it. -/
theorem hasFaulted_of_ramped (hs : s.ports[p].run.state = .transfer) (h : hasFaulted p .fault (ramped p s) t) :
    hasFaulted p .fault s t := by
  have hport := ramped_port (p := p) (s := s)
  obtain ⟨hfall, hrel, hstep, -, hrest⟩ := h.1 (by rw [hport]; rfl)
  have hstep' := hstep (by rw [hport]; rfl)
  simp only [releasesUnreserved, hport] at hrel hstep'
  refine ⟨fun _ => ⟨hfall, hrel, fun _ => hstep', fun hn => ?_, hrest⟩, fun hi => ?_⟩
  · rw [hs] at hn
    cases hn
  · rw [hs] at hi
    cases hi

theorem steady_ramped (h : Steady p s t) (ht : t.ports[p].run.state = .running) : SameStart p (ramped p s) t := by
  have hport := ramped_port (p := p) (s := s)
  exact ⟨h.phaseState, h.enabled, h.watch, h.activeHigh, h.queue, by rw [h.phases, hport], by rw [ht, hport],
    by rw [h.program, hport], by rw [h.stepIndex, hport], by rw [h.outcome, hport], by rw [h.results, hport]⟩

theorem Poised.sequencer (h : Poised p s arrived v code more w y) (hfed : Fed p s y) (hgo : Goes p v y)
    (hhold : arrived = true → y.ports[p].run.state = .holding → slewDue y.ports[p].run = false) :
    Poised p s arrived v code more w (sequencerSample p v y) := by
  have hmoves := sequencer_moves hgo
  have hprot := sequencer_prot hgo
  obtain ⟨hcore, hpres, heff, hfil⟩ := sequencer_onward p v y
  have hmissed : (sequencerSample p v y).ports[p].intake.missed = y.ports[p].intake.missed := congrArg (fun i => i.missed) hcore
  have hlatest : (sequencerSample p v y).ports[p].intake.latest = y.ports[p].intake.latest := congrArg (fun i => i.latest) hcore
  have hlive : Live (sequencerSample p v y).ports[p].run.state := by
    rcases hmoves with he | ⟨-, he⟩ | ⟨-, -, he⟩ | ⟨-, he⟩ <;> rw [he]
    · exact h.live
    all_goals exact ⟨nofun, nofun⟩
  refine ⟨hlive, ?_, hprot ▸ h.clean, by rw [latestSample, hmissed, hlatest]; exact h.latest, fun t hk ht => h.path t hk ?_⟩
  · rw [← h.codes]
    cases arrived with
    | true =>
      refine firing_congr hpres heff hfil fun c => ?_
      rcases hmoves with he | ⟨hy, he⟩ | ⟨hy, hd, -⟩ | ⟨hy, he⟩
      · rw [he]
      · rw [hy, he]; cases c <;> rfl
      · rw [hhold rfl hy] at hd; cases hd
      · rw [hy, he]; cases c <;> rfl
    | false =>
      simp only [raisedCodes, Bool.false_eq_true, if_false, lostRaised, hmissed, ne_eq, hlive.1, hlive.2, h.live.1, h.live.2]
  · obtain ⟨i, res, a, fl, hy⟩ := hfed.port
    have hky : keepsRun y.ports[p].run := by rw [hy]; exact hk
    have hsteady := sequencer_steady hgo hky
    by_cases he : (sequencerSample p v y).ports[p].run.state = y.ports[p].run.state
    · exact (hsteady.sameStart he).hasFaulted ht
    · rcases hmoves with he' | ⟨hs, hr⟩ | ⟨hs, hd, -⟩ | ⟨hs, hr⟩
      · exact absurd he' he
      · exact hasFaulted_of_ramped hs ((steady_ramped hsteady hr).hasFaulted ht)
      · rw [hky.2 (.inl hs)] at hd
        cases hd
      · refine absurd ?_ he
        rw [sequencer_ending hs, if_neg (by rw [hky.2 (.inr hs)]; exact Bool.false_ne_true)]
        exact (drainSample_state p v y).1

/-! ### The protection unit's work, and what follows it -/

/-- A port that a sample has faulted by the path of its state, seen from the state before the sample. -/
structure Tripped (p : Fin 8) (s : State) (code : FaultCode) (n : Nat) (w : Sample) (t : State) : Prop where
  path : keepsRun s.ports[p].run → hasFaulted p .fault s t
  record : Recorded p code n w t
  down : Down p t

theorem Tripped.sameEnd (h : Tripped p s code n w t) (hs : SameEnd p t u) (hf : u.ports[p].prot.fault = t.ports[p].prot.fault)
    (hd : Down p u) : Tripped p s code n w u := by
  obtain ⟨r, hr⟩ := h.record
  exact ⟨fun hk => hs.hasFaulted (h.path hk), ⟨r, by rw [hf]; exact hr⟩, hd⟩

theorem firing_length (q : Port) (v : Sample) : (firing q v).length ≤ 6 := by
  have hlen : (firing q v).length =
      ((List.finRange 6).filter fun k : Fin 6 => q.prot.filters[k] ≠ 3 ∧ (filtersAfter q v)[k] = 3).length := by
    simp [firing]
  rw [hlen]
  exact (List.length_filter_le _ _).trans_eq List.length_finRange

theorem raisedCodes_length {q : Port} (h : raisedCodes arrived v q = code :: more) : more.length ≤ 255 := by
  have hlen : (raisedCodes arrived v q).length ≤ 6 := by
    unfold raisedCodes
    split
    · exact firing_length q v
    · split <;> simp
  rw [h, List.length_cons] at hlen
  omega

theorem Poised.protects (h : Poised p s arrived v code more w y) : Tripped p s code more.length w (protects p arrived v y) := by
  obtain ⟨f, hf⟩ := protects_eq p arrived v y
  have hport := filtered_port (p := p) (s := y) f
  have hreason := raisedCodes_reason (h.codes ▸ List.mem_cons_self)
  have hlive : Live (filtered p f y).ports[p].run.state := by rw [hport]; exact h.live
  obtain ⟨hpath, hrec⟩ := faultsIn_live hlive hreason (by rw [hport]; exact h.clean) (raisedCodes_length h.codes)
  have hdown := (down_faultPort hlive.1 hlive.2 hreason.2).faultsIn more
  have hlatest : latestSample (filtered p f y).ports[p] = w := by rw [hport]; exact h.latest
  rw [hf, h.codes]
  rw [hlatest] at hrec
  exact ⟨fun hk => h.path _ hk ((fed_filtered p f y).sameStart.hasFaulted hpath), hrec, hdown⟩

theorem Tripped.account (h : Tripped p s code n w t) (v : Sample) : Tripped p s code n w (accountSample p v t) := by
  have hport : (accountSample p v t).ports[p] = Machine.account v t.ports[p] := modPort_self ..
  exact h.sameEnd (sameEnd_of_port rfl rfl rfl (by rw [hport]; rfl) (by rw [hport]; rfl) (by rw [hport]; rfl) (by rw [hport]; rfl))
    (by rw [hport]; rfl) (h.down.account v)

/-- A phase at 0 mA stays there under a command of 0 mA. -/
theorem shares_zero (m : Nat) (f : Fin 16) : ∀ (l : List (Fin 16 × Nat)) (s : State), s.pool.phases[f].command = 0 →
    (l.foldl (fun t x => modPhase x.1 (takeShare 0 m x.2) t) s).pool.phases[f].command = 0
  | [], _, h => h
  | x :: l, s, h => by
    rw [List.foldl_cons]
    refine shares_zero m f l _ ?_
    rw [modPhase_phase]
    split
    · rw [takeShare, if_pos rfl]
    · exact h

theorem idleSample_sameEnd (p : Fin 8) (v : Sample) (t : State) : SameEnd p t (idleSample p v t) := by
  have hport := idleSample_run p v t
  have hsteady := steady_idleSample p v t
  exact ⟨hsteady.phaseState, hsteady.enabled, hsteady.watch, fun f _ h => shares_zero _ f _ _ h, hsteady.queue, by rw [hport],
    by rw [hport], by rw [hport], by rw [hport], fun _ => by rw [hport], by rw [hport], by rw [hport], by rw [hport], by rw [hport],
    by rw [hport], by rw [hsteady.history], hsteady.cmd ▸ .refl _⟩

theorem Tripped.sequencer (h : Tripped p s code n w t) (v : Sample) : Tripped p s code n w (sequencerSample p v t) ∧
    (sequencerSample p v t).ports[p].run.applied = 0 := by
  obtain ⟨hdown, happ, -⟩ := h.down.sequencer v
  refine ⟨h.sameEnd ?_ ?_ hdown, happ⟩
  · rw [sequencer_idle (.inr (.inr h.down.state))]
    exact idleSample_sameEnd p v t
  · rw [sequencer_idle (.inr (.inr h.down.state)), idleSample_run]

theorem Tripped.concluded (h : Tripped p s code n w t) (rd : Reading) : Tripped p s code n w (concluded p t rd) := by
  have hbeside := beside_concluded p t rd
  have hacct := concluded_acct p t rd
  obtain ⟨a, fl, st, hport⟩ := hbeside.port
  exact h.sameEnd (sameEnd_of_port hbeside.pool hbeside.history hbeside.cmd (by rw [hport]) (by rw [hport]) (by rw [hport])
    (by rw [hport])) (by rw [hport]) (h.down.of_port (by rw [hport]) (by rw [hport]) hbeside.cmd)

theorem faultsIn_applied (l : List FaultCode) (h : s.ports[p].run.applied = 0) (hd : Down p s) :
    (faultsIn p l s).ports[p].run.applied = 0 := by
  induction l generalizing s with
  | nil => exact h
  | cons c l ih => exact ih ((faultPort_unbound (by rw [hd.state]; rfl) c).1.trans h) (hd.again c)

/-- A port that commands a current is in a run. -/
def Off (p : Fin 8) (y : State) : Prop := isBound y.ports[p].run.state = true ∨ y.ports[p].run.applied = 0

theorem off_sequencer (p : Fin 8) (v : Sample) (y : State) : Off p (sequencerSample p v y) := by
  by_cases hb : isBound y.ports[p].run.state = true
  · exact (sequencer_carried v hb).imp_right fun h => h.2.1
  · have hidle : commandsNone y.ports[p].run.state := by
      by_cases hf : y.ports[p].run.state = .faulted
      · exact .inr (.inr hf)
      · exact .inl ((isBound_or_isIdle hf).resolve_left hb)
    right
    rw [sequencer_idle hidle, idleSample_run]

theorem Off.account (h : Off p y) (v : Sample) : Off p (accountSample p v y) := by
  obtain ⟨hrun, -⟩ := account_run p v y
  rw [Off, hrun]
  exact h

/-- The command of a port that a sample faults is 0 mA. -/
theorem Off.protects (h : Off p y) (hp : Poised p s arrived v code more w y) : (protects p arrived v y).ports[p].run.applied = 0 := by
  obtain ⟨f, hf⟩ := protects_eq p arrived v y
  have hrun : (filtered p f y).ports[p].run = y.ports[p].run := by rw [filtered_port]
  have hdown := down_faultPort (hrun ▸ hp.live.1) (hrun ▸ hp.live.2) (raisedCodes_reason (hp.codes ▸ List.mem_cons_self)).2
  have hfirst : (faultPort p code (filtered p f y)).ports[p].run.applied = 0 := by
    by_cases hb : isBound y.ports[p].run.state = true
    · rw [faultPort_bound (hrun ▸ hb)]
      exact (gone_faultBound ..).applied
    · rw [(faultPort_unbound (by rw [hrun]; simpa using hb) code).1, hrun]
      exact h.resolve_left hb
  rw [hf, hp.codes]
  exact faultsIn_applied more hfirst hdown

/-- A sample's fault takes its path in every order of the consumers where no step ends. -/
theorem poised_consumeIn (hfed : Fed p s x) (hx : Poised p s arrived v code more w x)
    (hgo : ∀ y, Fed p s y → Goes p v y)
    (hhold : arrived = true → s.ports[p].run.state = .holding → slewDue s.ports[p].run = false) (o : Config.ConsumerOrder) :
    Tripped p s code more.length w (consumeIn o p arrived v x) ∧ (consumeIn o p arrived v x).ports[p].run.applied = 0 := by
  have hacc := hfed.trans (fed_account p v x)
  have hy (y : State) (h : Fed p s y) : arrived = true → y.ports[p].run.state = .holding → slewDue y.ports[p].run = false := by
    obtain ⟨i, res, a, fl, hport⟩ := h.port
    rw [hport]
    exact hhold
  rcases consumeIn_orders o p arrived v x with ho | ho | ho | ⟨-, ho | ho | ho⟩ <;> rw [ho]
  · have hq := hx.account.sequencer hacc (hgo _ hacc) (hy _ hacc)
    exact ⟨hq.protects, (off_sequencer p v _).protects hq⟩
  · exact hx.account.protects.sequencer v
  · exact (hx.protects.account v).sequencer v
  · have hq := (hx.sequencer hfed (hgo _ hfed) (hy _ hfed)).account
    exact ⟨hq.protects, ((off_sequencer p v _).account v).protects hq⟩
  · have hq := hx.sequencer hfed (hgo _ hfed) (hy _ hfed)
    refine ⟨hq.protects.account v, ?_⟩
    rw [(account_run p v _).1]
    exact (off_sequencer p v _).protects hq
  · obtain ⟨ht, happ⟩ := hx.protects.sequencer v
    refine ⟨ht.account v, ?_⟩
    rw [(account_run p v _).1, happ]

theorem handed_firing (p : Fin 8) (rd : Reading) (v w : Sample) (s : State) :
    firing (handed p rd v s).ports[p] w = firing s.ports[p] w := by
  obtain ⟨i, res, z, hport⟩ := (taken_handed p rd v s).port
  apply firing_congr <;> rw [hport]
  exact fun _ => rfl

/-- A reading's fault takes its path where no step ends at the instant. -/
theorem tripped_instant (h : readingSample s.ports[p] rd = some v) (hl : Live s.ports[p].run.state)
    (hcodes : raisedCodes (arrives rd) v (handed p rd v s).ports[p] = code :: more) (hclean : s.ports[p].prot.fault = none)
    (hgo : s.ports[p].run.state ≠ .running ∨
      (timerDue s.ports[p] v = false ∧ ∃ x, s.ports[p].run.step = some x ∧ x.conditions = []))
    (hhold : arrives rd = true → s.ports[p].run.state = .holding → slewDue s.ports[p].run = false) :
    Tripped p s code more.length (latestSample (handed p rd v s).ports[p]) (takeReading p s rd) ∧
    (takeReading p s rd).ports[p].run.applied = 0 := by
  have hfed := (taken_handed p rd v s).fed
  obtain ⟨i, res, z, hport⟩ := (taken_handed p rd v s).port
  have hpoised : Poised p s (arrives rd) v code more (latestSample (handed p rd v s).ports[p]) (handed p rd v s) :=
    ⟨by rw [hport]; exact hl, hcodes, by rw [hport]; exact hclean, rfl, fun t _ ht => hfed.sameStart.hasFaulted ht⟩
  obtain ⟨o, ho⟩ := takeReading_instant h
  obtain ⟨ht, happ⟩ := poised_consumeIn hfed hpoised (fun _ hy => goes_of hgo hy) hhold o
  obtain ⟨a, fl, st, hbeside⟩ := (beside_concluded p (consumeIn o p (arrives rd) v (handed p rd v s)) rd).port
  rw [ho]
  exact ⟨ht.concluded rd, by rw [hbeside]; exact happ⟩

/-! ### A missed sample (R55, R59) -/

theorem missed_sample (h : strobeMissed s.ports[p] = true) :
    readingSample s.ports[p] .missed = some (nextHeld s.ports[p].intake) := by
  simp only [readingSample, h, if_true]

theorem strobe_sent (h : strobeMissed s.ports[p] = true) : (takeReading p s .missed).sent = s.sent ++ [.strobe p] := by
  have hsent := (missedInstant_portWork (b := false) (p := p) (s := s)).sent rfl
  simp only [takeReading, strobe, if_pos h, send]
  exact congrArg (· ++ [.strobe p]) hsent

end

theorem strobe_missed {p : Fin 8} {s : State} (h : strobeMissed s.ports[p] = true) :
    (takeReading p s .missed).ports[p].intake.strobe = .awaited ∧
    (takeReading p s .missed).ports[p].intake.missed = min 65535 (s.ports[p].intake.missed + 1) ∧
    (takeReading p s .missed).ports[p].intake.latest = s.ports[p].intake.latest := by
  have hstored : stored (missedInstant p s).ports[p].intake =
      (s.ports[p].intake.latest, min 65535 (s.ports[p].intake.missed + 1), s.ports[p].intake.strobe) := by
    unfold missedInstant
    rw [handOn_stored, intakeMissed_stored]
  simp only [stored, Prod.mk.injEq] at hstored
  obtain ⟨hlatest, hmissed, -⟩ := hstored
  simp only [takeReading, strobe, if_pos h, send, modIntake, modPort_self]
  exact ⟨trivial, hmissed, hlatest⟩

/-- Settles O29. -/
theorem strobeGoesOut : Obligations.StrobeGoesOut := by
  refine ⟨fun p s => ⟨fun h => ?quiet, fun h => ?missed⟩, fun p s h hm hv hf hclean => ?lost⟩
  case quiet => exact congrArg Host.Outcome.next (by simp only [strobe, h, Bool.false_eq_true, if_false])
  case missed =>
    obtain ⟨hstrobe, hmissed, hlatest⟩ := strobe_missed h
    exact ⟨_, rfl, hstrobe, hmissed, hlatest, strobe_sent h⟩
  case lost =>
    have hsample := missed_sample h
    have hmin : 3 ≤ min 65535 (s.ports[p].intake.missed + 1) := by omega
    obtain ⟨i, res, z, hport⟩ := (taken_handed p .missed (nextHeld s.ports[p].intake) s).port
    have hcount := missed_handed p (nextHeld s.ports[p].intake) s
    have hlost : lostRaised s.ports[p].run.state (min 65535 (s.ports[p].intake.missed + 1)) = true := by
      simp only [lostRaised, hv, hf, ne_eq, not_false_eq_true, decide_true, Bool.true_and, Bool.and_true, Bool.or_eq_true,
        decide_eq_true_eq]
      omega
    have hraised : Raised p (arrives .missed) (nextHeld s.ports[p].intake) (handed p .missed (nextHeld s.ports[p].intake) s) :=
      ⟨nofun, fun _ => hcount ▸ hmin⟩
    obtain ⟨hstate, hfault, hflag⟩ := (raised_instant hsample ⟨hv, hf⟩ hraised).1
    refine ⟨takeReading p s .missed, congrArg Host.Outcome.next (namedInstant_due hsample hlost), hstate, hfault, hflag,
      strobe_sent h, fun hgo => ?_⟩
    have hcodes : raisedCodes (arrives .missed) (nextHeld s.ports[p].intake)
        (handed p .missed (nextHeld s.ports[p].intake) s).ports[p] = .measurementLost :: [] := by
      rw [raisedCodes, if_neg (by simp [arrives]), hcount, hport, if_pos hlost]
    obtain ⟨htrip, -⟩ := tripped_instant hsample ⟨hv, hf⟩ hcodes hclean hgo nofun
    obtain ⟨r, hr, hcode, hadd, -⟩ := htrip.record
    exact ⟨⟨r, hr, hcode, hadd⟩, htrip.path⟩

/-- Settles O34. -/
theorem tripFaults : Obligations.TripFaults := by
  refine ⟨fun p reply codes code more s hs hc hclean hst hfire => ?_, fun p reply codes code s hs hc hb hmem hne => ?_⟩
  · have hsample := arrival_sample hs hc
    generalize convertSample s.ports[p].intake codes = v at *
    have hlive : Live s.ports[p].run.state := by
      rcases hst with h | h | h | h | h | h | ⟨h, -⟩ | ⟨h, -⟩ <;> rw [h] <;> exact ⟨nofun, nofun⟩
    have hcodes : raisedCodes (arrives (.arrival reply)) v (handed p (.arrival reply) v s).ports[p] = code :: more := by
      rw [← hfire, raisedCodes, if_pos (show arrives (.arrival reply) = true from rfl), handed_firing]
    have hgo : s.ports[p].run.state ≠ .running ∨
        (timerDue s.ports[p] v = false ∧ ∃ x, s.ports[p].run.step = some x ∧ x.conditions = []) := by
      refine Classical.or_iff_not_imp_left.mpr fun hr => ?_
      rw [not_not.mp hr] at hst
      simpa using hst
    have hhold : arrives (.arrival reply) = true → s.ports[p].run.state = .holding → slewDue s.ports[p].run = false := by
      intro _ hh
      rw [hh] at hst
      simpa using hst
    obtain ⟨htrip, happ⟩ := tripped_instant hsample hlive hcodes hclean hgo hhold
    obtain ⟨r, hr, hcode, hadd, hvol, hcur⟩ := htrip.record
    have hlatest : latestSample (handed p (.arrival reply) v s).ports[p] = v := by
      have hstored : stored (handed p (.arrival reply) v s).ports[p].intake = (some v, 0, .answered) := intakeArrival_stored p v s
      simp only [stored, Prod.mk.injEq] at hstored
      rw [latestSample, hstored.1, hstored.2.1]
      rfl
    rw [hlatest] at hvol hcur
    exact ⟨takeReading p s (.arrival reply), r,
      congrArg Host.Outcome.next (namedInstant_due hsample (decide_eq_true (hfire ▸ List.cons_ne_nil code more))), htrip.down.state, happ, hr, hcode, hadd, hvol, hcur,
      htrip.down.flag, htrip.path⟩
  · have hsample := arrival_sample hs hc
    generalize convertSample s.ports[p].intake codes = v at *
    have hraised : Raised p (arrives (.arrival reply)) v (handed p (.arrival reply) v s) := by
      refine ⟨fun _ => ⟨code, ?_, hne⟩, nofun⟩
      rw [handed_firing]
      exact hmem
    obtain ⟨⟨hstate, hfault, hflag⟩, hgone⟩ := raised_instant hsample (live_of_bound hb) hraised
    exact ⟨takeReading p s (.arrival reply),
      congrArg Host.Outcome.next (namedInstant_due hsample (decide_eq_true (List.ne_nil_of_mem hmem))), hstate, (hgone hb).applied,
      (hgone hb).program, hfault, hflag⟩

end Sys2Proof.TripPaths
end

section
/-! PROOFS. The accounts at a sample instant (R79 to R84), and folds (R85 to R87). -/

open Sys2Proof Sys2Proof.Machine Sys2Proof.Indexing Sys2Proof.PoolPhases Sys2Proof.Faults Sys2Proof.FaultPaths Sys2Proof.HistoryTable
open Sys2Proof.Acquiring Sys2Proof.Holds Sys2Proof.RunEnds Sys2Proof.Entering Sys2Proof.Samples Sys2Proof.Instants Sys2Proof.Slews Sys2Proof.TripPaths

namespace Sys2Proof.Accounting

/-! ### Quantities (R81, R83, R87) -/

section
variable {d c : Nat} {q e u : Quantity}

theorem addTo_exact (hr : q.residue < d) (hc : c ≤ d) (ht : (addTo d c q).1.whole ≠ top32) :
    (addTo d c q).1.whole * d + (addTo d c q).1.residue = q.whole * d + q.residue + c ∧ (addTo d c q).1.residue < d := by
  unfold addTo at ht ⊢
  split at ht
  · exact absurd rfl ht
  · next hq =>
    rw [if_neg hq]
    split
    · next hlt => exact ⟨(Nat.add_assoc _ _ _).symm, hlt⟩
    · next hlt =>
      split
      · next htop => simp [if_neg hlt, htop] at ht
      · dsimp only
        rw [Nat.succ_mul]
        generalize q.whole * d = k
        omega

/-- The carry of two residues (R87). -/
def foldCarry (d : Nat) (e u : Quantity) : Nat := if e.residue + u.residue < d then 0 else 1

theorem foldQuantity_eq (d : Nat) (e u : Quantity) : foldQuantity d e u =
    if e.whole + u.whole + foldCarry d e u < top32
      then (⟨e.whole + u.whole + foldCarry d e u, e.residue + u.residue - foldCarry d e u * d⟩, false) else (⟨top32, 0⟩, true) := rfl

theorem foldQuantity_exact (he : e.residue < d) (hu : u.residue < d) (h : (foldQuantity d e u).2 = false) :
    (foldQuantity d e u).1.whole * d + (foldQuantity d e u).1.residue =
      e.whole * d + e.residue + (u.whole * d + u.residue) ∧ (foldQuantity d e u).1.residue < d := by
  rw [foldQuantity_eq] at h ⊢
  split at h
  · next hlt =>
    rw [if_pos hlt]
    dsimp only
    unfold foldCarry
    split
    · simp only [Nat.add_zero, Nat.zero_mul, Nat.sub_zero, Nat.add_mul]
      omega
    · simp only [Nat.one_mul, Nat.add_mul]
      omega
  · cases h

theorem foldQuantity_top (h : (foldQuantity d e u).2 = true) : (foldQuantity d e u).1 = ⟨top32, 0⟩ := by
  rw [foldQuantity_eq] at h ⊢
  split at h
  · cases h
  · next hlt => rw [if_neg hlt]

theorem foldQuantity_saturates : (foldQuantity d e u).2 = true ↔ (foldQuantity d e u).1.whole = top32 := by
  refine ⟨fun h => by rw [foldQuantity_top h], fun h => ?_⟩
  rw [foldQuantity_eq] at h ⊢
  split at h
  · next hlt => exact absurd h (Nat.ne_of_lt hlt)
  · next hlt => rw [if_neg hlt]

end

/-! ### Tallies and entries -/

theorem integrate_fields (v : Sample) (x : Tally) :
    (integrate v x).chargeIn = (addTo chargeDivisor v.current.toNat x.chargeIn).1 ∧
    (integrate v x).chargeOut = (addTo chargeDivisor (-v.current).toNat x.chargeOut).1 ∧
    (integrate v x).energyIn = (addTo energyDivisor (v.voltage * v.current.toNat) x.energyIn).1 ∧
    (integrate v x).energyOut = (addTo energyDivisor (v.voltage * (-v.current).toNat) x.energyOut).1 ∧
    (integrate v x).time = (addTo timeDivisor (if v.current = 0 then 0 else 1) x.time).1 := by
  have hin : (if 0 < v.current then v.current.natAbs else 0) = v.current.toNat := by split <;> omega
  have hout : (if v.current < 0 then v.current.natAbs else 0) = (-v.current).toNat := by split <;> omega
  have hein : (if 0 < v.current then v.voltage * v.current.natAbs else 0) = v.voltage * v.current.toNat := by
    rw [← hin]
    split <;> rfl
  have heout : (if v.current < 0 then v.voltage * v.current.natAbs else 0) = v.voltage * (-v.current).toNat := by
    rw [← hout]
    split <;> rfl
  rw [← hein, ← heout, ← hin, ← hout]
  exact ⟨rfl, rfl, rfl, rfl, rfl⟩

theorem foldEntry_saturated (u : UnfoldedSet) (x : Entry) : (foldEntry u x).totals.saturated = true ↔
    x.totals.saturated = true ∨ u.tally.saturated = true ∨ 4294967295 ≤ x.cycles + u.cycleDelta ∨
    (foldEntry u x).totals.chargeIn.whole = top32 ∨ (foldEntry u x).totals.chargeOut.whole = top32 ∨
    (foldEntry u x).totals.energyIn.whole = top32 ∨ (foldEntry u x).totals.energyOut.whole = top32 ∨
    (foldEntry u x).totals.time.whole = top32 := by
  simp only [foldEntry, foldTally, Bool.or_eq_true, decide_eq_true_eq, foldQuantity_saturates]
  tauto

/-- What a fold makes of an entry (R85, R87). -/
theorem foldEntry_fields (u : UnfoldedSet) (x : Entry) : (foldEntry u x).lastResistance =
    if u.lastResistance = none then x.lastResistance else u.lastResistance := by
  simp only [foldEntry]
  cases u.lastResistance <;> rfl

/-! ### One sample of a port (R79, R80) -/

/-- What accounting a sample makes of the accounts of a port. -/
structure Accounted (v : Sample) (q : Port) (a : Accounts) : Prop where
  step : a.step = if hasStep q.run.state then ⟨integrate v q.acct.step.tally, max q.acct.step.maxTemp v.temperature⟩ else q.acct.step
  run : a.run = if isBound q.run.state then integrate v q.acct.run else q.acct.run
  tally : a.unfolded.tally = if q.ident.bound.isSome then integrate v q.acct.unfolded.tally else q.acct.unfolded.tally
  maxTemp : a.unfolded.maxTemp =
    if q.ident.bound.isSome then max q.acct.unfolded.maxTemp v.temperature else q.acct.unfolded.maxTemp

theorem accounted_account (v : Sample) (q : Port) : Accounted v q (account v q).acct := by
  constructor <;> simp only [account] <;> split_ifs <;> rfl

/-- Accounting looks at the groups of the state, the entry and the accounts but for the last resistance. -/
theorem Accounted.congr {v : Sample} {q q' : Port} {a : Accounts} (h : Accounted v q a)
    (hs : hasStep q.run.state = hasStep q'.run.state) (hb : isBound q.run.state = isBound q'.run.state)
    (hi : q.ident.bound = q'.ident.bound) (hstep : q.acct.step = q'.acct.step) (hrun : q.acct.run = q'.acct.run)
    (ht : q.acct.unfolded.tally = q'.acct.unfolded.tally) (hm : q.acct.unfolded.maxTemp = q'.acct.unfolded.maxTemp) :
    Accounted v q' a := by
  obtain ⟨h1, h2, h3, h4⟩ := h
  rw [hs, hstep] at h1
  rw [hb, hrun] at h2
  rw [hi, ht] at h3
  rw [hi, hm] at h4
  exact ⟨h1, h2, h3, h4⟩

section
variable {p : Fin 8} {s t u y x : State} {v : Sample} {rd : Reading}

/-- The port of a state from which the consumers start has the accounts of the reading's port. -/
theorem accounted_handed {a : Accounts} (h : Accounted v (handed p rd v s).ports[p] a) : Accounted v s.ports[p] a := by
  obtain ⟨i, res, z, hport⟩ := (taken_handed p rd v s).port
  apply h.congr <;> rw [hport]

/-- Where the sequencer leaves the accounts, an instant accounts its sample once, whatever the order of the consumers. -/
theorem accounted_instant (habout : accountedAbout p v (handed p rd v s) y u t)
    (hacct : u.ports[p].acct = y.ports[p].acct) (hident : u.ports[p].ident.bound = s.ports[p].ident.bound)
    (hs : hasStep u.ports[p].run.state = hasStep s.ports[p].run.state) (hb : isBound u.ports[p].run.state = isBound s.ports[p].run.state) :
    Accounted v s.ports[p] t.ports[p].acct := by
  rcases habout with ⟨hy, ht⟩ | ⟨-, hy, ht⟩
  · rw [ht, hacct, hy]
    exact accounted_handed (accounted_account ..)
  · obtain ⟨i, res, z, hport⟩ := (taken_handed p rd v s).port
    rw [ht]
    apply (accounted_account v u.ports[p]).congr hs hb hident
    all_goals rw [hacct, hy, hport]

/-! ### What the sequencer leaves of the accounts -/

/-- The accounts, the entry and the history stand, and the port keeps the group of its state. -/
structure Unaccounted (p : Fin 8) (y u : State) : Prop where
  acct : u.ports[p].acct = y.ports[p].acct
  ident : u.ports[p].ident = y.ports[p].ident
  history : u.history = y.history
  step : hasStep u.ports[p].run.state = hasStep y.ports[p].run.state
  bound : isBound u.ports[p].run.state = isBound y.ports[p].run.state

theorem completeDrain_account (p : Fin 8) (s : State) : (completeDrain p s).ports[p].acct = s.ports[p].acct ∧
    (completeDrain p s).ports[p].ident = s.ports[p].ident ∧ (completeDrain p s).history = s.history := by
  unfold completeDrain
  dsimp only
  split
  · obtain ⟨st, sl, nd, -, hport⟩ := acquire_port p (setBasis p (some _) (modRun p _ _))
    rw [hport, (acquire_rest ..).2]
    simp
  · simp

theorem completeDrain_unaccounted (h : Steady p y u) (hs : y.ports[p].run.state = .transfer) : Unaccounted p y (completeDrain p u) := by
  obtain ⟨hacct, hident, hhist⟩ := completeDrain_account p u
  have hstate : hasStep (completeDrain p u).ports[p].run.state = true ∧ isBound (completeDrain p u).ports[p].run.state = true := by
    rcases completeDrain_state p u with he | he <;> rw [he] <;> exact ⟨rfl, rfl⟩
  exact ⟨hacct.trans h.acct, hident.trans h.ident, hhist.trans h.history, by rw [hstate.1, hs]; rfl, by rw [hstate.2, hs]; rfl⟩

/-- A sample at which no step and no drain of a hold or an end completes leaves the accounts to the accounting unit. -/
theorem sequencer_unaccounted (hgo : Goes p v y)
    (hd : y.ports[p].run.state = .holding ∨ y.ports[p].run.state = .ending → slewDue y.ports[p].run = false) :
    Unaccounted p y (sequencerSample p v y) := by
  by_cases hk : y.ports[p].run.state = .transfer ∧ y.ports[p].run.stage = .draining ∧ slewDue y.ports[p].run = true
  · obtain ⟨hs, hg, hdue⟩ := hk
    rw [sequencer_draining hs hg, if_pos hdue]
    exact completeDrain_unaccounted (steady_drainSample ..) hs
  · have hkeeps : keepsRun y.ports[p].run := ⟨fun hs hg => Bool.eq_false_iff.mpr fun h => hk ⟨hs, hg, h⟩, hd⟩
    have hsteady := sequencer_steady hgo hkeeps
    have hgroups : hasStep (sequencerSample p v y).ports[p].run.state = hasStep y.ports[p].run.state ∧
        isBound (sequencerSample p v y).ports[p].run.state = isBound y.ports[p].run.state := by
      rcases sequencer_moves hgo with he | ⟨hs, he⟩ | ⟨hs, hdue, -⟩ | ⟨hs, he⟩
      · rw [he]
        exact ⟨rfl, rfl⟩
      · rw [hs, he]
        exact ⟨rfl, rfl⟩
      · rw [hd (.inl hs)] at hdue
        cases hdue
      · rw [sequencer_ending hs, if_neg (by rw [hd (.inr hs)]; exact Bool.false_ne_true), (drainSample_state p v y).1]
        exact ⟨rfl, rfl⟩
    exact ⟨hsteady.acct, hsteady.ident, hsteady.history, hgroups.1, hgroups.2⟩

/-! ### The fold at the end of a drain (R44, R47, R85) -/

/-- A fold of a port's unfolded set into its entry has come about, and its other accounts stand. -/
structure FoldedInto (p : Fin 8) (e : Fin 64) (x : Entry) (d u : State) : Prop where
  acct : u.ports[p].acct = { d.ports[p].acct with unfolded := .cleared }
  entry : u.history.entries[e] = some (foldEntry d.ports[p].acct.unfolded x)
  recency : u.history.recency = d.history.recency
  bound : u.ports[p].ident.bound = some e

theorem foldedInto_of {e : Fin 64} {x : Entry} {d z u : State} (hb : d.ports[p].ident.bound = some e)
    (hx : d.history.entries[e] = some x) (hacct : z.ports[p].acct = d.ports[p].acct) (hident : z.ports[p].ident = d.ports[p].ident)
    (hhist : z.history = d.history) (huacct : u.ports[p].acct = (fold p z).ports[p].acct)
    (huident : u.ports[p].ident = (fold p z).ports[p].ident) (huhist : u.history = (fold p z).history) :
    FoldedInto p e x d u := by
  have hzb : z.ports[p].ident.bound = some e := by rw [hident, hb]
  have hport := fold_port p z
  have hentry := fold_entry hzb
  rw [hhist, hx, hacct] at hentry
  rw [hzb] at hport
  refine ⟨?_, ?_, ?_, ?_⟩
  · rw [huacct, hport, hacct]
    rfl
  · rw [huhist, hentry]
    rfl
  · rw [huhist, fold_recency, hhist]
  · rw [huident, hport, hzb]

theorem enterHeld_folds {e : Fin 64} {x : Entry} (hb : s.ports[p].ident.bound = some e) (hx : s.history.entries[e] = some x) :
    FoldedInto p e x s (enterHeld p s) := by
  rw [enterHeld_eq]
  have hz : ∃ z, z = releaseUnreserved p (disablePort p (leaveQueue p (stopped p s))) := ⟨_, rfl⟩
  obtain ⟨z, hz⟩ := hz
  rw [← hz]
  refine foldedInto_of (z := z) hb hx ?_ ?_ ?_ (by rw [raisePort_ports]) (by rw [raisePort_ports]) (by rw [raisePort_history])
  all_goals rw [hz]; simp [stopped]

theorem completeEnding_folds {e : Fin 64} {x : Entry} (hb : s.ports[p].ident.bound = some e) (hx : s.history.entries[e] = some x) :
    FoldedInto p e x s (completeEnding p s) := by
  rw [completeEnding_eq]
  refine foldedInto_of (z := releaseUnreserved p (spent p s)) hb hx ?_ ?_ ?_ ?_ ?_ ?_
  · simp [spent]
  · simp [spent]
  · simp [spent]
  · simp [unboundRun]
  · simp [unboundRun]
  · rw [raisePort_history, disablePort_history, unboundRun, modRun_history, releaseProgram_history]

/-- An instant outside RUNNING takes no capture, so the intake leaves the accounts. -/
theorem handed_acct (hs : s.ports[p].run.state ≠ .running) : (handed p rd v s).ports[p].acct = s.ports[p].acct := by
  have hupdate (y : State) : (settleUpdate p v y).ports[p].acct = y.ports[p].acct ∧ (settleUpdate p v y).ports[p].run = y.ports[p].run := by
    unfold settleUpdate
    dsimp only
    split
    · split
      · split
        · split <;> simp
        · exact ⟨rfl, rfl⟩
      · exact ⟨rfl, rfl⟩
    · exact ⟨rfl, rfl⟩
  have hcapture (held : Bool) (w : Sample) (y : State) : (takeCaptureA p w held y).ports[p].acct = y.ports[p].acct ∧
      (takeCaptureA p w held y).ports[p].run = y.ports[p].run := by
    unfold takeCaptureA
    split <;> simp
  have hnone (y : State) (hy : y.ports[p].run = s.ports[p].run) : takeCaptureB p v y = y := by
    unfold takeCaptureB
    refine if_neg fun hdue => hs ?_
    unfold captureDue at hdue
    split at hdue
    · simp only [Bool.and_eq_true, decide_eq_true_eq] at hdue
      rw [← hy]
      exact hdue.1.1.1
    · cases hdue
  have hintake (g : Intake → Intake) : (modIntake p g s).ports[p].acct = s.ports[p].acct ∧ (modIntake p g s).ports[p].run = s.ports[p].run := by
    rw [modIntake, modPort_self]
    exact ⟨rfl, rfl⟩
  cases rd with
  | arrival reply =>
    change (intakeArrival p v s).ports[p].acct = _
    unfold intakeArrival
    dsimp only
    rw [hnone _ (by rw [(hcapture ..).2, (hupdate _).2, (hintake _).2]), (hcapture ..).1, (hupdate _).1, (hintake _).1]
  | missed =>
    change (intakeMissed p s).ports[p].acct = _
    unfold intakeMissed
    dsimp only
    rw [(hcapture ..).1, (hintake _).1]

theorem account_received {q : Port} (h : q.ident.bound.isSome = true) : (account v q).acct.unfolded = received v q.acct.unfolded := by
  simp only [account, h, if_true]
  split_ifs <;> rfl

/-- The sample of an instant that ends nothing is accounted once (R79, R80). -/
theorem unended_instant (h : readingSample s.ports[p] rd = some v) (hf : faultless s.ports[p] rd v = true)
    (hd : s.ports[p].run.state = .holding ∨ s.ports[p].run.state = .ending → slewDue s.ports[p].run = false)
    (hgo : s.ports[p].run.state ≠ .running ∨
      (timerDue s.ports[p] v = false ∧ ∃ x, s.ports[p].run.step = some x ∧ x.conditions = [])) :
    Accounted v s.ports[p] (takeReading p s rd).ports[p].acct ∧ (takeReading p s rd).history = s.history := by
  obtain ⟨y, hfed, hbeside, -, -, -, habout⟩ := clear_instant h hf
  obtain ⟨i, res, a, fl, hy⟩ := hfed.port
  obtain ⟨hacct, hident, hhist, hstep, hbound⟩ := sequencer_unaccounted (goes_of hgo hfed) (by rw [hy]; exact hd)
  refine ⟨accounted_instant habout hacct (by rw [hident, hy]) (by rw [hstep, hy]) (by rw [hbound, hy]), ?_⟩
  rw [hbeside.history, hhist, hfed.history]

/-- The last sample of a drain in HOLDING or ENDING goes into the fold of the event, or into the cleared set (R60). -/
theorem folded_instant {e : Fin 64} {x : Entry} (h : readingSample s.ports[p] rd = some v) (hf : faultless s.ports[p] rd v = true)
    (hs : s.ports[p].run.state = .holding ∨ s.ports[p].run.state = .ending) (hd : slewDue s.ports[p].run = true)
    (hb : s.ports[p].ident.bound = some e) (hx : s.history.entries[e] = some x) :
    (takeReading p s rd).history.recency = s.history.recency ∧
    (((takeReading p s rd).ports[p].acct.unfolded = .cleared ∧
        (takeReading p s rd).history.entries[e] = some (foldEntry (received v s.ports[p].acct.unfolded) x) ∧
        (takeReading p s rd).ports[p].acct.run = integrate v s.ports[p].acct.run) ∨
      ((takeReading p s rd).ports[p].acct.unfolded = received v .cleared ∧
        (takeReading p s rd).history.entries[e] = some (foldEntry s.ports[p].acct.unfolded x) ∧
        (s.ports[p].run.state = .holding → (takeReading p s rd).ports[p].acct.run = integrate v s.ports[p].acct.run))) := by
  obtain ⟨y, hfed, hbeside, -, -, -, habout⟩ := clear_instant h hf
  generalize takeReading p s rd = t at *
  obtain ⟨i, res, a, fl, hy⟩ := hfed.port
  have hne : s.ports[p].run.state ≠ .running := by rcases hs with hs | hs <;> rw [hs] <;> nofun
  have hsteady := steady_drainSample p v y
  have hdb : (drainSample p v y).ports[p].ident.bound = some e := by rw [hsteady.ident, hy, hb]
  have hdx : (drainSample p v y).history.entries[e] = some x := by rw [hsteady.history, hfed.history, hx]
  have hu : FoldedInto p e x (drainSample p v y) (sequencerSample p v y) ∧
      (s.ports[p].run.state = .holding → isBound (sequencerSample p v y).ports[p].run.state = true) := by
    rcases hs with hs | hs
    · rw [sequencer_holding (by rw [hy]; exact hs), if_pos (slewDue_of_fed hfed hd)]
      exact ⟨enterHeld_folds hdb hdx, fun _ => by rw [enterHeld_held]; rfl⟩
    · rw [sequencer_ending (by rw [hy]; exact hs), if_pos (slewDue_of_fed hfed hd)]
      exact ⟨completeEnding_folds hdb hdx, fun h => by rw [hs] at h; cases h⟩
  obtain ⟨⟨hacct, hentry, hrec, hbound⟩, hheld⟩ := hu
  generalize sequencerSample p v y = u at *
  rw [hsteady.acct] at hacct hentry
  rw [hsteady.history, hfed.history] at hrec
  rw [hbeside.history, hrec, hentry]
  refine ⟨rfl, ?_⟩
  have hport := (taken_handed p rd v s).port
  rcases habout with ⟨hya, hta⟩ | ⟨-, hya, hta⟩
  · left
    have hrun : (account v (handed p rd v s).ports[p]).acct.run = integrate v s.ports[p].acct.run := by
      have hacc := (accounted_handed (accounted_account v (handed p rd v s).ports[p])).run
      rw [hacc, if_pos]
      rcases hs with hs | hs <;> rw [hs] <;> rfl
    obtain ⟨i, res, z, hport⟩ := hport
    have hun := account_received (v := v) (q := (handed p rd v s).ports[p]) (by rw [hport]; exact hb ▸ rfl)
    rw [handed_acct hne] at hun
    rw [hta, hacct, hya, hun]
    exact ⟨rfl, rfl, hrun⟩
  · right
    have hun := account_received (v := v) (q := u.ports[p]) (by rw [hbound]; rfl)
    rw [hacct] at hun
    rw [hta, hun, hya, handed_acct hne]
    refine ⟨rfl, rfl, fun h => ?_⟩
    rw [(accounted_account v u.ports[p]).run, if_pos (hheld h), hacct, hya, handed_acct hne]

end

/-- Settles O36. -/
theorem accountsExact : Obligations.AccountsExact := by
  refine ⟨fun p rd v s h hf hst => ⟨takeReading p s rd, exec_readingRow p rd s, ?_⟩,
    fun p rd v e x s h hf hs hd hb hx => ⟨takeReading p s rd, exec_readingRow p rd s, folded_instant h hf hs hd hb hx⟩,
    ⟨fun p s h => fold_unbound h, fun p e x s hb hx => ?_, fun u x => ?_⟩, integrate_fields,
    fun d c q => addTo_exact, fun d e u => foldQuantity_exact, fun d e u => foldQuantity_top⟩
  · have hd : s.ports[p].run.state = .holding ∨ s.ports[p].run.state = .ending → slewDue s.ports[p].run = false := by
      rintro (hs | hs) <;> rw [hs] at hst <;> simpa [isIdle] using hst
    have hgo : s.ports[p].run.state ≠ .running ∨
        (timerDue s.ports[p] v = false ∧ ∃ x, s.ports[p].run.step = some x ∧ x.conditions = []) := by
      refine Classical.or_iff_not_imp_left.mpr fun hr => ?_
      rw [not_not.mp hr] at hst
      simpa [isIdle] using hst
    obtain ⟨⟨hstep, hrun, htally, hmax⟩, hhist⟩ := unended_instant h hf hd hgo
    exact ⟨hstep, hrun, htally, hmax, hhist⟩
  · have hport := fold_port p s
    rw [hb] at hport
    refine ⟨?_, ?_, fold_recency .., fun k hk => ?_, fun q hq => LockoutRows.fold_other hq s⟩
    · rw [fold_entry hb, hx]
      rfl
    · rw [hport]
      rfl
    · rw [fold_bound hb]
      exact modEntry_other _ hk
  · exact ⟨rfl, rfl, rfl, rfl, rfl, rfl, rfl, foldEntry_fields u x, rfl, rfl, rfl, rfl, rfl, foldEntry_saturated u x⟩

end Sys2Proof.Accounting
end

section
/-! PROOFS. The current command and its split over a gang (R132 to R139, R149 to R152). -/

open Sys2Proof Sys2Proof.Machine Sys2Proof.Indexing Sys2Proof.PoolPhases Sys2Proof.Samples Sys2Proof.Instants Sys2Proof.Slews
open Sys2Proof.TripPaths

namespace Sys2Proof.CurrentCommand

/-! ### Shares and duty (R150, R157) -/

/-- The first `m` shares of a gang: the whole part of each, and one mA for each of the first `c % n`. -/
theorem shares_sum (c n m : Nat) : ((List.range m).map (share c n)).sum = m * (c / n) + min m (c % n) := by
  induction m with
  | zero => simp
  | succ m ih =>
    rw [List.range_succ, List.map_append, List.sum_append, ih, Nat.succ_mul]
    simp only [List.map_cons, List.map_nil, List.sum_cons, List.sum_nil, share]
    split <;> omega

theorem shares_sum_gang {n : Nat} (c : Nat) (h : 0 < n) : ((List.range n).map (share c n)).sum = c := by
  rw [shares_sum, Nat.min_eq_right (Nat.mod_lt c h).le, Nat.div_add_mod]

theorem share_le_share_add_one (c n k j : Nat) : share c n k ≤ share c n j + 1 := by
  unfold share
  split <;> split <;> omega

theorem share_le_rating {c n : Nat} (k : Nat) (hn : 0 < n) (h : c ≤ 40000 * n) : share c n k ≤ 40000 := by
  have hdiv := Nat.div_add_mod c n
  rcases Nat.lt_or_ge (c / n) 40000 with hlt | hge
  · unfold share
    split <;> omega
  · have hmul : n * 40000 ≤ n * (c / n) := Nat.mul_le_mul_left n hge
    have hmod : c % n = 0 := by omega
    have hwhole : c / n = 40000 := Nat.eq_of_mul_eq_mul_left hn (by omega)
    simp [share, hmod, hwhole]

theorem duty_bounds {ph : Phase} (he : ph.enabled = true) (hc : ph.command ≤ 40000) : 50 ≤ duty ph ∧ duty ph ≤ 950 := by
  unfold duty
  rw [if_pos he]
  omega

theorem share_zero (n k : Nat) : share 0 n k = 0 := by simp [share]

section
variable {p : Fin 8} {s t u y x : State} {v : Sample} {rd : Reading} {r : StepRecord} {c : Option Nat}

/-! ### The split (R149 to R152) -/

/-- The direction a command takes its phases to. -/
abbrev toward (c : Int) : Direction := if 0 < c then .charge else .discharge

/-- What a phase shows after its share: a phase that turns under current gives 0 mA first. -/
theorem takeShare_split (c : Int) (n k : Nat) (ph : Phase) :
    (takeShare c n k ph).direction = (if c = 0 then ph.direction else toward c) ∧
    (takeShare c n k ph).command =
      if (c ≠ 0 ∧ ph.direction ≠ toward c) ∧ ph.command ≠ 0 then 0 else share c.natAbs n k := by
  unfold takeShare
  dsimp only
  by_cases hc : c = 0
  · subst hc
    simp [share_zero]
  · rw [if_neg hc]
    by_cases hd : ph.direction = toward c
    · rw [if_pos hd]
      simp [hc, hd]
    · rw [if_neg hd]
      by_cases hm : ph.command = 0 <;> simp [hc, hd, hm]

theorem shares_untouched (c : Int) (n : Nat) (f : Fin 16) : ∀ (l : List (Fin 16 × Nat)) (t : State), f ∉ l.map Prod.fst →
    (l.foldl (fun t x => modPhase x.1 (takeShare c n x.2) t) t).pool.phases[f] = t.pool.phases[f]
  | [], t, _ => rfl
  | x :: l, t, h => by
    rw [List.map_cons, List.mem_cons, not_or] at h
    rw [List.foldl_cons, shares_untouched c n f l _ h.2, modPhase_phase, if_neg h.1]

theorem shares_taken (c : Int) (n : Nat) {f : Fin 16} {k : Nat} (l : List (Fin 16 × Nat)) (t : State)
    (hn : (l.map Prod.fst).Nodup) (h : (f, k) ∈ l) :
    (l.foldl (fun t x => modPhase x.1 (takeShare c n x.2) t) t).pool.phases[f] = takeShare c n k t.pool.phases[f] := by
  induction l generalizing t with
  | nil => cases h
  | cons x l ih =>
    rw [List.map_cons, List.nodup_cons] at hn
    rw [List.foldl_cons]
    rcases List.mem_cons.mp h with rfl | h
    · rw [shares_untouched c n f l _ hn.1, modPhase_phase, if_pos rfl]
    · have hne : f ≠ x.1 := fun he => hn.1 (he ▸ List.mem_map_of_mem (f := Prod.fst) h)
      rw [ih _ hn.2 h, modPhase_phase, if_neg hne]

theorem command_splits (p : Fin 8) (c : Int) (s : State) : splits p c s (command p c s) := by
  refine ⟨(steady_command p c s).gang, fun k f hk => ?_⟩
  have hshare : (command p c s).pool.phases[f] = takeShare c (heldCount p s) k s.pool.phases[f] := by
    refine shares_taken c _ _ _ ?_ (List.mk_mem_zipIdx_iff_getElem?.mpr hk)
    rw [List.zipIdx_map_fst]
    exact gang_nodup ..
  rw [hshare]
  exact takeShare_split ..

/-- A split is a matter of the pools alone. -/
theorem splits_congr {c : Int} (h : splits p c x t) (hs : x.pool = s.pool) (ht : u.pool = t.pool) : splits p c s u := by
  unfold splits heldCount gang at h ⊢
  rw [ht, ← hs]
  exact h

theorem command_splits_from (p : Fin 8) (c : Int) (h : x.pool = s.pool) : splits p c s (command p c x) :=
  splits_congr (command_splits p c x) h rfl

theorem commanded_splits (p : Fin 8) (c : Int) (h : x.pool = s.pool) :
    splits p (command p c x).ports[p].run.applied s (command p c x) := by
  have happlied : (command p c x).ports[p].run.applied = c := by rw [command_ports, modRun, modPort_self]
  rw [happlied]
  exact command_splits_from p c h

theorem phaseCapacity_congr (h : x.pool = s.pool) : phaseCapacity p x = phaseCapacity p s := by
  unfold phaseCapacity heldCount gang
  rw [h]

/-! ### The sub-phase at a sample (R133, R134) -/

/-- The bound of a ramp, where one runs. -/
def ceiled (c : Option Nat) (m : Nat) : Nat := c.elim m (min m)

theorem appliedBound_eq (setpoint gb capacity : Nat) (c : Option Nat) :
    appliedBound setpoint gb capacity c = ceiled c (min setpoint (min gb capacity)) := by
  cases c <;> rfl

theorem ceiled_le (c : Option Nat) (m : Nat) : ceiled c m ≤ m := by
  cases c with
  | none => exact le_rfl
  | some k => exact Nat.min_le_left m k

abbrev InCv (r : StepRecord) (q : RunContext) : Prop := r.kind = .cccvCharge ∧ q.subPhase = .cv

/-- The CV demand that a sample forms of the integrator. -/
def cvDemand (r : StepRecord) (v : Sample) (q : Port) : Int :=
  saturate 0 r.current (q.run.cvIntegrator + (((r.cvVoltage : Int) - v.voltage) * q.intake.defaults.cvGain).tdiv 256)

/-- The bound of the CV integrator. -/
def cvBound (p : Fin 8) (r : StepRecord) (v : Sample) (c : Option Nat) (y : State) : Nat :=
  ceiled c (min r.current (min (grantBound y.ports[p].alloc.grant v.voltage (some .charge)) (phaseCapacity p y)))

/-- What the sub-phase tests make of the CV registers. -/
structure CvFormed (p : Fin 8) (r : StepRecord) (v : Sample) (c : Option Nat) (y x : State) : Prop where
  state : x.ports[p].run.state = y.ports[p].run.state
  pool : x.pool = y.pool
  entered : InCv r x.ports[p].run → y.ports[p].run.subPhase ≠ .cv →
    x.ports[p].run.bounds.cvDemand = min y.ports[p].run.applied.natAbs r.current ∧
    x.ports[p].run.cvIntegrator = min x.ports[p].run.bounds.cvDemand (cvBound p r v c y)
  updated : r.kind = .cccvCharge → y.ports[p].run.subPhase = .cv →
    x.ports[p].run.subPhase = .cv ∧ (x.ports[p].run.bounds.cvDemand : Int) = cvDemand r v y.ports[p] ∧
    x.ports[p].run.cvIntegrator = min x.ports[p].run.bounds.cvDemand (cvBound p r v c y) ∧ x.ports[p].alloc = y.ports[p].alloc

theorem saturate_nat (k : Nat) (z : Int) : ((saturate 0 k z).toNat : Int) = saturate 0 k z := by
  unfold saturate
  omega

theorem enterCv_formed (h : y.ports[p].run.subPhase ≠ .cv) : CvFormed p r v c y (enterCv p r v c y) where
  state := by simp [enterCv]
  pool := by simp [enterCv]
  entered _ _ := by simp [enterCv, appliedBound_eq, cvBound]
  updated _ hcv := absurd hcv h

theorem updateCv_formed (h : y.ports[p].run.subPhase = .cv) : CvFormed p r v c y (updateCv p r v c y) where
  state := by simp [updateCv]
  pool := by simp [updateCv]
  entered _ hcv := absurd h hcv
  updated _ _ := by
    simp only [updateCv, modRun, modPort_self, h, saturate_nat, appliedBound_eq]
    exact ⟨trivial, rfl, rfl, trivial⟩

theorem subPhaseTests_formed (hr : y.ports[p].run.step = some r) : CvFormed p r v c y (subPhaseTests p r v c y) := by
  unfold subPhaseTests
  by_cases hreach : cvReached y.ports[p].run v.voltage = true
  · rw [if_pos hreach]
    simp only [cvReached, hr, Bool.and_eq_true, decide_eq_true_eq] at hreach
    exact enterCv_formed (by rw [hreach.1.2]; nofun)
  · rw [if_neg hreach]
    by_cases hcv : InCv r y.ports[p].run
    · rw [if_pos hcv]
      exact updateCv_formed hcv.2
    · rw [if_neg hcv]
      by_cases he : edgeDue y.ports[p].run = true
      · rw [if_pos he]
        simp only [edgeDue, hr, Bool.and_eq_true, decide_eq_true_eq] at he
        have hk : r.kind ≠ .cccvCharge := by rw [he.1.1.2]; nofun
        exact ⟨by simp, by simp, fun h => absurd h.1 hk, fun h => absurd h hk⟩
      · rw [if_neg he]
        exact ⟨rfl, rfl, fun h hne => absurd h.2 hne, fun hk h => absurd ⟨hk, h⟩ hcv⟩

/-! ### The command at a sample (R135 to R139) -/

/-- What the step demands at a sample. -/
def demanded (r : StepRecord) (v : Sample) (q : Port) : Nat :=
  if InCv r q.run then q.run.bounds.cvDemand else stepDemand r q.run.subPhase q.prot.effective.discharge v.voltage

/-- What the command is formed of: the integrator in CV, the demand otherwise. -/
def wanted (r : StepRecord) (v : Sample) (q : Port) : Nat := if InCv r q.run then q.run.cvIntegrator else demanded r v q

/-- The grant bound in the direction of the step. -/
def ownGrant (v : Sample) (q : Port) : Nat := grantBound q.alloc.grant v.voltage (stepDirection q.run)

theorem applyStep_run (p : Fin 8) (r : StepRecord) (v : Sample) (c : Option Nat) (x : State) :
    (applyStep p r v c x).ports[p] = { x.ports[p] with run := { x.ports[p].run with
      throttled := decide (x.ports[p].run.state = .running) &&
        decide (min (ownGrant v x.ports[p]) (phaseCapacity p x) < demanded r v x.ports[p])
      bounds := ⟨ownGrant v x.ports[p], demanded r v x.ports[p],
        if InCv r x.ports[p].run then x.ports[p].run.bounds.cvDemand else 0, phaseCapacity p x⟩
      applied := signed ((stepDirection x.ports[p].run).getD .charge)
        (ceiled c (min (wanted r v x.ports[p]) (min (ownGrant v x.ports[p]) (phaseCapacity p x)))) } } := by
  have hmin (a b k : Nat) : min a (min b k) = min (min a b) k := (min_assoc a b k).symm
  cases c with
  | none => 
    simp only [applyStep, command_ports, modRun, modPort_self]
    rfl
  | some k =>
    simp only [applyStep, command_ports, modRun, modPort_self]
    rw [hmin]
    rfl

theorem applyStep_splits (p : Fin 8) (r : StepRecord) (v : Sample) (c : Option Nat) (x : State) :
    splits p (applyStep p r v c x).ports[p].run.applied x (applyStep p r v c x) := by
  exact commanded_splits p _ rfl

/-- The current command that a sample of RAMPING or RUNNING forms, from the state `y` before the sequencer's work. -/
structure Commanded (p : Fin 8) (r : StepRecord) (v : Sample) (c : Option Nat) (y t : State) : Prop where
  step : t.ports[p].run.step = some r
  capacity : t.ports[p].run.bounds.phaseCapacity = phaseCapacity p y
  grant : t.ports[p].run.bounds.grantBound = ownGrant v t.ports[p]
  demand : t.ports[p].run.bounds.stepDemand = demanded r v t.ports[p]
  applied : t.ports[p].run.applied.natAbs = ceiled c
    (min (wanted r v t.ports[p]) (min t.ports[p].run.bounds.grantBound t.ports[p].run.bounds.phaseCapacity))
  signs : ∃ d, (t.ports[p].run.applied ≠ 0 → stepDirection t.ports[p].run = some d) ∧ ∃ m, t.ports[p].run.applied = signed d m
  entered : InCv r t.ports[p].run → y.ports[p].run.subPhase ≠ .cv →
    t.ports[p].run.bounds.cvDemand = min y.ports[p].run.applied.natAbs r.current ∧
    t.ports[p].run.cvIntegrator = min t.ports[p].run.bounds.cvDemand (cvBound p r v c y)
  updated : r.kind = .cccvCharge → y.ports[p].run.subPhase = .cv →
    InCv r t.ports[p].run ∧ (t.ports[p].run.bounds.cvDemand : Int) = cvDemand r v y.ports[p] ∧
    t.ports[p].run.cvIntegrator = min t.ports[p].run.bounds.cvDemand (cvBound p r v c y) ∧ t.ports[p].alloc = y.ports[p].alloc
  throttled : t.ports[p].run.throttled = decide (y.ports[p].run.state = .running ∧
    min t.ports[p].run.bounds.grantBound t.ports[p].run.bounds.phaseCapacity < t.ports[p].run.bounds.stepDemand)
  splits : splits p t.ports[p].run.applied y t

theorem currentDirection_none {i : Int} (h : currentDirection i = none) : i = 0 := by
  unfold currentDirection at h
  by_cases hp : 0 < i
  · simp [hp] at h
  · by_cases hn : i < 0
    · simp [hp, hn] at h
    · omega

/-- A power step without a direction demands nothing. -/
theorem demanded_zero {q : Port} (hk : isPowerStep r.kind = true) (hr : q.run.step = some r) (hd : stepDirection q.run = none) :
    wanted r v q = 0 := by
  simp only [stepDirection, hr] at hd
  cases hkind : r.kind with
  | pulse =>
    simp only [hkind] at hd
    simp only [wanted, demanded, InCv, hkind, stepDemand]
    by_cases hs : q.run.subPhase = .pulse <;> simp [hs] at hd ⊢ <;> exact currentDirection_none hd
  | ccCharge | cccvCharge | ccDischarge | cpDischarge => simp [hkind] at hd
  | rest | loop | endRun => rw [hkind] at hk; cases hk

theorem signed_natAbs (d : Direction) (m : Nat) : (signed d m).natAbs = m := by
  cases d with
  | charge => rfl
  | discharge => exact Int.natAbs_neg m

theorem applyStep_commanded (hk : isPowerStep r.kind = true) (h : CvFormed p r v c y x)
    (hx : x.ports[p].run.step = some r) : Commanded p r v c y (applyStep p r v c x) := by
  have hport := applyStep_run p r v c x
  have hdem : demanded r v (applyStep p r v c x).ports[p] = demanded r v x.ports[p] := by
    rw [hport]
    unfold demanded
    by_cases hin : InCv r x.ports[p].run
    · exact (if_pos hin).trans ((if_pos hin).trans (if_pos hin).symm)
    · exact (if_neg hin).trans (if_neg hin).symm
  have hwant : wanted r v (applyStep p r v c x).ports[p] = wanted r v x.ports[p] := by
    rw [wanted, hdem, hport]
    rfl
  have hown : ownGrant v (applyStep p r v c x).ports[p] = ownGrant v x.ports[p] := by
    rw [hport]
    rfl
  have hcap : phaseCapacity p x = phaseCapacity p y := phaseCapacity_congr h.pool
  have hsplits : splits p (applyStep p r v c x).ports[p].run.applied y (applyStep p r v c x) :=
    splits_congr (applyStep_splits p r v c x) h.pool rfl
  have hzero := demanded_zero (v := v) hk hx
  generalize applyStep p r v c x = t at *
  refine ⟨by rw [hport, hx], by rw [hport, ← hcap], by rw [hown, hport], by rw [hdem, hport], ?_, ?_, fun hin hne => ?_, fun hc hcv => ?_, ?_, hsplits⟩
  · rw [hwant, hport, signed_natAbs]
  · have hdir : stepDirection t.ports[p].run = stepDirection x.ports[p].run := by
      rw [hport]
      rfl
    have happ : t.ports[p].run.applied = signed ((stepDirection x.ports[p].run).getD .charge)
        (ceiled c (min (wanted r v x.ports[p]) (min (ownGrant v x.ports[p]) (phaseCapacity p x)))) := by rw [hport]
    refine ⟨(stepDirection x.ports[p].run).getD .charge, fun ha => ?_, _, happ⟩
    rw [hdir]
    cases hd : stepDirection x.ports[p].run with
    | none =>
      rw [happ] at ha
      exact absurd (Int.natAbs_eq_zero.mp ((signed_natAbs ..).trans (Nat.le_zero.mp
        ((ceiled_le ..).trans ((Nat.min_le_left ..).trans (hzero hd).le))))) ha
    | some d => rfl
  · have hinx : InCv r x.ports[p].run := by
      rw [hport] at hin
      exact hin
    simp only [hport, if_pos hinx]
    exact h.entered hinx hne
  · obtain ⟨hsub, hd, hi, ha⟩ := h.updated hc hcv
    have hinx : InCv r x.ports[p].run := ⟨hc, hsub⟩
    simp only [hport, if_pos hinx]
    exact ⟨hinx, hd, hi, ha⟩
  · simp only [hport, ← h.state, Bool.decide_and]

/-- Later work on the port that leaves the command, its bounds and what they were formed of. -/
theorem Commanded.later (h : Commanded p r v c y u) (hport : ∃ st sl tm tt a fl i, t.ports[p] = { u.ports[p] with
      run := { u.ports[p].run with state := st, slew := sl, stepTimer := tm, throttledTime := tt }
      acct := a, prot := { u.ports[p].prot with filters := fl }, intake := i }) (hpool : t.pool = u.pool) :
    Commanded p r v c y t := by
  obtain ⟨st, sl, tm, tt, a, fl, i, hport⟩ := hport
  obtain ⟨hstep, hcap, hgrant, hdemand, happ, hsigns, hent, hupd, hthr, hsplits⟩ := h
  refine ⟨by rw [hport, hstep], by rw [hport, hcap], by rw [hport]; exact hgrant, by rw [hport]; exact hdemand,
    by rw [hport]; exact happ, by rw [hport]; exact hsigns, ?_, ?_, by simp only [hport]; exact hthr,
    by rw [hport]; exact splits_congr hsplits rfl hpool⟩
  · simp only [hport]
    exact hent
  · simp only [hport]
    exact hupd

theorem rampSample_commanded (hk : isPowerStep r.kind = true) (hr : y.ports[p].run.step = some r) :
    Commanded p r v (some (rampTarget y.ports[p] r v * ((y.ports[p].run.slew.getD ⟨0, .charge, 0, 0⟩).elapsed + 1) /
      (y.ports[p].run.slew.getD ⟨0, .charge, 0, 0⟩).time)) y (rampSample p v y) := by
  have hstep (c : Option Nat) : (subPhaseTests p r v c y).ports[p].run.step = some r :=
    (steady_subPhaseTests ..).step.trans hr
  unfold rampSample
  simp only [hr, Option.getD_some]
  refine (applyStep_commanded hk (subPhaseTests_formed hr) (hstep _)).later ?_ rfl
  rw [modRun, modPort_self]
  dsimp only
  split <;> exact ⟨_, _, _, _, _, _, _, rfl⟩

theorem runningCount_commanded (hk : isPowerStep r.kind = true) (hr : y.ports[p].run.step = some r) :
    Commanded p r v none y (runningCount p v y) := by
  have hstep : (subPhaseTests p r v none y).ports[p].run.step = some r := (steady_subPhaseTests ..).step.trans hr
  unfold runningCount
  simp only [hr, Option.getD_some]
  refine (applyStep_commanded hk (subPhaseTests_formed hr) hstep).later ?_ rfl
  rw [modRun, modPort_self]
  exact ⟨_, _, _, _, _, _, _, rfl⟩

theorem later_of_beside (h : Beside p u t) : ∃ st sl tm tt a fl i, t.ports[p] = { u.ports[p] with
      run := { u.ports[p].run with state := st, slew := sl, stepTimer := tm, throttledTime := tt }
      acct := a, prot := { u.ports[p].prot with filters := fl }, intake := i } := by
  obtain ⟨a, fl, st, hport⟩ := h.port
  exact ⟨_, _, _, _, _, _, _, hport⟩

/-- What the consumers before the sequencer leave of what a command is formed of. -/
theorem Commanded.fed (h : Commanded p r v c y t) (hfed : Fed p s y) : Commanded p r v c s t := by
  obtain ⟨i, res, a, fl, hy⟩ := hfed.port
  obtain ⟨hstep, hcap, hgrant, hdemand, happ, hsigns, hent, hupd, hthr, hsplits⟩ := h
  have hcapacity : phaseCapacity p y = phaseCapacity p s := phaseCapacity_congr hfed.pool
  have hbound : cvBound p r v c y = cvBound p r v c s := by
    rw [cvBound, hcapacity, hy]
    rfl
  have hform : cvDemand r v y.ports[p] = cvDemand r v s.ports[p] := by
    rw [cvDemand, hfed.defaults, hy]
    rfl
  rw [hbound] at hent hupd
  rw [hform] at hupd
  simp only [hy] at hent hupd hthr
  exact ⟨hstep, by rw [hcap, hcapacity], hgrant, hdemand, happ, hsigns, hent, hupd, hthr, splits_congr hsplits hfed.pool rfl⟩

/-- The command at an instant of RUNNING that ends no step. -/
theorem running_commanded (hfed : Fed p s y) (hbeside : Beside p (sequencerSample p v y) t) (hr : s.ports[p].run.step = some r)
    (hk : isPowerStep r.kind = true) (hs : s.ports[p].run.state = .running) (hc : r.conditions = [])
    (ht : timerDue s.ports[p] v = false) : Commanded p r v none s t := by
  obtain ⟨i, res, a, fl, hy⟩ := hfed.port
  have hgoes := stepEnd_none hr hc ht hs hfed
  rw [sequencer_running (by rw [hy]; exact hs), runningSample_goes hgoes] at hbeside
  exact ((runningCount_commanded hk (by rw [hy]; exact hr)).later (later_of_beside hbeside) hbeside.pool).fed hfed

/-- The command at an instant of RAMPING. -/
theorem ramping_commanded (hfed : Fed p s y) (hbeside : Beside p (sequencerSample p v y) t) (hr : s.ports[p].run.step = some r)
    (hk : isPowerStep r.kind = true) (hs : s.ports[p].run.state = .transfer) (hg : s.ports[p].run.stage = .ramping) :
    Commanded p r v (some (rampTarget s.ports[p] r v * ((s.ports[p].run.slew.getD ⟨0, .charge, 0, 0⟩).elapsed + 1) /
      (s.ports[p].run.slew.getD ⟨0, .charge, 0, 0⟩).time)) s t := by
  obtain ⟨i, res, a, fl, hy⟩ := hfed.port
  rw [sequencer_ramping (by rw [hy]; exact hs) (by rw [hy]; exact hg)] at hbeside
  have h := ((rampSample_commanded hk (by rw [hy]; exact hr)).later (later_of_beside hbeside) hbeside.pool).fed hfed
  rw [hy] at h
  exact h

/-! ### The other instants -/

theorem drained_command (hfed : Fed p s y) (hbeside : Beside p (sequencerSample p v y) t) {d : Slew}
    (hd : s.ports[p].run.slew = some d) (hlt : d.elapsed + 1 < d.time)
    (hs : (s.ports[p].run.state = .transfer ∧ s.ports[p].run.stage = .draining) ∨ s.ports[p].run.state = .holding ∨
      s.ports[p].run.state = .ending) :
    t.ports[p].run.applied = signed d.direction (min (d.level * (d.time - (d.elapsed + 1)) / d.time)
      (min (grantBound s.ports[p].alloc.grant v.voltage (some d.direction)) (phaseCapacity p s))) ∧
    t.ports[p].run.slew = some { d with elapsed := d.elapsed + 1 } ∧ t.ports[p].run.throttled = false ∧
    t.ports[p].run.state = s.ports[p].run.state ∧ t.ports[p].run.stage = s.ports[p].run.stage ∧
    t.ports[p].run.stepTimer = s.ports[p].run.stepTimer ∧ t.ports[p].alloc = s.ports[p].alloc ∧
    splits p t.ports[p].run.applied s t := by
  obtain ⟨i, res, a, fl, hy⟩ := hfed.port
  obtain ⟨a', fl', st', hport⟩ := hbeside.port
  have hdue : ¬ slewDue y.ports[p].run = true := by
    rw [hy]
    simp only [slewDue, hd, decide_eq_true_eq]
    omega
  have hseq : sequencerSample p v y = drainSample p v y := by
    rcases hs with ⟨hs, hg⟩ | hs | hs
    · rw [sequencer_draining (by rw [hy]; exact hs) (by rw [hy]; exact hg), if_neg hdue]
    · rw [sequencer_holding (by rw [hy]; exact hs), if_neg hdue]
    · rw [sequencer_ending (by rw [hy]; exact hs), if_neg hdue]
  have hdrain : (drainSample p v y).ports[p] = { y.ports[p] with run := { y.ports[p].run with
      slew := some { d with elapsed := d.elapsed + 1 }, throttled := false
      bounds := ⟨grantBound y.ports[p].alloc.grant v.voltage (some d.direction), 0, 0, phaseCapacity p y⟩
      applied := signed d.direction (min (d.level * (d.time - (d.elapsed + 1)) / d.time)
        (min (grantBound y.ports[p].alloc.grant v.voltage (some d.direction)) (phaseCapacity p y))) } } := by
    have hslew : y.ports[p].run.slew = some d := by rw [hy]; exact hd
    simp only [drainSample, setBounds, command_ports, modRun, modPort_self, hslew, Option.getD_some]
  have hsplits : splits p (drainSample p v y).ports[p].run.applied s (drainSample p v y) := commanded_splits p _ hfed.pool
  rw [hseq] at hport hbeside
  generalize drainSample p v y = u at *
  have happ : t.ports[p].run.applied = u.ports[p].run.applied := by rw [hport]
  refine ⟨?_, ?_, ?_, ?_, ?_, ?_, ?_, by rw [happ]; exact splits_congr hsplits rfl hbeside.pool⟩ <;> rw [hport, hdrain]
  · rw [phaseCapacity_congr hfed.pool, hy]
  all_goals rw [hy]

theorem idle_command (hfed : Fed p s y) (hbeside : Beside p (sequencerSample p v y) t)
    (hseq : sequencerSample p v y = idleSample p v y) :
    t.ports[p].run.applied = 0 ∧ t.ports[p].run.throttled = false ∧ splits p 0 s t := by
  obtain ⟨a, fl, st, hport⟩ := hbeside.port
  rw [hseq] at hport hbeside
  have hsplits : splits p 0 s (idleSample p v y) := command_splits_from p 0 hfed.pool
  rw [hport, idleSample_run]
  exact ⟨rfl, rfl, splits_congr hsplits rfl hbeside.pool⟩

/-- The integrator in CV keeps within the CV demand and the setpoint. -/
theorem Commanded.integrator (h : Commanded p r v c s t) (hin : InCv r t.ports[p].run) :
    t.ports[p].run.cvIntegrator = min t.ports[p].run.bounds.cvDemand (cvBound p r v c s) ∧
    t.ports[p].run.bounds.cvDemand ≤ r.current := by
  by_cases hcv : s.ports[p].run.subPhase = .cv
  · obtain ⟨-, hd, hi, -⟩ := h.updated hin.1 hcv
    refine ⟨hi, ?_⟩
    unfold cvDemand saturate at hd
    omega
  · obtain ⟨hd, hi⟩ := h.entered hin hcv
    exact ⟨hi, by rw [hd]; exact Nat.min_le_right ..⟩

/-- The grant bound in CV, which charges. -/
theorem Commanded.cv_grant (h : Commanded p r v c s t) (hk : r.kind = .cccvCharge) :
    t.ports[p].run.bounds.grantBound = grantBound t.ports[p].alloc.grant v.voltage (some .charge) := by
  rw [h.grant, ownGrant, stepDirection, h.step]
  simp only [hk]

theorem wanted_le {q : Port} (h : InCv r q.run → q.run.cvIntegrator ≤ q.run.bounds.cvDemand) : wanted r v q ≤ demanded r v q := by
  unfold wanted
  by_cases hin : InCv r q.run
  · rw [if_pos hin, demanded, if_pos hin]
    exact h hin
  · rw [if_neg hin]

theorem Commanded.within (h : Commanded p r v c s t) :
    t.ports[p].run.applied.natAbs ≤ t.ports[p].run.bounds.stepDemand ∧
    t.ports[p].run.applied.natAbs ≤ t.ports[p].run.bounds.grantBound ∧
    t.ports[p].run.applied.natAbs ≤ t.ports[p].run.bounds.phaseCapacity := by
  have hle := wanted_le (r := r) (v := v) (q := t.ports[p]) fun hin => by
    rw [(h.integrator hin).1]
    exact Nat.min_le_left ..
  have hceil := ceiled_le c
    (min (wanted r v t.ports[p]) (min t.ports[p].run.bounds.grantBound t.ports[p].run.bounds.phaseCapacity))
  rw [← h.applied] at hceil
  rw [← h.demand] at hle
  omega

theorem Commanded.outside (h : Commanded p r v c s t) (hin : ¬ InCv r t.ports[p].run) :
    t.ports[p].run.applied.natAbs = ceiled c (min t.ports[p].run.bounds.stepDemand
      (min t.ports[p].run.bounds.grantBound t.ports[p].run.bounds.phaseCapacity)) := by
  rw [h.applied, wanted, if_neg hin, ← h.demand]

theorem Commanded.cv_applied (h : Commanded p r v c s t) (hin : InCv r t.ports[p].run) :
    t.ports[p].run.applied.natAbs = ceiled c (min t.ports[p].run.cvIntegrator
      (min t.ports[p].run.bounds.grantBound t.ports[p].run.bounds.phaseCapacity)) := by
  rw [h.applied, wanted, if_pos hin]

/-- A later sample in CV applies the integrator (R134). -/
theorem Commanded.cv_later (h : Commanded p r v c s t) (hin : InCv r t.ports[p].run) (hcv : s.ports[p].run.subPhase = .cv) :
    t.ports[p].run.applied.natAbs = t.ports[p].run.cvIntegrator ∧
    t.ports[p].run.cvIntegrator = min t.ports[p].run.bounds.cvDemand (ceiled c (min r.current
      (min t.ports[p].run.bounds.grantBound t.ports[p].run.bounds.phaseCapacity))) := by
  have happ := h.cv_applied hin
  obtain ⟨-, -, hint, ha⟩ := h.updated hin.1 hcv
  rw [cvBound, ← h.capacity, ← ha, ← h.cv_grant hin.1] at hint
  refine ⟨?_, hint⟩
  rw [happ, hint]
  cases c <;> simp only [ceiled, Option.elim] <;> omega

/-- The change to CV: the integrator starts from the command in force, held to the grant before and the grant after (R133). -/
theorem Commanded.cv_change (h : Commanded p r v c s t) (hin : InCv r t.ports[p].run) (hcv : s.ports[p].run.subPhase ≠ .cv) :
    t.ports[p].run.bounds.cvDemand = min s.ports[p].run.applied.natAbs r.current ∧
    t.ports[p].run.cvIntegrator = min t.ports[p].run.bounds.cvDemand (ceiled c (min r.current
      (min (grantBound s.ports[p].alloc.grant v.voltage (some .charge)) t.ports[p].run.bounds.phaseCapacity))) ∧
    t.ports[p].run.applied.natAbs = min t.ports[p].run.cvIntegrator t.ports[p].run.bounds.grantBound := by
  have happ := h.cv_applied hin
  obtain ⟨hd, hint⟩ := h.entered hin hcv
  rw [cvBound, ← h.capacity] at hint
  refine ⟨hd, hint, ?_⟩
  rw [happ, hint]
  cases c <;> simp only [ceiled, Option.elim] <;> omega

theorem Commanded.charges (h : Commanded p r v c s t) (hpos : 0 < t.ports[p].run.applied) :
    stepDirection t.ports[p].run = some .charge := by
  obtain ⟨d, hd, m, hm⟩ := h.signs
  rw [hd (by omega)]
  cases d with
  | charge => rfl
  | discharge =>
    rw [hm] at hpos
    dsimp only [signed] at hpos
    omega

theorem Commanded.discharges (h : Commanded p r v c s t) (hneg : t.ports[p].run.applied < 0) :
    stepDirection t.ports[p].run = some .discharge := by
  obtain ⟨d, hd, m, hm⟩ := h.signs
  rw [hd (by omega)]
  cases d with
  | discharge => rfl
  | charge =>
    rw [hm] at hneg
    dsimp only [signed] at hneg
    omega

/-- The envelope of a port at an instant that brings no fault. -/
theorem effective_kept (hfed : Fed p s y) (hbeside : Beside p (sequencerSample p v y) t) :
    t.ports[p].prot.effective = s.ports[p].prot.effective := by
  obtain ⟨i, res, a, fl, hy⟩ := hfed.port
  obtain ⟨a', fl', st', ht⟩ := hbeside.port
  rw [ht]
  exact (sequencer_onward p v y).effective.trans (by rw [hy])

end

/-- Settles O45. -/
theorem sharesSum : Obligations.SharesSum := by
  refine ⟨fun p rd v r s h hf hr hk hst => ⟨takeReading p s rd, exec_readingRow p rd s, ?_⟩,
    fun p rd v d s h hf hd hlt hs => ⟨takeReading p s rd, exec_readingRow p rd s, ?_⟩,
    fun p rd v s h hf hs => ⟨takeReading p s rd, exec_readingRow p rd s, ?_⟩,
    fun c n => shares_sum_gang c, share_le_share_add_one, fun c n k hn hc _ => share_le_rating k hn hc,
    fun ph => duty_bounds, fun ph he => by rw [duty, he]; rfl⟩
  all_goals
    obtain ⟨y, hfed, hbeside, -⟩ := clear_instant h hf
    generalize takeReading p s rd = t at *
  · have heff := effective_kept hfed hbeside
    obtain ⟨c, hcom, hrunning, hramping⟩ : ∃ c, Commanded p r v c s t ∧ (s.ports[p].run.state = .running → c = none) ∧
        (s.ports[p].run.state = .transfer → ∀ d, s.ports[p].run.slew = some d →
          c = some (rampTarget s.ports[p] r v * (d.elapsed + 1) / d.time)) := by
      rcases hst with ⟨hs, hc, ht⟩ | ⟨hs, hg⟩
      · exact ⟨_, running_commanded hfed hbeside hr hk hs hc ht, fun _ => rfl, (fun h => by rw [hs] at h; cases h)⟩
      · exact ⟨_, ramping_commanded hfed hbeside hr hk hs hg, (fun h => by rw [hs] at h; cases h),
          fun _ d hd => by rw [hd]; rfl⟩
    have hcap : t.ports[p].run.bounds.phaseCapacity = 40000 * heldCount p s := hcom.capacity
    refine ⟨⟨hcap, hcom.grant, by rw [← heff]; exact hcom.demand⟩, hcap ▸ hcom.within, fun hs hin => ?_, fun hs d hd => ?_,
      fun hin => ?_, fun hs hin hcv => ?_, fun hs hin hcv => ?_, fun hin hcv => ?_, fun hc hcv => (hcom.updated hc hcv).2.1,
      hcom.charges, hcom.discharges, hcom.throttled, hcom.splits⟩
    · obtain rfl := hrunning hs
      exact hcom.outside hin
    · obtain rfl := hramping hs d hd
      refine ⟨?_, fun hin => ?_, fun hin hcv => ?_, fun hin hcv => ?_⟩
      · rw [hcom.applied]
        exact Nat.min_le_right ..
      · rw [hcom.outside hin]
        simp only [ceiled, Option.elim, min_assoc, rampTarget]
      · obtain ⟨happ, hint⟩ := hcom.cv_later hin hcv
        refine ⟨happ, hint.trans ?_⟩
        simp only [ceiled, Option.elim, min_assoc, rampTarget]
      · refine (hcom.cv_change hin hcv).2.1.trans ?_
        simp only [ceiled, Option.elim, min_assoc, rampTarget]
    · obtain ⟨hint, hle⟩ := hcom.integrator hin
      have hle' : t.ports[p].run.cvIntegrator ≤ t.ports[p].run.bounds.cvDemand := by
        rw [hint]
        exact Nat.min_le_left ..
      refine ⟨?_, hle', hle'.trans hle⟩
      rw [hcom.cv_applied hin]
      exact (ceiled_le ..).trans (Nat.min_le_left ..)
    · obtain rfl := hrunning hs
      exact hcom.cv_later hin hcv
    · obtain rfl := hrunning hs
      exact (hcom.cv_change hin hcv).2.1
    · exact ⟨(hcom.cv_change hin hcv).1, (hcom.cv_change hin hcv).2.2⟩
  · obtain ⟨happ, hslew, hthr, hstate, hstage, htimer, halloc, hsplits⟩ := drained_command hfed hbeside hd hlt hs
    refine ⟨?_, hslew, hthr, hstate, hstage, htimer, halloc, hsplits⟩
    rw [happ]
    cases d.direction <;> rfl
  · refine idle_command hfed hbeside ?_
    obtain ⟨i, res, a, fl, hy⟩ := hfed.port
    have hrun : y.ports[p].run.state = s.ports[p].run.state ∧ y.ports[p].run.stage = s.ports[p].run.stage := by rw [hy]; exact ⟨rfl, rfl⟩
    rcases hs with hs | hs | hs | ⟨hs, hg⟩
    · exact sequencer_idle (.inl (by rw [hrun.1, hs]))
    · exact sequencer_idle (.inr (.inl (by rw [hrun.1, hs])))
    · exact sequencer_idle (.inr (.inr (by rw [hrun.1, hs])))
    · exact sequencer_acquiring (by rw [hrun.1, hs]) (by rw [hrun.2, hg])

end Sys2Proof.CurrentCommand
end

section
/-! PROOFS. The settle detector at a sample (R63 to R70). -/

open Sys2Proof Sys2Proof.Machine Sys2Proof.Indexing Sys2Proof.Acquiring Sys2Proof.Samples Sys2Proof.Instants Sys2Proof.Arrivals
open Sys2Proof.TripPaths Sys2Proof.CurrentCommand

namespace Sys2Proof.Settling

/-! ### Counting (R64 to R68) -/

section
variable {x target : Int} {tol : Nat} {w : Settle}

theorem countSample_first (h : w.count = 0) : countSample x target tol w =
    if (x - target).natAbs ≤ tol then { w with count := 1, dirty := false, target := target, band := tol }
    else { w with count := 1, dirty := true, target := target, band := tol, grade2 := false } := by
  simp [countSample, h]

theorem countSample_moved (h : w.count ≠ 0) (hm : w.band < (target - w.target).natAbs) :
    countSample x target tol w = ⟨1, decide (tol < (x - target).natAbs), target, tol, false, false⟩ := by
  by_cases hx : (x - target).natAbs ≤ tol
  · simp [countSample, h, hm, hx, Nat.not_lt.mpr hx]
  · simp [countSample, h, hm, hx, Nat.not_le.mp hx]

theorem countSample_running (h : w.count ≠ 0) (hm : (target - w.target).natAbs ≤ w.band) :
    ((x - target).natAbs ≤ w.band → countSample x target tol w = { w with count := w.count + 1 }) ∧
    (w.band < (x - target).natAbs → w.dirty = false → countSample x target tol w =
      { w with count := 1, dirty := true, target := target, band := tol, grade2 := false }) ∧
    (w.band < (x - target).natAbs → w.dirty = true →
      countSample x target tol w = { w with count := w.count + 1, grade2 := false }) := by
  have hm' : ¬ w.band < (target - w.target).natAbs := Nat.not_lt.mpr hm
  refine ⟨fun hx => ?_, fun hx hd => ?_, fun hx hd => ?_⟩
  · simp [countSample, h, hm', hx]
  · simp [countSample, h, hm', Nat.not_le.mpr hx, hd]
  · simp [countSample, h, hm', Nat.not_le.mpr hx, hd]

end

/-- The controlled quantity, its target and its tolerance by the kind of the step (R64). -/
theorem controlled_kinds (r : StepRecord) (sub : SubPhase) (d : PortDefaults) (v : Sample) (c : Int) :
    (r.kind = .ccCharge ∨ r.kind = .ccDischarge ∨ r.kind = .pulse ∨ (r.kind = .cccvCharge ∧ sub ≠ .cv) →
      controlled r sub d v c = some (v.current, c, if r.settleTolerance = 0 then d.currentTol else r.settleTolerance)) ∧
    (r.kind = .cccvCharge → sub = .cv →
      controlled r sub d v c = some ((v.voltage : Int), (r.cvVoltage : Int),
        if r.cvTolerance = 0 then d.voltageTol else r.cvTolerance)) ∧
    (r.kind = .cpDischarge → controlled r sub d v c = some ((v.voltage * v.current).tdiv 1000000,
      -((c.natAbs * v.voltage / 1000000 : Nat) : Int), if r.settleTolerance = 0 then d.powerTol else r.settleTolerance)) ∧
    (r.kind = .rest → controlled r sub d v c = none) := by
  refine ⟨?_, fun hk hs => ?_, fun hk => ?_, fun hk => ?_⟩
  · rintro (hk | hk | hk | ⟨hk, hs⟩)
    · simp only [controlled, hk, orDefault]
    · simp only [controlled, hk, orDefault]
    · simp only [controlled, hk, orDefault]
    · simp only [controlled, hk, orDefault, if_neg hs]
  · simp only [controlled, hk, orDefault, if_pos hs]
  · simp only [controlled, hk, orDefault]
  · simp only [controlled, hk]

/-- What a window check makes of a counted sample (R66). -/
theorem windowCheck_of {d e : Settle} (h : (d.count = 32 ∧ e = { d with grade1 := !d.dirty }) ∨
      (d.count = 64 ∧ e = { d with grade2 := !d.dirty, count := 0, dirty := false }) ∨
      (d.count ≠ 32 ∧ d.count ≠ 64 ∧ e = d)) : windowCheck d = e := by
  rcases h with ⟨hc, rfl⟩ | ⟨hc, rfl⟩ | ⟨h32, h64, rfl⟩
  · simp [windowCheck, hc]
  · simp [windowCheck, hc]
  · simp [windowCheck, h32, h64]

section
variable {p : Fin 8} {s t u y : State} {v : Sample} {rd : Reading} {reply : List Byte} {r : StepRecord} {c : Option Nat}
  {x target : Int} {tol : Nat}

/-! ### The intake's work (R65, R70) -/

/-- The settle flag of a port in the two sets. -/
def settleFlags (p : Fin 8) (s : State) : Bool × Bool :=
  (hasPortFlag s.cmd.stationSet p .settle, hasPortFlag s.cmd.hallSet p .settle)

theorem withCapture_settle (a : Attention) : hasPortFlag (withPortFlag a p .capture) p .settle = hasPortFlag a p .settle := by
  have hbits : (a.ports[p] ||| portBit .capture) &&& portBit .settle = a.ports[p] &&& portBit .settle := by
    rw [BitVec.and_or_distrib_right]
    exact BitVec.or_zero
  simp only [hasPortFlag, withPortFlag, Fin.getElem_fin, Vector.getElem_set_self] at hbits ⊢
  rw [hbits]

theorem takeCaptureA_kept (p : Fin 8) (v : Sample) (held : Bool) (s : State) :
    (takeCaptureA p v held s).ports[p].intake.settle = s.ports[p].intake.settle ∧
    settleFlags p (takeCaptureA p v held s) = settleFlags p s := by
  unfold takeCaptureA
  split <;> simp [settleFlags]

theorem takeCaptureB_kept (p : Fin 8) (v : Sample) (s : State) :
    (takeCaptureB p v s).ports[p].intake.settle = s.ports[p].intake.settle ∧
    settleFlags p (takeCaptureB p v s) = settleFlags p s := by
  unfold takeCaptureB
  split
  · split
    · refine ⟨by simp [deliverCapture], ?_⟩
      simp only [settleFlags, deliverCapture, raisePort_stationSet, raisePort_hallSet, withCapture_settle, modPort_cmd]
    · exact ⟨rfl, rfl⟩
  · exact ⟨rfl, rfl⟩

/-- The state at an arrival behind the store of its sample. -/
def sampleStored (p : Fin 8) (v : Sample) (s : State) : State :=
  modIntake p (fun i => { i with latest := some v, missed := 0, strobe := .answered }) s

theorem handed_arrival (p : Fin 8) (reply : List Byte) (v : Sample) (s : State) :
    (handed p (.arrival reply) v s).ports[p].intake.settle = (settleUpdate p v (sampleStored p v s)).ports[p].intake.settle ∧
    settleFlags p (handed p (.arrival reply) v s) = settleFlags p (settleUpdate p v (sampleStored p v s)) := by
  have ha := takeCaptureA_kept p v false (settleUpdate p v (sampleStored p v s))
  have hb := takeCaptureB_kept p v (takeCaptureA p v false (settleUpdate p v (sampleStored p v s)))
  exact ⟨hb.1.trans ha.1, hb.2.trans ha.2⟩

theorem handed_missed (p : Fin 8) (v : Sample) (s : State) :
    (handed p .missed v s).ports[p].intake.settle = s.ports[p].intake.settle := by
  have ha := takeCaptureA_kept p (nextHeld s.ports[p].intake) true (modIntake p (fun i => { i with missed := min 65535 (i.missed + 1) }) s)
  refine ha.1.trans ?_
  rw [modIntake, modPort_self]

/-- An arrival that is counted: the detector after its window check, and SETTLE where the edge is selected (R65 to R70). -/
theorem settleUpdate_counts (hst : s.ports[p].run.state = .running) (hr : s.ports[p].run.step = some r)
    (hc : controlled r s.ports[p].run.subPhase s.ports[p].intake.defaults v s.ports[p].run.applied = some (x, target, tol)) :
    let d := windowCheck (countSample x target tol s.ports[p].intake.settle)
    settleUpdate p v s =
      if edgeSelected s.ports[p].intake.edges (settleGrade s.ports[p].intake.settle) (settleGrade d)
      then raisePort .settle p (modIntake p (fun i => { i with settle := d }) s)
      else modIntake p (fun i => { i with settle := d }) s := by
  simp only [settleUpdate, hr, hst, if_true, hc]

/-- An arrival outside RUNNING, or in a step without a controlled quantity, is not counted. -/
theorem settleUpdate_leaves (h : s.ports[p].run.state ≠ .running ∨ ∃ r, s.ports[p].run.step = some r ∧ r.kind = .rest) :
    settleUpdate p v s = s := by
  unfold settleUpdate
  dsimp only
  split
  · next r hr =>
    split
    · next hst =>
      rcases h with h | ⟨r', hr', hk⟩
      · exact absurd hst h
      · obtain rfl : r = r' := Option.some.inj (hr.symm.trans hr')
        simp only [controlled, hk]
    · rfl
  · rfl

/-! ### The sequencer's work -/

theorem subPhaseTests_intake (hr : y.ports[p].run.step = some r) : (subPhaseTests p r v c y).ports[p].intake =
    if cvReached y.ports[p].run v.voltage = true ∨ edgeDue y.ports[p].run = true then { y.ports[p].intake with settle := .empty }
    else y.ports[p].intake := by
  unfold subPhaseTests
  by_cases hcv : cvReached y.ports[p].run v.voltage = true
  · rw [if_pos hcv, if_pos (.inl hcv)]
    simp [enterCv]
  · rw [if_neg hcv]
    by_cases he : edgeDue y.ports[p].run = true
    · have hk : ¬ InCv r y.ports[p].run := fun h => by
        have hkind := h.1
        simp only [edgeDue, hr, Bool.and_eq_true, decide_eq_true_eq] at he
        rw [he.1.1.2] at hkind
        cases hkind
      rw [if_neg hk, if_pos he, if_pos (.inr he)]
      simp
    · rw [if_neg he, if_neg (not_or.mpr ⟨hcv, he⟩)]
      split
      · simp [updateCv]
      · rfl

theorem subPhaseTests_calm (r : StepRecord) (c : Option Nat) (hcv : cvReached y.ports[p].run v.voltage = false)
    (he : edgeDue y.ports[p].run = false) : (subPhaseTests p r v c y).ports[p].intake = y.ports[p].intake := by
  unfold subPhaseTests
  rw [if_neg (ne_true_of_eq_false hcv), if_neg (c := edgeDue y.ports[p].run = true) (ne_true_of_eq_false he)]
  split
  · simp [updateCv]
  · rfl

theorem applyStep_intake (p : Fin 8) (r : StepRecord) (v : Sample) (c : Option Nat) (s : State) :
    (applyStep p r v c s).ports[p].intake = s.ports[p].intake := by rw [applyStep_run]

theorem rampSample_intake (p : Fin 8) (v : Sample) (y : State) : ∃ r c,
    (rampSample p v y).ports[p].intake = (subPhaseTests p r v c y).ports[p].intake := by
  refine ⟨y.ports[p].run.step.getD default, some (rampTarget y.ports[p] (y.ports[p].run.step.getD default) v *
    ((y.ports[p].run.slew.getD ⟨0, .charge, 0, 0⟩).elapsed + 1) / (y.ports[p].run.slew.getD ⟨0, .charge, 0, 0⟩).time), ?_⟩
  unfold rampSample
  dsimp only
  rw [modRun, modPort_self]
  exact applyStep_intake ..

theorem runningCount_intake (p : Fin 8) (v : Sample) (y : State) : (runningCount p v y).ports[p].intake =
    (subPhaseTests p (y.ports[p].run.step.getD default) v none y).ports[p].intake := by
  unfold runningCount
  dsimp only
  rw [modRun, modPort_self]
  exact applyStep_intake ..

theorem completeDrain_intake (p : Fin 8) (s : State) : (completeDrain p s).ports[p].intake = s.ports[p].intake := by
  unfold completeDrain
  dsimp only
  split
  · obtain ⟨st, sl, nd, -, hport⟩ := acquire_port p (setBasis p (some _) (modRun p _ _))
    rw [hport]
    simp
  · simp

theorem drainSample_intake (p : Fin 8) (v : Sample) (s : State) : (drainSample p v s).ports[p].intake = s.ports[p].intake :=
  (drainSample_state p v s).2.2.2.2

/-- The sequencer leaves the intake where no sub-phase changes and no step ends. -/
theorem sequencer_intake (hcv : cvReached y.ports[p].run v.voltage = false) (he : edgeDue y.ports[p].run = false)
    (hs : commandsNone y.ports[p].run.state ∨ y.ports[p].run.state = .transfer ∨
      ((y.ports[p].run.state = .holding ∨ y.ports[p].run.state = .ending) ∧ slewDue y.ports[p].run = false) ∨
      (y.ports[p].run.state = .running ∧ stepEnd (runningCount p v y).ports[p] v = none)) :
    (sequencerSample p v y).ports[p].intake = y.ports[p].intake := by
  rcases hs with hs | hs | ⟨hs | hs, hd⟩ | ⟨hs, hgo⟩
  · rw [sequencer_idle hs, idleSample_run]
  · cases hg : y.ports[p].run.stage with
    | draining =>
      rw [sequencer_draining hs hg]
      exact ite_rel (K := fun t : State => t.ports[p].intake = y.ports[p].intake)
        ((completeDrain_intake ..).trans (drainSample_intake ..)) (drainSample_intake ..)
    | acquiring => rw [sequencer_acquiring hs hg, idleSample_run]
    | ramping =>
      obtain ⟨r, c, hramp⟩ := rampSample_intake p v y
      rw [sequencer_ramping hs hg, hramp, subPhaseTests_calm r c hcv he]
  · rw [sequencer_holding hs, if_neg (ne_true_of_eq_false hd), drainSample_intake]
  · rw [sequencer_ending hs, if_neg (ne_true_of_eq_false hd), drainSample_intake]
  · rw [sequencer_running hs, runningSample_goes hgo, runningCount_intake, subPhaseTests_calm _ _ hcv he]

theorem beside_settle (h : Beside p u t) : t.ports[p].intake.settle = u.ports[p].intake.settle ∧ settleFlags p t = settleFlags p u := by
  obtain ⟨a, fl, st, hport⟩ := h.port
  exact ⟨by rw [hport], by rw [settleFlags, h.cmd]; rfl⟩

theorem cvReached_fed (h : Fed p s y) : cvReached y.ports[p].run v.voltage = cvReached s.ports[p].run v.voltage ∧
    edgeDue y.ports[p].run = edgeDue s.ports[p].run := by
  obtain ⟨i, res, a, fl, hy⟩ := h.port
  rw [hy]
  exact ⟨rfl, rfl⟩

/-- A counted arrival in RUNNING that ends no step and brings no fault. -/
theorem counted_instant (h : readingSample s.ports[p] (.arrival reply) = some v) (hf : faultless s.ports[p] (.arrival reply) v = true)
    (hst : s.ports[p].run.state = .running) (hr : s.ports[p].run.step = some r) (hn : r.conditions = [])
    (ht : timerDue s.ports[p] v = false) :
    let e := settleUpdate p v (sampleStored p v s)
    (takeReading p s (.arrival reply)).ports[p].intake.settle =
      (if cvReached s.ports[p].run v.voltage = true ∨ edgeDue s.ports[p].run = true then .empty else e.ports[p].intake.settle) ∧
    settleFlags p (takeReading p s (.arrival reply)) = settleFlags p e := by
  obtain ⟨y, hfed, hbeside, hintake, -, hcmd, -⟩ := clear_instant h hf
  obtain ⟨hset, hflags⟩ := beside_settle hbeside
  obtain ⟨hhs, hhf⟩ := handed_arrival p reply v s
  obtain ⟨hcv, he⟩ := cvReached_fed (v := v) hfed
  have hgo := stepEnd_none hr hn ht hst hfed
  obtain ⟨i, res, a, fl, hy⟩ := hfed.port
  have hyr : y.ports[p].run.step = some r := by rw [hy]; exact hr
  have hyf : settleFlags p y = settleFlags p (handed p (.arrival reply) v s) := by rw [settleFlags, ← hcmd]; rfl
  have hseq : settleFlags p (sequencerSample p v y) = settleFlags p y := by
    rw [sequencer_running (by rw [hy]; exact hst), runningSample_goes hgo, settleFlags, (steady_runningCount p v y).cmd]
    rfl
  refine ⟨?_, by rw [hflags, hseq, hyf, hhf]⟩
  rw [hset, sequencer_running (by rw [hy]; exact hst), runningSample_goes hgo, runningCount_intake, hyr, Option.getD_some,
    subPhaseTests_intake hyr, hcv, he, hintake]
  split
  · rfl
  · exact hhs

end

/-- Settles O30. -/
theorem windowCheckGrades : Obligations.WindowCheckGrades := by
  refine ⟨fun p reply codes v r x target tol d e s hstrobe hcodes hv hst hr hc hn ht hf hd he => ?_,
    fun p rd v s h hf hcv hedge hs => ⟨takeReading p s rd, exec_readingRow p rd s, ?_⟩, controlled_kinds,
    fun x target tol w => ⟨countSample_first, countSample_moved, countSample_running⟩⟩
  · have h : readingSample s.ports[p] (.arrival reply) = some v := hv ▸ arrival_sample hstrobe hcodes
    refine ⟨takeReading p s (.arrival reply), exec_readingRow p (.arrival reply) s, fun hcount => ?_, ?_⟩
    · refine congrArg Host.Outcome.next (namedInstant_due h ?_)
      simp only [windowCheckDue, hr, hst, hc, decide_true, Bool.true_and, checkDue, ← hd]
      simpa using hcount
    · obtain ⟨hset, hflags⟩ := counted_instant h hf hst hr hn ht
      have hport : (sampleStored p v s).ports[p] = { s.ports[p] with
          intake := { s.ports[p].intake with latest := some v, missed := 0, strobe := .answered } } := by
        rw [sampleStored, modIntake, modPort_self]
      have hcount := settleUpdate_counts (s := sampleStored p v s) (p := p) (v := v) (r := r) (x := x) (target := target) (tol := tol)
        (by rw [hport]; exact hst) (by rw [hport]; exact hr) (by rw [hport]; exact hc)
      rw [hport] at hcount
      dsimp only at hcount
      rw [← hd, windowCheck_of he] at hcount
      rw [hcount] at hset hflags
      have hsettle : (modIntake p (fun i => { i with settle := e }) (sampleStored p v s)).ports[p].intake.settle = e := by
        rw [modIntake, modPort_self]
      by_cases hedge : edgeSelected s.ports[p].intake.edges (settleGrade s.ports[p].intake.settle) (settleGrade e) = true
      · rw [if_pos hedge] at hset hflags
        have hraised := flagged_raisePort .settle p (modIntake p (fun i => { i with settle := e }) (sampleStored p v s))
        simp only [settleFlags, Prod.mk.injEq] at hflags
        refine ⟨hset.trans (by rw [raisePort_ports, hsettle]), fun _ => ⟨hflags.1.trans hraised.1, hflags.2.trans hraised.2⟩, fun hno => ?_⟩
        rw [hedge] at hno
        cases hno
      · rw [if_neg hedge] at hset hflags
        simp only [settleFlags, Prod.mk.injEq] at hflags
        exact ⟨hset.trans (by rw [hsettle]), fun hyes => absurd hyes hedge, fun _ => hflags⟩
  · obtain ⟨y, hfed, hbeside, hintake, -⟩ := clear_instant h hf
    obtain ⟨hcv', he'⟩ := cvReached_fed (v := v) hfed
    have hhanded : (handed p rd v s).ports[p].intake.settle = s.ports[p].intake.settle := by
      cases rd with
      | missed => exact handed_missed ..
      | arrival reply =>
        have hport : (sampleStored p v s).ports[p] = { s.ports[p] with
            intake := { s.ports[p].intake with latest := some v, missed := 0, strobe := .answered } } := by
          rw [sampleStored, modIntake, modPort_self]
        rw [(handed_arrival p reply v s).1, settleUpdate_leaves, hport]
        rw [hport]
        rcases hs with hs | hs | hs | hs | ⟨hs | hs, -⟩ | ⟨-, -, r, hr, -, hk | hk⟩
        · exact .inl fun hrun => by rw [show s.ports[p].run.state = .running from hrun] at hs; cases hs
        iterate 5 exact .inl fun hrun => by rw [show s.ports[p].run.state = .running from hrun] at hs; cases hs
        · cases hk
        · exact .inr ⟨r, hr, hk⟩
    obtain ⟨hset, -⟩ := beside_settle hbeside
    rw [hset, sequencer_intake (hcv'.trans hcv) (he'.trans hedge) ?_, hintake, hhanded]
    have hrun : y.ports[p].run.state = s.ports[p].run.state ∧ slewDue y.ports[p].run = slewDue s.ports[p].run := by
      obtain ⟨i, res, a, fl, hy⟩ := hfed.port
      rw [hy]
      exact ⟨rfl, rfl⟩
    rw [hrun.1, hrun.2]
    rcases hs with hs | hs | hs | hs | hs | ⟨hs, ht, r, hr, hn, -⟩
    · exact .inl (.inl hs)
    · exact .inl (.inr (.inl hs))
    · exact .inl (.inr (.inr hs))
    · exact .inr (.inl hs)
    · exact .inr (.inr (.inl hs))
    · exact .inr (.inr (.inr ⟨hs, stepEnd_none hr hn ht hs hfed⟩))

end Sys2Proof.Settling
end

section
/-! PROOFS. Captures at a pulse edge and behind it (R72 to R75). -/

open Sys2Proof Sys2Proof.Machine Sys2Proof.Indexing Sys2Proof.FaultPaths Sys2Proof.Acquiring Sys2Proof.Samples Sys2Proof.Instants Sys2Proof.Arrivals
open Sys2Proof.TripPaths Sys2Proof.CurrentCommand Sys2Proof.Settling

namespace Sys2Proof.Captures

section
variable {p : Fin 8} {s t u y : State} {v : Sample} {rd : Reading} {reply : List Byte} {r : StepRecord} {c : Option Nat}
  {a : CapturePoint} {arrived : Bool}

/-! ### Capture A (R72) -/

/-- A sample at the edge of a PULSE, whose base time ends. -/
structure AtEdge (r : StepRecord) (q : Port) : Prop where
  state : q.run.state = .running
  step : q.run.step = some r
  kind : r.kind = .pulse
  subPhase : q.run.subPhase = .base
  timer : q.run.stepTimer = r.baseTime

theorem AtEdge.edgeDue {q : Port} (h : AtEdge r q) : edgeDue q.run = true := by
  obtain ⟨hs, hr, hk, hb, ht⟩ := h
  simp only [Machine.edgeDue, hr, hs, hk, hb, ht, decide_true, Bool.and_self]

theorem AtEdge.no_capture {q : Port} (h : AtEdge r q) : captureDue q = false := by
  simp only [captureDue, h.step, h.subPhase, reduceCtorEq, decide_false, Bool.and_false, Bool.false_and]

/-- A port with another intake, resistance and accounts stands at the same edge. -/
theorem AtEdge.congr {q q' : Port} (h : AtEdge r q) (hs : q'.run.state = q.run.state) (hr : q'.run.step = q.run.step)
    (hb : q'.run.subPhase = q.run.subPhase) (ht : q'.run.stepTimer = q.run.stepTimer) : AtEdge r q' :=
  ⟨hs.trans h.state, hr.trans h.step, h.kind, hb.trans h.subPhase, ht.trans h.timer⟩

theorem settled_port (p : Fin 8) (d : Settle) (s : State) : (modIntake p (fun i => { i with settle := d }) s).ports[p] =
    { s.ports[p] with intake := { s.ports[p].intake with settle := d } } := modPort_self ..

theorem settleUpdate_port (p : Fin 8) (v : Sample) (s : State) : ∃ d, (settleUpdate p v s).ports[p] =
    { s.ports[p] with intake := { s.ports[p].intake with settle := d } } := by
  unfold settleUpdate
  dsimp only
  split
  · split
    · split
      · split
        · exact ⟨_, settled_port ..⟩
        · exact ⟨_, settled_port ..⟩
      · exact ⟨_, rfl⟩
    · exact ⟨_, rfl⟩
  · exact ⟨_, rfl⟩

theorem takeCaptureA_taken (held : Bool) (h : AtEdge r s.ports[p]) :
    (takeCaptureA p v held s).ports[p] = { s.ports[p] with
      intake := { s.ports[p].intake with captureA := some ⟨v.voltage, v.current, held, r.baseTime⟩ } } := by
  unfold takeCaptureA
  rw [if_pos h.edgeDue, modIntake, modPort_self, h.timer]

theorem takeCaptureB_none (h : captureDue s.ports[p] = false) : takeCaptureB p v s = s := by
  unfold takeCaptureB
  rw [if_neg (ne_true_of_eq_false h)]

/-- Capture A is taken from the sample of the edge, held or not. -/
theorem handed_captureA (hv : readingSample s.ports[p] rd = some v) (h : AtEdge r s.ports[p]) :
    (handed p rd v s).ports[p].intake.captureA = some ⟨v.voltage, v.current, decide (rd = .missed), r.baseTime⟩ := by
  cases rd with
  | missed =>
    obtain ⟨-, rfl⟩ := sample_missed hv
    have hport := modPort_self (s := s) (p := p) (fun q => { q with intake := { q.intake with missed := min 65535 (q.intake.missed + 1) } })
    have hedge : AtEdge r (modIntake p (fun i => { i with missed := min 65535 (i.missed + 1) }) s).ports[p] := by
      refine h.congr ?_ ?_ ?_ ?_ <;> rw [modIntake, hport]
    change (takeCaptureA p (nextHeld s.ports[p].intake) true (modIntake p _ s)).ports[p].intake.captureA = _
    rw [takeCaptureA_taken true hedge]
    rfl
  | arrival reply =>
    obtain ⟨d, hset⟩ := settleUpdate_port p v (sampleStored p v s)
    have hport : (sampleStored p v s).ports[p] = { s.ports[p] with
        intake := { s.ports[p].intake with latest := some v, missed := 0, strobe := .answered } } := by
      rw [sampleStored, modIntake, modPort_self]
    have hedge : AtEdge r (settleUpdate p v (sampleStored p v s)).ports[p] := by
      refine h.congr ?_ ?_ ?_ ?_ <;> rw [hset, hport]
    have htaken := takeCaptureA_taken (v := v) false hedge
    change (takeCaptureB p v (takeCaptureA p v false (settleUpdate p v (sampleStored p v s)))).ports[p].intake.captureA = _
    rw [takeCaptureB_none, htaken]
    · rfl
    · rw [htaken]
      exact (hedge.congr (q' := { (settleUpdate p v (sampleStored p v s)).ports[p] with
        intake := { (settleUpdate p v (sampleStored p v s)).ports[p].intake with
          captureA := some ⟨v.voltage, v.current, false, r.baseTime⟩ } }) rfl rfl rfl rfl).no_capture

theorem subPhaseTests_pulse (h : AtEdge r y.ports[p]) : (subPhaseTests p r v c y).ports[p].run.subPhase = .pulse := by
  have hcv : ¬ cvReached y.ports[p].run v.voltage = true := by
    simp only [cvReached, h.step, h.kind, reduceCtorEq, decide_false, Bool.false_and, not_false_eq_true, Bool.false_eq_true]
  have hin : ¬ InCv r y.ports[p].run := fun hc => by
    have hk := hc.1
    rw [h.kind] at hk
    cases hk
  unfold subPhaseTests
  rw [if_neg hcv, if_neg hin, if_pos h.edgeDue]
  simp

theorem runningCount_pulse (h : AtEdge r y.ports[p]) : (runningCount p v y).ports[p].run.subPhase = .pulse := by
  unfold runningCount
  simp only [h.step, Option.getD_some, modRun, modPort_self, applyStep_run]
  exact subPhaseTests_pulse h

/-- The pulse edge (R72): the change of sub-phase empties the detector, and capture A stands. -/
theorem edge_instant (hv : readingSample s.ports[p] rd = some v) (hf : faultless s.ports[p] rd v = true) (h : AtEdge r s.ports[p])
    (hn : r.conditions = []) (ht : timerDue s.ports[p] v = false) :
    let t := takeReading p s rd
    t.ports[p].run.state = .running ∧ t.ports[p].run.subPhase = .pulse ∧ t.ports[p].run.stepTimer = r.baseTime + 1 ∧
    t.ports[p].intake.settle = .empty ∧
    t.ports[p].intake.captureA = some ⟨v.voltage, v.current, decide (rd = .missed), r.baseTime⟩ := by
  obtain ⟨y, hfed, hbeside, hintake, -⟩ := clear_instant hv hf
  obtain ⟨a, fl, st, hport⟩ := hbeside.port
  have hgo := stepEnd_none h.step hn ht h.state hfed
  have hedge : AtEdge r y.ports[p] := by
    obtain ⟨i, res, a, fl, hy⟩ := hfed.port
    refine h.congr ?_ ?_ ?_ ?_ <;> rw [hy]
  rw [sequencer_running hedge.state, runningSample_goes hgo] at hport
  have hset : (runningCount p v y).ports[p].intake.settle = .empty := by
    rw [runningCount_intake, hedge.step, Option.getD_some, subPhaseTests_intake hedge.step, if_pos (.inr hedge.edgeDue)]
  have hcap := ((steady_runningCount p v y).captureA.trans (congrArg (fun i => i.captureA) hintake)).trans (handed_captureA hv h)
  refine ⟨?_, ?_, ?_, ?_, ?_⟩ <;> rw [hport]
  · exact (runningCount_state p v y).trans hedge.state
  · exact runningCount_pulse hedge
  · exact (runningCount_stepTimer ..).trans (by rw [hedge.timer])
  · exact hset
  · exact hcap

/-! ### Capture B (R73 to R75) -/

/-- The port behind the delivery of a capture. -/
def delivered (a b : CapturePoint) (q : Port) : Port := { q with
  intake := { q.intake with
    captureA := none, slot := some ⟨q.run.program, q.run.stepIndex, q.run.runCycles, a, b, resistanceOf a b⟩
    captureValid := true, overwrite := q.intake.overwrite || q.intake.captureValid }
  run := { q.run with resistance := resistanceOf a b }
  acct := { q.acct with unfolded := { q.acct.unfolded with
    lastResistance := (resistanceOf a b).orElse fun _ => q.acct.unfolded.lastResistance } } }

theorem deliverCapture_port (p : Fin 8) (a b : CapturePoint) (s : State) :
    (deliverCapture p a b s).ports[p] = delivered a b s.ports[p] := by
  unfold deliverCapture
  dsimp only
  rw [raisePort_ports, modPort_self]
  rfl

theorem takeCaptureB_delivers (h : captureDue s.ports[p] = true) (ha : s.ports[p].intake.captureA = some a) :
    (takeCaptureB p v s).ports[p] = delivered a ⟨v.voltage, v.current, false, s.ports[p].run.stepTimer⟩ s.ports[p] ∧
    flagged p .capture (takeCaptureB p v s) := by
  have hform : takeCaptureB p v s = deliverCapture p a ⟨v.voltage, v.current, false, s.ports[p].run.stepTimer⟩ s := by
    simp only [takeCaptureB, if_pos h, ha]
  rw [hform]
  exact ⟨deliverCapture_port .., flagged_raisePort ..⟩

theorem captureDue_of (hs : s.ports[p].run.state = .running) (hr : s.ports[p].run.step = some r)
    (hp : s.ports[p].run.subPhase = .pulse) (ha : s.ports[p].intake.captureA = some a)
    (ht : r.baseTime + r.captureDelay ≤ s.ports[p].run.stepTimer) : captureDue s.ports[p] = true := by
  simp only [captureDue, hr, hs, hp, ha, ht, decide_true, Option.isSome_some, Bool.and_self]

/-- The B instant: the capture reaches the slot, the step and the unfolded set. -/
theorem handed_captureB (hs : s.ports[p].run.state = .running) (hr : s.ports[p].run.step = some r)
    (hp : s.ports[p].run.subPhase = .pulse) (ha : s.ports[p].intake.captureA = some a)
    (ht : r.baseTime + r.captureDelay ≤ s.ports[p].run.stepTimer) :
    flagged p .capture (handed p (.arrival reply) v s) ∧ ∃ d, (handed p (.arrival reply) v s).ports[p] =
      delivered a ⟨v.voltage, v.current, false, s.ports[p].run.stepTimer⟩ { s.ports[p] with
        intake := { s.ports[p].intake with latest := some v, missed := 0, strobe := .answered, settle := d } } := by
  obtain ⟨d, hset⟩ := settleUpdate_port p v (sampleStored p v s)
  have hport : (sampleStored p v s).ports[p] = { s.ports[p] with
      intake := { s.ports[p].intake with latest := some v, missed := 0, strobe := .answered } } := by
    rw [sampleStored, modIntake, modPort_self]
  rw [hport] at hset
  have hno : ¬ edgeDue (settleUpdate p v (sampleStored p v s)).ports[p].run = true := by
    rw [hset]
    simp only [edgeDue, hr, hp, reduceCtorEq, decide_false, Bool.and_false, Bool.false_and, Bool.false_eq_true, not_false_eq_true]
  have hA : takeCaptureA p v false (settleUpdate p v (sampleStored p v s)) = settleUpdate p v (sampleStored p v s) := by
    unfold takeCaptureA
    rw [if_neg hno]
  have hdue : captureDue (settleUpdate p v (sampleStored p v s)).ports[p] = true :=
    captureDue_of (by rw [hset]; exact hs) (by rw [hset]; exact hr) (by rw [hset]; exact hp) (a := a) (by rw [hset]; exact ha)
      (by rw [hset]; exact ht)
  obtain ⟨hB, hflag⟩ := takeCaptureB_delivers (v := v) hdue (a := a) (by rw [hset]; exact ha)
  have hform : (handed p (.arrival reply) v s).ports =
      (takeCaptureB p v (settleUpdate p v (sampleStored p v s))).ports := by
    change (takeCaptureB p v (takeCaptureA p v false (settleUpdate p v (sampleStored p v s)))).ports = _
    rw [hA]
  have hflag' : flagged p .capture (takeCaptureB p v (takeCaptureA p v false (settleUpdate p v (sampleStored p v s)))) := by
    rw [hA]
    exact hflag
  refine ⟨hflag', d, ?_⟩
  rw [hform, hB, hset]

/-! ### What stands behind the consumers, a fault or a step end among them -/

theorem faults_capture (p : Fin 8) : ∀ (l : List FaultCode) (s : State), s.ports[p].intake.captureA = none →
    (l.foldl (fun t code => faultPort p code t) s).ports[p].intake.captureA = none
  | [], _, h => h
  | code :: l, s, h => by
    rw [List.foldl_cons]
    exact faults_capture p l _ (faultPort_capture code h)

theorem consume_capture (arrived : Bool) (v : Sample) (k : Config.Consumer) (h : s.ports[p].intake.captureA = none) :
    (consume p arrived v s k).ports[p].intake.captureA = none := by
  cases k with
  | accounting =>
    change (accountSample p v s).ports[p].intake.captureA = none
    rw [accountSample, modPort_self]
    exact h
  | sequencer => exact (sequencer_onward p v s).capture h
  | protection =>
    cases arrived with
    | true =>
      refine faults_capture p _ _ ?_
      rw [modProt_self]
      exact h
    | false => exact ite_rel (K := fun t : State => t.ports[p].intake.captureA = none) (faultPort_capture _ h) h

theorem consumers_capture (p : Fin 8) (arrived : Bool) (v : Sample) : ∀ (l : List Config.Consumer) (s : State),
    s.ports[p].intake.captureA = none → (l.foldl (consume p arrived v) s).ports[p].intake.captureA = none
  | [], _, h => h
  | k :: l, s, h => by
    rw [List.foldl_cons]
    exact consumers_capture p arrived v l _ (consume_capture arrived v k h)

/-- Behind the consumers of a delivery the slot and its marks stand, and no capture is in flight. -/
theorem delivered_instant (h : readingSample s.ports[p] (.arrival reply) = some v)
    (hn : (handed p (.arrival reply) v s).ports[p].intake.captureA = none)
    (hflag : flagged p .capture (handed p (.arrival reply) v s)) :
    let t := takeReading p s (.arrival reply)
    t.ports[p].intake.captureA = none ∧ flagged p .capture t ∧
    intakeCore t.ports[p].intake = intakeCore (handed p (.arrival reply) v s).ports[p].intake := by
  obtain ⟨o, ho⟩ := takeReading_instant h
  have hform : takeReading p s (.arrival reply) = consumeIn o p true v (handed p (.arrival reply) v s) := ho
  rw [hform]
  exact ⟨consumers_capture p true v _ _ hn, (consumeIn_portWork (b := true) o true v).cmd.flagged hflag, consumers_core p true v _ _⟩

theorem account_lastResistance (v : Sample) (q : Port) :
    (account v q).acct.unfolded.lastResistance = q.acct.unfolded.lastResistance := by
  unfold account
  dsimp only
  split <;> split <;> split <;> rfl

/-- Where nothing ends and nothing faults, the resistance stands for the step's record and in the unfolded set. -/
theorem resistance_instant (h : readingSample s.ports[p] rd = some v) (hf : faultless s.ports[p] rd v = true)
    (hs : s.ports[p].run.state = .running) (hr : s.ports[p].run.step = some r) (hn : r.conditions = [])
    (ht : timerDue s.ports[p] v = false) :
    (takeReading p s rd).ports[p].run.resistance = (handed p rd v s).ports[p].run.resistance ∧
    (takeReading p s rd).ports[p].acct.unfolded.lastResistance =
      (handed p rd v s).ports[p].acct.unfolded.lastResistance := by
  obtain ⟨y, hfed, hbeside, -, hrun, -, habout⟩ := clear_instant h hf
  obtain ⟨a, fl, st, hport⟩ := hbeside.port
  have hstate : y.ports[p].run.state = .running := by
    obtain ⟨i, res, a, fl, hy⟩ := hfed.port
    rw [hy]
    exact hs
  have hsteady : Steady p y (sequencerSample p v y) := by
    rw [sequencer_running hstate, runningSample_goes (stepEnd_none hr hn ht hs hfed)]
    exact steady_runningCount ..
  refine ⟨?_, ?_⟩
  · rw [hport, ← hrun]
    exact hsteady.resistance
  · rcases habout with ⟨hya, hta⟩ | ⟨hne, -⟩
    · rw [hta, hsteady.acct, hya, account_lastResistance]
    · exact absurd (hrun ▸ hstate) hne

end

/-- Settles O31. -/
theorem capturesTaken : Obligations.CapturesTaken := by
  refine ⟨fun p rd v r s h hs hr hk hb ht hn hp hd hf => ?_, fun p reply codes r a s hstrobe hcodes hs hr hp ha ht => ?_⟩
  · have hedge : AtEdge r s.ports[p] := ⟨hs, hr, hk, hb, ht⟩
    have hdue : timerDue s.ports[p] v = false := by
      simp only [timerDue, hr, hs, hk, ht, decide_true, Bool.true_and, Bool.or_eq_false_iff, decide_eq_false_iff_not]
      omega
    exact ⟨takeReading p s rd, congrArg Host.Outcome.next (namedInstant_due h hedge.edgeDue), edge_instant h hf hedge hn hdue⟩
  · have h := arrival_sample hstrobe hcodes
    have hdue := captureDue_of hs hr hp ha ht
    obtain ⟨hflag, d, hhanded⟩ := handed_captureB (reply := reply) (v := convertSample s.ports[p].intake codes) hs hr hp ha ht
    obtain ⟨hnone, hflagged, hcore⟩ := delivered_instant h (by rw [hhanded]; rfl) hflag
    rw [hhanded] at hcore
    refine ⟨takeReading p s (.arrival reply), congrArg Host.Outcome.next (namedInstant_due h hdue), hnone, hflagged,
      congrArg (fun i => i.captureValid) hcore, congrArg (fun i => i.overwrite) hcore, congrArg (fun i => i.slot) hcore,
      fun hn htd hf => ?_⟩
    obtain ⟨hres, hlast⟩ := resistance_instant h hf hs hr hn htd
    rw [hhanded] at hres hlast
    refine ⟨hres, hlast.trans ?_⟩
    unfold delivered
    dsimp only
    cases hz : resistanceOf a ⟨(convertSample s.ports[p].intake codes).voltage, (convertSample s.ports[p].intake codes).current, false,
      s.ports[p].run.stepTimer⟩ with
    | none => rfl
    | some z => rfl

end Sys2Proof.Captures
end

section
/-! PROOFS. The port that the end conditions look at (R38, R40), whichever consumer has taken the sample before. -/

open Sys2Proof Sys2Proof.Machine Sys2Proof.Indexing Sys2Proof.Samples Sys2Proof.Instants Sys2Proof.TripPaths

namespace Sys2Proof.Judging

section
variable {p : Fin 8} {s t u y : State} {v : Sample} {rd : Reading} {r : StepRecord} {c : Option Nat} {f : Vector Nat 6} {k : Nat}

/-! ### The sequencer's work does not read the filters -/

/-- A state with a port's filters and the counter of free values set. -/
def veiled (p : Fin 8) (f : Vector Nat 6) (k : Nat) (s : State) : State := { filtered p f s with instants := k }

theorem veiled_port : (veiled p f k s).ports[p] = { s.ports[p] with prot := { s.ports[p].prot with filters := f } } := filtered_port f

theorem veiled_modPort {g : Port → Port}
    (h : ∀ q : Port, g { q with prot := { q.prot with filters := f } } = { g q with prot := { (g q).prot with filters := f } }) :
    modPort p g (veiled p f k s) = veiled p f k (modPort p g s) := by
  have hport : modPort p g (filtered p f s) = filtered p f (modPort p g s) := by
    simp only [filtered, modProt, modPort_modPort]
    exact Owners.modPort_congr (h _)
  exact congrArg (fun x : State => { x with instants := k }) hport

theorem veiled_modRun (g : RunContext → RunContext) : modRun p g (veiled p f k s) = veiled p f k (modRun p g s) :=
  veiled_modPort fun _ => rfl

theorem veiled_restartSettle : restartSettle p (veiled p f k s) = veiled p f k (restartSettle p s) := by
  unfold restartSettle modIntake
  exact veiled_modPort fun _ => rfl

theorem veiled_alloc (q : Fin 8) : (veiled p f k s).ports[q].alloc = s.ports[q].alloc := by
  by_cases hq : q = p
  · subst hq
    rw [veiled_port]
  · have hother : (veiled p f k s).ports[q] = s.ports[q] := modPort_other s hq fun x => { x with prot := { x.prot with filters := f } }
    rw [hother]

theorem veiled_requests : requests (veiled p f k s) = requests s := by
  rw [Rounds.requests_eq, Rounds.requests_eq]
  exact List.map_congr_left fun q _ => by rw [veiled_alloc]

theorem veiled_round : Machine.round (veiled p f k s) = veiled p f k (Machine.round s) := by
  have hports : (Machine.round (veiled p f k s)).ports = (veiled p f k (Machine.round s)).ports := by
    apply Vector.ext
    intro j hj
    simp only [round_getElem, veiled_requests]
    simp only [veiled, filtered, modProt, modPort_getElem, round_getElem, Fin.getElem_fin]
    by_cases he : j = p.val
    · subst he
      rw [if_pos rfl, if_pos rfl]
      rfl
    · rw [if_neg he, if_neg he]
      rfl
  have hrest : Machine.round (veiled p f k s) =
      { veiled p f k (Machine.round s) with ports := (Machine.round (veiled p f k s)).ports } := by
    simp only [Machine.round, veiled_requests]
    rfl
  rw [hrest, hports]

theorem veiled_setBasis (b : Option Basis) : setBasis p b (veiled p f k s) = veiled p f k (setBasis p b s) := by
  rw [setBasis_eq, setBasis_eq, ← veiled_round]
  exact congrArg Machine.round (veiled_modPort fun _ => rfl)

theorem veiled_shares (m : Int) (n : Nat) : ∀ (l : List (Fin 16 × Nat)) (s : State),
    l.foldl (fun t x => modPhase x.1 (takeShare m n x.2) t) (veiled p f k s) =
      veiled p f k (l.foldl (fun t x => modPhase x.1 (takeShare m n x.2) t) s)
  | [], _ => rfl
  | x :: l, s => by
    rw [List.foldl_cons, List.foldl_cons]
    exact veiled_shares m n l (modPhase x.1 (takeShare m n x.2) s)

theorem veiled_command (m : Int) : command p m (veiled p f k s) = veiled p f k (command p m s) := by
  unfold command
  rw [veiled_modRun]
  exact veiled_shares ..

theorem veiled_subPhaseTests : subPhaseTests p r v c (veiled p f k s) = veiled p f k (subPhaseTests p r v c s) := by
  have hrun : (veiled p f k s).ports[p].run = s.ports[p].run := by rw [veiled_port]
  unfold subPhaseTests
  rw [hrun]
  by_cases hcv : cvReached s.ports[p].run v.voltage = true
  · rw [if_pos hcv, if_pos hcv]
    unfold enterCv
    dsimp only
    rw [veiled_port, veiled_modRun, veiled_setBasis, veiled_restartSettle]
    rfl
  · rw [if_neg hcv, if_neg hcv]
    by_cases hin : r.kind = .cccvCharge ∧ s.ports[p].run.subPhase = .cv
    · rw [if_pos hin, if_pos hin]
      unfold updateCv
      dsimp only
      rw [veiled_port, veiled_modRun]
      rfl
    · rw [if_neg hin, if_neg hin]
      by_cases he : edgeDue s.ports[p].run = true
      · rw [if_pos he, if_pos he, veiled_modRun, veiled_restartSettle]
      · rw [if_neg he, if_neg he]

theorem veiled_applyStep : applyStep p r v c (veiled p f k s) = veiled p f k (applyStep p r v c s) := by
  unfold applyStep
  dsimp only
  rw [veiled_port, veiled_modRun, veiled_command]
  rfl

theorem veiled_runningCount : runningCount p v (veiled p f k s) = veiled p f k (runningCount p v s) := by
  unfold runningCount
  dsimp only
  rw [veiled_port, veiled_subPhaseTests, veiled_applyStep, veiled_modRun]

/-! ### The instant in RUNNING -/

theorem judged_eq (p : Fin 8) (rd : Reading) (v : Sample) (s : State) :
    judged p rd v s = (runningCount p v (accountSample p v (takenIn p v s rd))).ports[p] := by cases rd <;> rfl

/-- The sample counted, as the end conditions look at it. -/
def counted (p : Fin 8) (rd : Reading) (v : Sample) (s : State) : State := runningCount p v (accountSample p v (takenIn p v s rd))

theorem counted_veiled (f : Vector Nat 6) (k : Nat) :
    runningCount p v (veiled p f k (accountSample p v (takenIn p v s rd))) = veiled p f k (counted p rd v s) := veiled_runningCount

/-- A reading in RUNNING at which no fault of its own reaches the port: the sample is accounted, then counted, and the filters and the
strobe follow. -/
theorem running_instant (h : readingSample s.ports[p] rd = some v) (hf : faultless s.ports[p] rd v = true)
    (hs : s.ports[p].run.state = .running) : ∃ f k,
    Beside p (runningSample p v (veiled p f k (accountSample p v (takenIn p v s rd)))) (takeReading p s rd) ∧
    (takeReading p s rd).ports[p].acct =
      (runningSample p v (veiled p f k (accountSample p v (takenIn p v s rd)))).ports[p].acct := by
  obtain ⟨o, ho⟩ := takeReading_instant h
  have hrun : (handed p rd v s).ports[p].run.state = .running := by
    obtain ⟨i, res, z, hport⟩ := (taken_handed p rd v s).port
    rw [hport]
    exact hs
  obtain ⟨f, g, hform | ⟨hr, -⟩⟩ := clear_consumeIn (clear_handed hf) o
  · have hveil : filtered p f (accountSample p v (handed p rd v s)) =
        veiled p f ((takenIn p v s rd).instants + 1) (accountSample p v (takenIn p v s rd)) := rfl
    have hstate : (veiled p f ((takenIn p v s rd).instants + 1) (accountSample p v (takenIn p v s rd))).ports[p].run.state =
        .running := by
      rw [← hveil, filtered_port, accountSample, modPort_self]
      exact hrun
    refine ⟨f, (takenIn p v s rd).instants + 1, ?_⟩
    rw [ho, hform, hveil, sequencer_running hstate]
    refine ⟨(beside_filtered ..).trans (beside_concluded ..), ?_⟩
    rw [concluded_acct, filtered_port]
  · exact absurd hrun hr

/-- A reading in RUNNING at which the step ends. -/
theorem ends_instant (h : readingSample s.ports[p] rd = some v) (hf : faultless s.ports[p] rd v = true)
    (hs : s.ports[p].run.state = .running) {e : EndReason} {a : Action} (he : stepEnd (judged p rd v s) v = some (e, a)) :
    ∃ f k, Beside p (endStep p e a (veiled p f k (counted p rd v s))) (takeReading p s rd) ∧
    (takeReading p s rd).ports[p].acct = (endStep p e a (veiled p f k (counted p rd v s))).ports[p].acct := by
  obtain ⟨f, k, hbeside, hacct⟩ := running_instant h hf hs
  have hend : stepEnd (runningCount p v (veiled p f k (accountSample p v (takenIn p v s rd)))).ports[p] v = some (e, a) := by
    rw [counted_veiled, veiled_port, ← he, judged_eq]
    rfl
  rw [runningSample_ends hend, counted_veiled] at hbeside hacct
  exact ⟨f, k, hbeside, hacct⟩

/-! ### What the counted sample leaves -/

/-- The sample taken in and accounted. -/
theorem accounted_fed (p : Fin 8) (rd : Reading) (v : Sample) (s : State) : Fed p s (accountSample p v (takenIn p v s rd)) :=
  (taken_takenIn p v s rd).fed.trans (fed_account ..)

theorem counted_steady (p : Fin 8) (rd : Reading) (v : Sample) (s : State) :
    Steady p (accountSample p v (takenIn p v s rd)) (counted p rd v s) := steady_runningCount ..

theorem runningCount_throttledTime (p : Fin 8) (v : Sample) (y : State) : (runningCount p v y).ports[p].run.throttledTime =
    y.ports[p].run.throttledTime + (if (runningCount p v y).ports[p].run.throttled then 1 else 0) := by
  have htests (r : StepRecord) : (subPhaseTests p r v none y).ports[p].run.throttledTime = y.ports[p].run.throttledTime := by
    unfold subPhaseTests
    split
    · simp [enterCv]
    · split
      · simp [updateCv]
      · split
        · simp
        · rfl
  unfold runningCount
  dsimp only
  rw [modRun, modPort_self, CurrentCommand.applyStep_run]
  dsimp only
  rw [htests]
  split <;> rfl

end

end Sys2Proof.Judging
end

section
/-! PROOFS. How a step ends (R38, R41): its record, and the action that follows. -/

open Sys2Proof Sys2Proof.Machine Sys2Proof.Indexing Sys2Proof.Faults Sys2Proof.FaultPaths Sys2Proof.RunEnds Sys2Proof.Leading
open Sys2Proof.Entering Sys2Proof.StartRun Sys2Proof.Samples Sys2Proof.Instants Sys2Proof.Judging

namespace Sys2Proof.StepEnds

section
variable {p : Fin 8} {n : Fin 32} {s t u w x y : State} {v : Sample} {rd : Reading} {r b : StepRecord} {i j k m : Nat}
  {e : EndReason} {a : Action} {c : Vector Nat 16} {en : Fin 64} {z : Entry}

/-! ### The record and the fold (R41) -/

/-- The step's record queued, its unfolded set folded, and the detector and the capture emptied. -/
def closed (p : Fin 8) (e : EndReason) (x : State) : State := restartSettle p (discardCapture p (fold p (queueResult p e x)))

/-- The action of a step end. -/
def acted (p : Fin 8) (a : Action) (w : State) : State :=
  match a with
  | .next => enterIndex p chainFuel (w.ports[p].run.stepIndex + 1) w
  | .goto t => enterIndex p chainFuel t w
  | .endRun => enterEnding .completed p w
  | .faultRun => faultPort p .programFault w

theorem endStep_eq (p : Fin 8) (e : EndReason) (a : Action) (x : State) : endStep p e a x = acted p a (closed p e x) := by
  cases a <;> rfl

/-- What stands of the port whose step has ended. -/
theorem closed_port (p : Fin 8) (e : EndReason) (x : State) :
    (closed p e x).ports[p].run = x.ports[p].run ∧ (closed p e x).ports[p].ident = x.ports[p].ident ∧
    (closed p e x).ports[p].prot = x.ports[p].prot ∧
    (closed p e x).ports[p].results.getLast? = some (resultRecord x.ports[p] e) := by
  refine ⟨?_, ?_, ?_, ?_⟩ <;> simp [closed]

theorem closed_rest (p : Fin 8) (e : EndReason) (x : State) :
    (closed p e x).headers = x.headers ∧ (closed p e x).prot = x.prot := by
  constructor <;> simp [closed]

theorem closed_folds (h : x.ports[p].ident.bound = some en) : (closed p e x).ports[p].acct.unfolded = .cleared ∧
    (closed p e x).history.entries[en] = x.history.entries[en].map (foldEntry x.ports[p].acct.unfolded) := by
  have hq : (queueResult p e x).ports[p].ident = x.ports[p].ident ∧ (queueResult p e x).ports[p].acct = x.ports[p].acct := by
    constructor <;> simp
  have hb : (queueResult p e x).ports[p].ident.bound = some en := by rw [hq.1]; exact h
  have hacct : (closed p e x).ports[p].acct = (fold p (queueResult p e x)).ports[p].acct := by simp [closed]
  have hport := fold_port p (queueResult p e x)
  refine ⟨?_, ?_⟩
  · rw [hacct, hport, hb]
    rfl
  · have hentry := fold_entry hb
    rw [hq.2] at hentry
    exact hentry

theorem closed_flagged (p : Fin 8) (e : EndReason) (x : State) : flagged p .stepEnd (closed p e x) :=
  ((fold_portWork (b := true) (p := p)).trans restart_portWork).cmd.flagged (queueResult_flagged ..)

/-! ### The action leaves the record -/

theorem enterIndex_results (p : Fin 8) (fuel i : Nat) (w : State) : (enterIndex p fuel i w).ports[p].results = w.ports[p].results := by
  obtain ⟨x, hx, hend | ⟨j, b, hstep⟩⟩ := enterIndex_reaches (p := p) fuel i w
  · obtain ⟨-, hres, -⟩ := enterEnding_port .completed p x
    obtain ⟨c, l, z, hz⟩ := hx.port
    rw [hend, hres, hz]
  · obtain ⟨st, sl, nd, g, hport⟩ := enterTransfer_port p j b x
    obtain ⟨c, l, z, hz⟩ := hx.port
    rw [hstep, hport, readied_port, hz]

theorem programFault_port (hs : w.ports[p].run.state = .running) : (faultPort p .programFault w).ports[p].results = w.ports[p].results ∧
    (faultPort p .programFault w).ports[p].run.state = .faulted ∧ (faultPort p .programFault w).ports[p].run.program = none ∧
    (faultPort p .programFault w).ports[p].run.applied = 0 := by
  have hresults : (faultBound p .programFault w).ports[p].results = (recorded p .programFault w).ports[p].results := by
    simp [faultBound_eq, unbound, abandoned]
  have hrec : (recorded p .programFault w).ports[p].results = w.ports[p].results := by
    rw [recorded, if_neg fun h => h.2 rfl]
    simp
  rw [faultPort_bound (by rw [hs]; rfl)]
  exact ⟨hresults.trans hrec, by simp [faultBound], by simp [faultBound], by simp [faultBound]⟩

theorem acted_results (a : Action) (hs : w.ports[p].run.state = .running) :
    (acted p a w).ports[p].results = w.ports[p].results := by
  cases a with
  | next => exact enterIndex_results ..
  | goto t => exact enterIndex_results ..
  | endRun => exact (enterEnding_port .completed p w).2.1
  | faultRun => exact (programFault_port hs).1

theorem acted_portWork (p : Fin 8) (a : Action) (w : State) : PortWork true p w (acted p a w) := by
  cases a with
  | next => exact enterIndex_portWork _ _ _
  | goto t => exact enterIndex_portWork _ _ _
  | endRun => exact enterEnding_portWork _
  | faultRun => exact faultPort_portWork _

/-- A step end queues its record and sets STEP_END, whatever its action (R41, R51). -/
theorem endStep_record (a : Action) (hs : x.ports[p].run.state = .running) :
    (endStep p e a x).ports[p].results.getLast? = some (resultRecord x.ports[p] e) ∧ flagged p .stepEnd (endStep p e a x) := by
  obtain ⟨hrun, -, -, hlast⟩ := closed_port p e x
  rw [endStep_eq]
  refine ⟨?_, (acted_portWork p a _).cmd.flagged (closed_flagged p e x)⟩
  rw [acted_results a (by rw [hrun]; exact hs), hlast]

/-! ### Where the index entered leads -/

theorem looped_cleared (h : Looped p c m k w y) (hb : w.ports[p].ident.bound = some en) (hz : w.history.entries[en] = some z)
    (hu : w.ports[p].acct.unfolded = .cleared) :
    y.ports[p].acct.unfolded = .cleared ∧ y.history.entries[en] = some ((foldEntry oneCycle)^[k] z) := by
  rcases Nat.eq_zero_or_pos k with rfl | hk
  · obtain ⟨hh, hu'⟩ := h.unmarked rfl
    exact ⟨hu'.trans hu, by rw [hh]; exact hz⟩
  · obtain ⟨hu', hentry⟩ := h.marked en z hb hz hk
    rw [hu] at hentry
    refine ⟨hu', hentry.trans ?_⟩
    obtain ⟨l, rfl⟩ : ∃ l, k = l + 1 := ⟨k - 1, by omega⟩
    rw [Function.iterate_succ_apply]
    rfl

/-- The run of a port with its LOOPs taken, on a step. -/
theorem led_step (h : Looped p c m k w y) (hp : w.ports[p].run.program = some n) (j : Nat) (b : StepRecord) :
    let u := enterTransfer p j b y
    entered p n j b w.ports[p].run.applied w u ∧ u.ports[p].run.counters = c ∧ u.ports[p].run.runCycles = m ∧
    u.ports[p].acct.unfolded = y.ports[p].acct.unfolded ∧ u.history = y.history := by
  obtain ⟨z, hz⟩ := h.port
  obtain ⟨st, sl, nd, g, hport⟩ := enterTransfer_port p j b y
  have hentered := enterTransfer_entered (p := p) (n := n) (i := j) (r := b) (s := y) (by rw [hz]; exact hp)
  rw [show y.ports[p].run.applied = w.ports[p].run.applied by rw [hz]] at hentered
  refine ⟨entered_congr (by rw [hz]) h.prot hentered, ?_, ?_, ?_, (enterTransfer_left p j b y).2⟩ <;> rw [hport, readied_port]
  all_goals rw [hz]

/-- The run of a port with its LOOPs taken, at its end. -/
theorem led_end (h : Looped p c m k w y) : let u := enterEnding .completed p y
    completes p w.ports[p].run.applied u ∧ u.ports[p].run.counters = c ∧ u.ports[p].run.runCycles = m := by
  obtain ⟨z, hz⟩ := h.port
  obtain ⟨hcounters, hcycles⟩ := enterEnding_run .completed p y
  have hcompletes := enterEnding_completed p y
  rw [show y.ports[p].run.applied = w.ports[p].run.applied by rw [hz]] at hcompletes
  exact ⟨hcompletes, by rw [hcounters, hz], by rw [hcycles, hz]⟩

/-- The folds of a run that ends, behind those of its LOOPs (R47, R86). -/
theorem led_end_folds (h : Looped p c m k w y) (hb : w.ports[p].ident.bound = some en) (hz : w.history.entries[en] = some z)
    (hu : w.ports[p].acct.unfolded = .cleared) :
    (enterEnding .completed p y).ports[p].acct.unfolded = .cleared ∧ (enterEnding .completed p y).history.entries[en] =
      some (afterCycles k (decide (w.ports[p].run.applied = 0)) z) := by
  obtain ⟨hunf, hentry⟩ := looped_cleared h hb hz hu
  obtain ⟨z', hz'⟩ := h.port
  have happ : y.ports[p].run.applied = w.ports[p].run.applied := by rw [hz']
  by_cases h0 : w.ports[p].run.applied = 0
  · obtain ⟨hnew, hclear⟩ := enterEnding_folds (happ.trans h0) (by rw [hz']; exact hb) hentry
    rw [hunf] at hnew
    rw [decide_eq_true h0]
    exact ⟨hclear, hnew⟩
  · obtain ⟨hh, hunf'⟩ := enterEnding_drains_left (p := p) (s := y) (by rw [happ]; exact h0)
    rw [decide_eq_false h0, hh, hunf']
    exact ⟨hunf, hentry⟩

/-! ### The step end of a reading -/

/-- What the end conditions look at of the port. -/
structure JudgedOf (p : Fin 8) (s : State) (q : Port) : Prop where
  state : q.run.state = s.ports[p].run.state
  step : q.run.step = s.ports[p].run.step
  program : q.run.program = s.ports[p].run.program
  stepIndex : q.run.stepIndex = s.ports[p].run.stepIndex
  counters : q.run.counters = s.ports[p].run.counters
  runCycles : q.run.runCycles = s.ports[p].run.runCycles
  stepTimer : q.run.stepTimer = s.ports[p].run.stepTimer + 1
  ident : q.ident = s.ports[p].ident
  effective : q.prot.effective = s.ports[p].prot.effective
  fault : q.prot.fault = s.ports[p].prot.fault

theorem judged_of (p : Fin 8) (rd : Reading) (v : Sample) (s : State) : JudgedOf p s (judged p rd v s) := by
  obtain ⟨i, res, a, fl, hy⟩ := (accounted_fed p rd v s).port
  have hsteady := counted_steady p rd v s
  have hstate := runningCount_state p v (accountSample p v (takenIn p v s rd))
  have htimer := TripPaths.runningCount_stepTimer p v (accountSample p v (takenIn p v s rd))
  rw [judged_eq]
  change Steady p _ (runningCount p v (accountSample p v (takenIn p v s rd))) at hsteady
  exact ⟨hstate.trans (by rw [hy]), hsteady.step.trans (by rw [hy]), hsteady.program.trans (by rw [hy]),
    hsteady.stepIndex.trans (by rw [hy]), hsteady.counters.trans (by rw [hy]), hsteady.runCycles.trans (by rw [hy]),
    htimer.trans (by rw [hy]), hsteady.ident.trans (by rw [hy]), (congrArg (fun z => z.effective) hsteady.ownProt).trans (by rw [hy]),
    (congrArg (fun z => z.fault) hsteady.ownProt).trans (by rw [hy])⟩

theorem judged_account (hs : s.ports[p].run.state = .running) :
    (judged p rd v s).acct.step.tally = integrate v s.ports[p].acct.step.tally ∧
    (judged p rd v s).run.throttledTime = s.ports[p].run.throttledTime + (if (judged p rd v s).run.throttled then 1 else 0) := by
  obtain ⟨i, res, z, hport⟩ := (taken_takenIn p v s rd).port
  have hacc : (accountSample p v (takenIn p v s rd)).ports[p] = account v (takenIn p v s rd).ports[p] := modPort_self ..
  have hsteady := counted_steady p rd v s
  have hthr := runningCount_throttledTime p v (accountSample p v (takenIn p v s rd))
  rw [judged_eq]
  constructor
  · refine (congrArg (fun z => z.step.tally) hsteady.acct).trans ?_
    rw [hacc, (Accounting.accounted_account v (takenIn p v s rd).ports[p]).step, if_pos (by rw [hport, hs]; rfl), hport]
  · rw [hthr, hacc, hport]
    rfl

/-- The state `w` in which the action of a step end starts, and the state `t` behind the reading. -/
structure StepEnded (p : Fin 8) (s : State) (q : Port) (a : Action) (w t : State) : Prop where
  run : w.ports[p].run = q.run
  ident : w.ports[p].ident = s.ports[p].ident
  effective : w.ports[p].prot.effective = s.ports[p].prot.effective
  fault : w.ports[p].prot.fault = s.ports[p].prot.fault
  headers : w.headers = s.headers
  prot : w.prot = s.prot
  folds : ∀ en : Fin 64, s.ports[p].ident.bound = some en → w.ports[p].acct.unfolded = .cleared ∧
    w.history.entries[en] = s.history.entries[en].map (foldEntry q.acct.unfolded)
  beside : Beside p (acted p a w) t
  acct : t.ports[p].acct = (acted p a w).ports[p].acct

theorem reading_ends (h : readingSample s.ports[p] rd = some v) (hf : faultless s.ports[p] rd v = true)
    (hs : s.ports[p].run.state = .running) (he : stepEnd (judged p rd v s) v = some (e, a)) :
    (∃ w, StepEnded p s (judged p rd v s) a w (takeReading p s rd)) ∧
    (takeReading p s rd).ports[p].results.getLast? = some (resultRecord (judged p rd v s) e) ∧
    flagged p .stepEnd (takeReading p s rd) := by
  obtain ⟨f, k, hbeside, hacct⟩ := ends_instant h hf hs he
  have hj := judged_of p rd v s
  have hfed := accounted_fed p rd v s
  have hsteady := counted_steady p rd v s
  have hx : (veiled p f k (counted p rd v s)).ports[p] =
      { judged p rd v s with prot := { (judged p rd v s).prot with filters := f } } := by
    rw [veiled_port, judged_eq]
    rfl
  have hheaders : (veiled p f k (counted p rd v s)).headers = s.headers := hsteady.headers.trans hfed.headers
  have hprot : (veiled p f k (counted p rd v s)).prot = s.prot := hsteady.prot.trans hfed.prot
  have hhist : (veiled p f k (counted p rd v s)).history = s.history := hsteady.history.trans hfed.history
  generalize veiled p f k (counted p rd v s) = x at *
  generalize judged p rd v s = q at *
  obtain ⟨hres, hflag⟩ := endStep_record (e := e) (x := x) a (by rw [hx]; exact hj.state.trans hs)
  obtain ⟨a', fl', st', ht⟩ := hbeside.port
  obtain ⟨hrun, hident, hown, -⟩ := closed_port p e x
  obtain ⟨hch, hcp⟩ := closed_rest p e x
  refine ⟨⟨closed p e x, ?_⟩, ?_, by rw [flagged, hbeside.cmd]; exact hflag⟩
  · refine ⟨by rw [hrun, hx], by rw [hident, hx]; exact hj.ident, by rw [hown, hx]; exact hj.effective,
      by rw [hown, hx]; exact hj.fault, hch.trans hheaders, hcp.trans hprot, fun en hb => ?_, endStep_eq p e a x ▸ hbeside,
      endStep_eq p e a x ▸ hacct⟩
    have hfold := closed_folds (e := e) (x := x) (p := p) (en := en) (by rw [hx]; exact (congrArg (fun z => z.bound) hj.ident).trans hb)
    rwa [hx, hhist] at hfold
  · have hrec : resultRecord x.ports[p] e = resultRecord q e := by
      rw [hx]
      rfl
    rw [ht, ← hrec]
    exact hres

theorem completes_beside {m : Int} (h : Beside p u t) (hu : completes p m u) : completes p m t := by
  obtain ⟨a, fl, st, ht⟩ := h.port
  unfold completes flagged at hu ⊢
  rw [h.cmd, ht]
  exact hu

theorem entered_beside {m : Int} (h : Beside p u t) (ha : t.ports[p].acct = u.ports[p].acct)
    (heff : w.ports[p].prot.effective = s.ports[p].prot.effective) (hprot : w.prot = s.prot) (hu : entered p n j b m w u) :
    entered p n j b m s t := by
  obtain ⟨a, fl, st, ht⟩ := h.port
  unfold entered at hu ⊢
  rw [ha, ht]
  rwa [heff, hprot] at hu

/-! ### What the action leads to -/

section
variable {q : Port} {o : Option Nat}

theorem StepEnded.index (h : StepEnded p s q a w t) (hq : q.run.stepIndex = s.ports[p].run.stepIndex)
    (ha : (a = .next ∧ i = s.ports[p].run.stepIndex + 1) ∨ a = .goto i) : acted p a w = enterIndex p chainFuel i w := by
  rcases ha with ⟨rfl, rfl⟩ | rfl
  · rw [acted, h.run, hq]
  · rfl

/-- A step is entered behind the LOOPs taken. -/
theorem StepEnded.step (h : StepEnded p s q a w t) (hp : q.run.program = some n) (hl : Looped p c m k w y)
    (hu : acted p a w = enterTransfer p j b y) : entered p n j b q.run.applied s t ∧ t.ports[p].run.counters = c ∧
    t.ports[p].run.runCycles = m ∧ t.ports[p].acct.unfolded = y.ports[p].acct.unfolded ∧ t.history = y.history := by
  obtain ⟨hent, hcount, hcyc, hunf, hhist⟩ := led_step hl (by rw [h.run]; exact hp) j b
  obtain ⟨hbeside, hacct⟩ : Beside p (enterTransfer p j b y) t ∧ t.ports[p].acct = (enterTransfer p j b y).ports[p].acct :=
    by rw [← hu]; exact ⟨h.beside, h.acct⟩
  generalize enterTransfer p j b y = u at *
  obtain ⟨a', fl, st, ht⟩ := hbeside.port
  refine ⟨h.run ▸ entered_beside hbeside hacct h.effective h.prot hent, ?_, ?_, by rw [hacct, hunf], hbeside.history.trans hhist⟩
  · rw [ht]
    exact hcount
  · rw [ht]
    exact hcyc

/-- The run ends behind the LOOPs taken. -/
theorem StepEnded.ended (h : StepEnded p s q a w t) (hl : Looped p c m k w y) (hu : acted p a w = enterEnding .completed p y) :
    completes p q.run.applied t ∧ t.ports[p].run.counters = c ∧ t.ports[p].run.runCycles = m := by
  obtain ⟨hcomp, hcount, hcyc⟩ := led_end hl
  have hbeside : Beside p (enterEnding .completed p y) t := hu ▸ h.beside
  generalize enterEnding .completed p y = u at *
  obtain ⟨a', fl, st, ht⟩ := hbeside.port
  refine ⟨h.run ▸ completes_beside hbeside hcomp, ?_, ?_⟩
  · rw [ht]
    exact hcount
  · rw [ht]
    exact hcyc

/-- The folds of a step end, of its marked LOOPs and of a run that ends at once, into the pack's entry. -/
theorem StepEnded.entry (h : StepEnded p s q a w t) (hl : Looped p c m k w y)
    (hstep : ∀ j, o = some j → ∃ b, acted p a w = enterTransfer p j b y)
    (hend : o = none → acted p a w = enterEnding .completed p y) (hb : s.ports[p].ident.bound = some en)
    (hz : s.history.entries[en] = some z) : t.ports[p].acct.unfolded = .cleared ∧ t.history.entries[en] =
      some (afterCycles k (decide (o = none ∧ q.run.applied = 0)) (foldEntry q.acct.unfolded z)) := by
  obtain ⟨hclear, hentry⟩ := h.folds en hb
  rw [hz] at hentry
  have hbw : w.ports[p].ident.bound = some en := by rw [h.ident]; exact hb
  cases o with
  | some j =>
    obtain ⟨b, hu⟩ := hstep j rfl
    obtain ⟨hy, hye⟩ := looped_cleared hl hbw hentry hclear
    obtain ⟨y', hport⟩ := hl.port
    obtain ⟨st, sl, nd, g, hu'⟩ := enterTransfer_port p j b y
    refine ⟨?_, ?_⟩
    · rw [h.acct, hu, hu', readied_port, hy]
    · rw [h.beside.history, hu, (enterTransfer_left p j b y).2, hye]
      simp [afterCycles]
  | none =>
    obtain ⟨hy, hye⟩ := led_end_folds hl hbw hentry hclear
    rw [h.acct, h.beside.history, hend rfl]
    refine ⟨hy, hye.trans ?_⟩
    rw [h.run]
    simp

theorem StepEnded.record (h : StepEnded p s q a w t) (i : Nat) : recordAt n i w = recordAt n i s := by
  rw [recordAt, recordAt, h.headers]

/-- An index that leads a run through any chain of LOOPs (R31, R32). -/
theorem StepEnded.leads (h : StepEnded p s q a w t) (hq : JudgedOf p s q) (hp : s.ports[p].run.program = some n)
    (hu : acted p a w = enterIndex p chainFuel i w) (hv : validate s.headers[n].steps = none)
    (hl : Leads s.headers[n] i s.ports[p].run.counters s.ports[p].run.runCycles o c m) :
    t.ports[p].run.counters = c ∧ t.ports[p].run.runCycles = m ∧ (o = none → completes p q.run.applied t) ∧
    (∀ (en : Fin 64) (z : Entry), s.ports[p].ident.bound = some en → s.history.entries[en] = some z → m < top32 →
      t.ports[p].acct.unfolded = .cleared ∧ ∃ y, t.history.entries[en] = some y ∧
      y.cycles = min top32 (z.cycles + q.acct.unfolded.cycleDelta + (m - s.ports[p].run.runCycles)) ∧
      y = afterCycles (m - s.ports[p].run.runCycles) (decide (o = none ∧ q.run.applied = 0)) (foldEntry q.acct.unfolded z)) ∧
    ∀ (j : Nat) (b : StepRecord), o = some j → recordAt n j s = some b → entered p n j b q.run.applied s t := by
  have hwn : w.ports[p].run.program = some n := by rw [h.run, hq.program, hp]
  have hcyc : w.ports[p].run.runCycles = s.ports[p].run.runCycles := by rw [h.run, hq.runCycles]
  obtain ⟨y, ⟨k, hlooped, hk⟩, hstep, hend⟩ := leads_enterIndex (p := p) (n := n) (s := w) (i := i) (o := o) (x := c) (l := m) hwn
    (by rw [h.headers]; exact hv) (by rw [h.headers, h.run, hq.counters, hq.runCycles]; exact hl)
  rw [hcyc] at hk
  have hrecord (j : Nat) (hj : o = some j) : ∃ b, recordAt n j s = some b ∧ acted p a w = enterTransfer p j b y := by
    obtain ⟨b, hb, -⟩ := leads_record hl j hj
    exact ⟨b, recordAt_eq hb, hu.trans (hstep j b hj ((h.record j).trans (recordAt_eq hb)))⟩
  have hended (ho : o = none) : acted p a w = enterEnding .completed p y := hu.trans (hend ho)
  have hrun : t.ports[p].run.counters = c ∧ t.ports[p].run.runCycles = m := by
    cases o with
    | some j =>
      obtain ⟨b, -, hb⟩ := hrecord j rfl
      obtain ⟨-, hcount, hm, -⟩ := h.step (hq.program.trans hp) hlooped hb
      exact ⟨hcount, hm⟩
    | none => exact (h.ended hlooped (hended rfl)).2
  refine ⟨hrun.1, hrun.2, fun ho => (h.ended hlooped (hended ho)).1, fun en z hb hz hlt => ?_, fun j b ho hb => ?_⟩
  · obtain ⟨hunf, hentry⟩ := h.entry hlooped (fun j hj => (hrecord j hj).imp fun _ hb => hb.2) hended hb hz
    have hm : m - s.ports[p].run.runCycles = k := by have := hk hlt; omega
    rw [hm]
    refine ⟨hunf, _, hentry, ?_, rfl⟩
    rw [afterCycles_cycles, foldEntry_cycles]
    · omega
    · exact Nat.min_le_left ..
  · obtain ⟨b', hb', hu'⟩ := hrecord j ho
    obtain rfl := Option.some.inj (hb'.symm.trans hb)
    exact (h.step (hq.program.trans hp) hlooped hu').1

/-- FAULT_RUN faults the port by its program (R41, R49). -/
theorem StepEnded.faults (h : StepEnded p s q .faultRun w t) (hs : q.run.state = .running) (hc : s.ports[p].prot.fault = none) :
    t.ports[p].run.state = .faulted ∧ t.ports[p].run.program = none ∧ t.ports[p].run.applied = 0 ∧
    ∃ f, t.ports[p].prot.fault = some f ∧ f.code = .programFault := by
  have hstate : w.ports[p].run.state = .running := by rw [h.run, hs]
  obtain ⟨-, hst, hprog, happ⟩ := programFault_port hstate
  have hprot := faultPort_prot (p := p) (s := w) (by rw [hstate]; nofun) .programFault
  have hrecord := recordFault_first .programFault w.prot.time w.ports[p] (by rw [h.fault, hc])
  rw [← hprot] at hrecord
  have hbeside : Beside p (faultPort p .programFault w) t := h.beside
  generalize faultPort p .programFault w = u at *
  obtain ⟨a', fl, st, ht⟩ := hbeside.port
  rw [ht]
  exact ⟨hst, hprog, happ, _, hrecord, rfl⟩

/-- An index past the last one ends the run (R31). -/
theorem StepEnded.pastEnd (h : StepEnded p s q a w t) (hp : q.run.program = some n)
    (hu : acted p a w = enterIndex p chainFuel s.headers[n].steps.length w) : completes p q.run.applied t := by
  refine (h.ended (looped_refl p w) (hu.trans (enterIndex_pastEnd (n := n) (by rw [h.run]; exact hp) ?_ 63))).1
  rw [recordAt, h.headers, List.getElem?_eq_none (Nat.le_refl _)]
  rfl

/-- A timed step at the index is entered (R33). -/
theorem StepEnded.timed (h : StepEnded p s q a w t) (hq : JudgedOf p s q) (hp : s.ports[p].run.program = some n)
    (hu : acted p a w = enterIndex p chainFuel i w) (hr : recordAt n i s = some r) (ht : isTimed r.kind = true) :
    entered p n i r q.run.applied s t ∧ t.ports[p].run.counters = s.ports[p].run.counters ∧
    t.ports[p].run.runCycles = s.ports[p].run.runCycles ∧
    ∀ en : Fin 64, s.ports[p].ident.bound = some en → t.ports[p].acct.unfolded = .cleared ∧
      t.history.entries[en] = s.history.entries[en].map (foldEntry q.acct.unfolded) := by
  have hpq := hq.program.trans hp
  have hform : acted p a w = enterTransfer p i r w :=
    hu.trans (enterIndex_timed (by rw [h.run]; exact hpq) ((h.record i).trans hr) ht 63)
  obtain ⟨hent, hcount, hcyc, hunf, hhist⟩ := h.step hpq (looped_refl p w) hform
  refine ⟨hent, hcount.trans (by rw [h.run, hq.counters]), hcyc.trans (by rw [h.run, hq.runCycles]), fun en hb => ?_⟩
  obtain ⟨hclear, hentry⟩ := h.folds en hb
  exact ⟨hunf.trans hclear, by rw [hhist, hentry]⟩

theorem StepEnded.endRun (h : StepEnded p s q a w t) (hp : q.run.program = some n) (hu : acted p a w = enterIndex p chainFuel i w)
    (hr : recordAt n i s = some r) (hk : r.kind = .endRun) : completes p q.run.applied t :=
  (h.ended (looped_refl p w) (hu.trans (enterIndex_endRun (by rw [h.run]; exact hp) ((h.record i).trans hr) hk 63))).1

/-- A LOOP that leads straight to a timed step (R32). -/
theorem StepEnded.loop (h : StepEnded p s q a w t) (hq : JudgedOf p s q) (hp : s.ports[p].run.program = some n)
    (hu : acted p a w = enterIndex p chainFuel i w) (hr : recordAt n i s = some r) (hk : r.kind = .loop) {l : Fin 16}
    (hnum : loopNumberAt n i s = some l.val)
    (hj : j = if s.ports[p].run.counters[l] + 1 < r.repeatCount then r.loopTarget else i + 1)
    (hb : recordAt n j s = some b) (ht : isTimed b.kind = true) :
    entered p n j b q.run.applied s t ∧ t.ports[p].run.counters = countedOn l r s.ports[p].run.counters ∧
    t.ports[p].run.runCycles = (if r.cycleMark = 1 then min top32 (s.ports[p].run.runCycles + 1) else s.ports[p].run.runCycles) ∧
    ∀ (en : Fin 64) (z : Entry), s.ports[p].ident.bound = some en → s.history.entries[en] = some z →
      t.ports[p].acct.unfolded = .cleared ∧
      t.history.entries[en] = some (afterCycles (if r.cycleMark = 1 then 1 else 0) false (foldEntry q.acct.unfolded z)) := by
  have hpw : w.ports[p].run.program = some n := by rw [h.run, hq.program, hp]
  have hcount : w.ports[p].run.counters = s.ports[p].run.counters := by rw [h.run, hq.counters]
  have hcyc : w.ports[p].run.runCycles = s.ports[p].run.runCycles := by rw [h.run, hq.runCycles]
  have hnumw : loopNumberAt n i w = some l.val := by rw [loopNumberAt, h.headers]; exact hnum
  have hlooped := looped_takeLoop (p := p) (r := r) (s := w) hnumw
  have hnext : (takeLoop p n i r w).1 = j := by rw [takeLoop_eq hnumw, hcount, hj]
  rw [hcount, hcyc] at hlooped
  have hform : acted p a w = enterTransfer p j b (takeLoop p n i r w).2 := by
    obtain ⟨z, hz⟩ := hlooped.port
    have hby : recordAt n j (takeLoop p n i r w).2 = some b := by
      rw [recordAt_congr hlooped.headers, h.record j]
      exact hb
    rw [hu, chainFuel, enterIndex_loop hpw ((h.record i).trans hr) hk 63, hnext]
    exact enterIndex_timed (by rw [hz]; exact hpw) hby ht 62
  obtain ⟨hent, hc, hm, -⟩ := h.step (hq.program.trans hp) hlooped hform
  refine ⟨hent, hc, hm, fun en z hbound hz => ?_⟩
  have hentry := h.entry (o := some j) hlooped (fun _ hj' => ⟨b, Option.some.inj hj' ▸ hform⟩) nofun hbound hz
  simpa using hentry

end

end

/-- The first condition that holds ends the step; without one the limit or the end of a PULSE does (R38). -/
theorem stepEnd_cases (q : Port) (v : Sample) (r : StepRecord) (hr : q.run.step = some r) :
    (∀ (k : Nat) (c : Condition), r.conditions[k]? = some c → conditionHolds q v c = true →
      (∀ j < k, ∀ d, r.conditions[j]? = some d → conditionHolds q v d = false) →
      stepEnd q v = some (.condition k, c.action)) ∧
    ((∀ c ∈ r.conditions, conditionHolds q v c = false) → stepEnd q v =
      if r.duration ≤ q.run.stepTimer ∨ (r.kind = .pulse ∧ r.baseTime + r.pulseTime ≤ q.run.stepTimer)
      then some (.duration, .next) else none) := by
  refine ⟨fun k c hc hold hbefore => ?_, fun hnone => ?_⟩
  · have hfind : r.conditions.findIdx? (conditionHolds q v) = some k := by
      rw [List.findIdx?_eq_some_iff_getElem]
      obtain ⟨hlt, hget⟩ := List.getElem?_eq_some_iff.mp hc
      refine ⟨hlt, by rw [hget]; exact hold, fun j hj => ?_⟩
      rw [hbefore j hj _ (List.getElem?_eq_getElem (by omega))]
      exact Bool.false_ne_true
    simp [stepEnd, hr, hfind, List.getD_eq_getElem?_getD, hc]
  · have hfind : r.conditions.findIdx? (conditionHolds q v) = none :=
      List.findIdx?_eq_none_iff.mpr hnone
    simp only [stepEnd, hr, hfind]
    by_cases hd : r.duration ≤ q.run.stepTimer
    · rw [if_pos hd, if_pos (.inl hd)]
    · rw [if_neg hd]
      by_cases hp : r.kind = .pulse ∧ r.baseTime + r.pulseTime ≤ q.run.stepTimer
      · rw [if_pos hp, if_pos (.inr hp)]
      · rw [if_neg hp, if_neg (not_or.mpr ⟨hd, hp⟩)]

/-- The record of a step end (R51). -/
theorem JudgedOf.record {p : Fin 8} {s : State} {q : Port} {r : StepRecord} (h : JudgedOf p s q) (hr : s.ports[p].run.step = some r)
    (e : EndReason) : (resultRecord q e).reason = e ∧ (resultRecord q e).stepTime = s.ports[p].run.stepTimer + 1 ∧
    (resultRecord q e).stepIndex = s.ports[p].run.stepIndex ∧ (resultRecord q e).kind = r.kind ∧
    (resultRecord q e).runCycles = s.ports[p].run.runCycles := by
  refine ⟨rfl, h.stepTimer, h.stepIndex, ?_, h.runCycles⟩
  change (q.run.step.map StepRecord.kind).getD .endRun = r.kind
  rw [h.step, hr]
  rfl

/-- Settles O32. -/
theorem durationEndsStep : Obligations.DurationEndsStep := by
  refine ⟨fun p rd v r s h hs hr hc hd hf => ?_, stepEnd_cases, fun p rd v r n s h hs hr hp hclean hf => ?_⟩
  · have hj := judged_of p rd v s
    have hend : stepEnd (judged p rd v s) v = some (.duration, .next) := by
      rw [(stepEnd_cases (judged p rd v s) v r (hj.step.trans hr)).2 (by rw [hc]; nofun), hj.stepTimer, if_pos hd]
    have hdue : timerDue s.ports[p] v = true := by
      simp only [timerDue, hr, hs, decide_true, Bool.true_and, Bool.or_eq_true, Bool.and_eq_true, decide_eq_true_eq]
      exact hd
    obtain ⟨-, hres, hflag⟩ := reading_ends h hf hs hend
    obtain ⟨hreason, htime, hindex, hkind, -⟩ := hj.record hr .duration
    exact ⟨_, _, congrArg Host.Outcome.next (namedInstant_due h hdue), hres, hreason, htime, hindex, hkind, hflag⟩
  · have hj := judged_of p rd v s
    refine ⟨⟨hj.stepTimer, judged_account hs⟩, fun e a he => ?_⟩
    obtain ⟨⟨w, hw⟩, hres, hflag⟩ := reading_ends h hf hs he
    obtain ⟨hreason, htime, hindex, hkind, hcycles⟩ := hj.record hr e
    have hpq := hj.program.trans hp
    have hrow := exec_readingRow p rd s
    generalize judged p rd v s = q at *
    generalize takeReading p s rd = t at *
    refine ⟨t, _, hrow, hres, hreason, htime, hindex, hkind, hcycles, hflag, fun ha => ?_, fun ha => ?_, fun i hi => ?_⟩
    · subst ha
      exact (hw.ended (looped_refl p w) rfl).1
    · subst ha
      exact hw.faults (hj.state.trans hs) hclean
    · have hu := hw.index hj.stepIndex hi
      refine ⟨fun hlen => ?_, fun hv o c m hl => ?_, fun b hb => ⟨fun ht => ?_, fun hk => ?_, fun hk l d hnum => ?_⟩⟩
      · subst hlen
        exact hw.pastEnd hpq hu
      · exact hw.leads hj hp hu hv hl
      · exact hw.timed hj hp hu hb ht
      · exact hw.endRun hpq hu hb hk
      · intro c j hd ht
        obtain ⟨hent, hcount, hcyc, hentry⟩ := hw.loop hj hp hu hb hk hnum rfl hd ht
        refine ⟨hent, ?_, fun m hm => ?_, hcyc, hentry⟩
        · rw [hcount]
          exact Vector.getElem_set_self _
        · rw [hcount]
          exact Vector.getElem_set_ne _ _ fun hml => hm (Fin.ext hml.symm)

end Sys2Proof.StepEnds
end

section
/-! PROOFS. The hall chain's states (R190 to R194): lines formed again, entry into STALE, discards, silence and numbering. -/

open Sys2Proof Sys2Proof.Machine Sys2Proof.Indexing Sys2Proof.InterlockMask Sys2Proof.Cabinet Sys2Proof.Turns

namespace Sys2Proof.ChainStates

section
variable {p : Fin 8} {s t u : State} {f : List Byte} {n : Nat}

/-! ### Lines formed again (R196) -/

/-- What the ports' turns at a change of the asserted lines leave. -/
structure Quiet (s t : State) : Prop where
  chain : t.chain = s.chain
  sent : t.sent = s.sent
  budgets : budgets t = budgets s
  rampTime : t.alloc.rampTime = s.alloc.rampTime
  prot : t.prot = s.prot
  pending : t.pending = s.pending
  cmd : FlagsRise s.cmd t.cmd

theorem Quiet.refl (s : State) : Quiet s s := ⟨rfl, rfl, rfl, rfl, rfl, rfl, .refl _⟩

theorem Quiet.trans (h : Quiet s t) (h' : Quiet t u) : Quiet s u :=
  ⟨h'.chain.trans h.chain, h'.sent.trans h.sent, h'.budgets.trans h.budgets, h'.rampTime.trans h.rampTime, h'.prot.trans h.prot,
    h'.pending.trans h.pending, h.cmd.trans h'.cmd⟩

theorem quiet_of_work (h : PortWork false p s t) : Quiet s t :=
  ⟨h.chain, h.sent rfl, h.budgets, h.rampTime, h.prot, h.pending, h.cmd⟩

/-- The state with the asserted lines formed again, before the ports' turns. -/
def relined (s : State) : State := modChain (fun c => { c with asserted := assertedLines s.chain }) s

/-- A port's turn at a change of the asserted lines. -/
def lineTurn (s : State) (p : Fin 8) (t : State) : State :=
  handInterlock (interlocked s.ports[p] s.chain.asserted) (interlocked s.ports[p] (assertedLines s.chain)) p t

theorem reformLines_eq (s : State) : reformLines s = forPorts (lineTurn s) (relined s) := rfl

theorem reformLines_quiet (s : State) : Quiet (relined s) (reformLines s) := by
  rw [reformLines_eq]
  exact forPorts_keep Quiet.refl Quiet.trans (fun _ _ => quiet_of_work (handInterlock_portWork _ _)) _

/-- A port's own items after a change of the lines come from its turn. -/
theorem reformLines_own (s : State) (p : Fin 8) : ∃ t, sameOwnItems s.ports[p] t.ports[p] ∧
    sameOwnItems (lineTurn s p t).ports[p] (reformLines s).ports[p] :=
  forPorts_own (b := false) (fun _ _ => handInterlock_portWork _ _) p (relined s)

/-- A port whose condition becomes true takes INTERLOCK and MASTER in a state with a current step (R45). -/
theorem reformLines_holds (hs : hasStep s.ports[p].run.state = true) (hb : s.ports[p].mask &&& s.chain.asserted = 0)
    (ha : s.ports[p].mask &&& assertedLines s.chain ≠ 0) :
    (reformLines s).ports[p].run.causes.interlock = true ∧ (reformLines s).ports[p].run.causes.master = true := by
  obtain ⟨t, hbefore, hafter⟩ := reformLines_own s p
  obtain ⟨hstate, -⟩ := hbefore
  rw [lineTurn, interlocked_of_eq_zero hb, interlocked_of_ne_zero ha, handInterlock_rise (by rw [hstate]; exact hs)] at hafter
  obtain ⟨-, -, -, -, hcauses, -⟩ := hafter
  rw [hcauses, holdPort_causes, addCauses_interlock]
  exact ⟨rfl, rfl⟩

/-- With no line asserted afterwards no port is held and no round runs. -/
theorem reformLines_clear (h : assertedLines s.chain = 0) : (reformLines s).alloc = s.alloc := by
  have hafter (q : Port) : interlocked q (assertedLines s.chain) = false := interlocked_of_eq_zero (by rw [h]; exact BitVec.and_zero)
  rw [reformLines_eq]
  refine forPorts_keep (K := fun a b => b.alloc = a.alloc) (fun _ => rfl) (fun ha hb => hb.trans ha) (fun p t => ?_) (relined s)
  rw [lineTurn, hafter]
  cases interlocked s.ports[p] s.chain.asserted
  · rfl
  · rw [handInterlock_fall]
    rfl

/-! ### A change of the budget in force (R119) -/

theorem changeBudget_port (src : BudgetSource) (b : Budget) (p : Fin 8) :
    ∃ a, (changeBudget src b s).ports[p] = { s.ports[p] with alloc := a } := by
  unfold changeBudget
  dsimp only
  split
  · exact ⟨_, round_getElem ..⟩
  · split
    · exact ⟨_, round_getElem ..⟩
    · exact ⟨_, rfl⟩

/-- What a change of the budget in force leaves. -/
theorem changeBudget_rest (src : BudgetSource) (b : Budget) (s : State) :
    (changeBudget src b s).chain = s.chain ∧ (changeBudget src b s).sent = s.sent ∧
    (s.alloc.source ≠ src → cabinetFlagged .budgetSourceChanged (changeBudget src b s)) := by
  unfold changeBudget
  dsimp only
  by_cases h : s.alloc.source ≠ src
  · rw [if_pos h]
    exact ⟨rfl, rfl, fun _ => cabinetFlagged_raiseCabinet ..⟩
  · rw [if_neg h]
    refine ⟨?_, ?_, fun h' => absurd h' h⟩ <;> split <;> rfl

/-! ### Entry into STALE (R194) -/

/-- What stands when a chain has gone STALE. -/
theorem enterStale_rest (s : State) :
    (enterStale s).chain = { s.chain with state := .stale, asserted := 0xFF } ∧ (enterStale s).sent = s.sent ∧
    (enterStale s).alloc.source = .fallback ∧ (enterStale s).alloc.inForce = s.alloc.fallback ∧
    (s.alloc.source ≠ .fallback → cabinetFlagged .budgetSourceChanged (enterStale s)) := by
  let x := modChain (fun c => { c with state := .stale }) s
  obtain ⟨hchain, hsent, hflag⟩ := changeBudget_rest .fallback s.alloc.fallback x
  obtain ⟨hsource, hforce, -⟩ := changeBudget_alloc .fallback s.alloc.fallback x
  have hquiet := reformLines_quiet (changeBudget .fallback s.alloc.fallback x)
  have hbudget := hquiet.budgets
  simp only [budgets, Prod.mk.injEq] at hbudget
  refine ⟨?_, hquiet.sent.trans hsent, hbudget.1.trans hsource, hbudget.2.1.trans hforce,
    fun h => hquiet.cmd.cabinetFlagged (hflag h)⟩
  refine hquiet.chain.trans ?_
  rw [relined]
  change { (changeBudget .fallback s.alloc.fallback x).chain with asserted := assertedLines (changeBudget .fallback s.alloc.fallback x).chain } = _
  rw [hchain]
  rfl

/-- Every line is asserted in STALE: a port with a mask is held. -/
theorem enterStale_holds (hs : hasStep s.ports[p].run.state = true) (hm : s.ports[p].mask ≠ 0) (ha : s.chain.asserted = 0) :
    (enterStale s).ports[p].run.causes.interlock = true ∧ (enterStale s).ports[p].run.causes.master = true := by
  let x := modChain (fun c => { c with state := .stale }) s
  obtain ⟨a, hport⟩ := changeBudget_port (s := x) .fallback s.alloc.fallback p
  obtain ⟨hchain, -⟩ := changeBudget_rest .fallback s.alloc.fallback x
  refine reformLines_holds (s := changeBudget .fallback s.alloc.fallback x) ?_ ?_ ?_
  · rw [hport]
    exact hs
  · rw [hchain]
    change _ &&& s.chain.asserted = 0
    rw [ha]
    exact BitVec.and_zero
  · rw [hchain, hport]
    change s.ports[p].mask &&& 0xFF ≠ 0
    rwa [show (0xFF : Byte) = BitVec.allOnes 8 from rfl, BitVec.and_allOnes]

/-! ### Discarded frames and silence (R190, R194) -/

theorem receiveChain_discards (hd : discoverValid f = false) (hc : cycleValid f = false) : receiveChain f s = discardFrame s := by
  simp only [receiveChain, hd, hc, Bool.false_eq_true, if_false]

/-- The state with a discarded frame counted. -/
def miscounted (s : State) : State := modChain (fun c => { c with errors := min 255 (c.errors + 1), validRun := 0 }) s

theorem discardFrame_stays (h : s.chain.state ≠ .discovered ∨ s.chain.errors < 7) : discardFrame s = miscounted s := by
  refine if_neg ?_
  change ¬ (s.chain.state = .discovered ∧ 8 ≤ min 255 (s.chain.errors + 1))
  rintro ⟨hs, he⟩
  rcases h with h | h
  · exact h hs
  · omega

theorem discardFrame_stale (hs : s.chain.state = .discovered) (he : 7 ≤ s.chain.errors) :
    discardFrame s = enterStale (miscounted s) := by
  refine if_pos ?_
  change s.chain.state = .discovered ∧ 8 ≤ min 255 (s.chain.errors + 1)
  exact ⟨hs, by omega⟩

end

/-- Settles O59. -/
theorem chainGoesStale : Obligations.ChainGoesStale := by
  refine ⟨fun f s hd hc => ?_, fun s n hs hn hle => ?_⟩
  · refine ⟨discardFrame s, congrArg Host.Outcome.next (receiveChain_discards hd hc), ?_⟩
    by_cases h : s.chain.state ≠ .discovered ∨ s.chain.errors < 7
    · rw [discardFrame_stays h]
      refine ⟨rfl, rfl, rfl, rfl, fun hs he => ?_, fun _ => ⟨rfl, rfl, rfl⟩⟩
      rcases h with h | h
      · exact absurd hs h
      · omega
    · rw [not_or, not_not, Nat.not_lt] at h
      obtain ⟨hchain, hsent, hsource, hforce, -⟩ := enterStale_rest (miscounted s)
      rw [discardFrame_stale h.1 h.2, hchain]
      refine ⟨rfl, rfl, hsent, rfl, fun _ _ => ⟨rfl, rfl, hsource, hforce⟩, fun h' => ?_⟩
      rcases h' with h' | h'
      · exact absurd h.1 h'
      · omega
  · have hrow : exec .silenceTimeout s = .next (enterStale s) := by
      refine congrArg Host.Outcome.next (if_pos ?_)
      rw [hn]
      exact ⟨hs, hle⟩
    obtain ⟨hchain, -, hsource, hforce, hflag⟩ := enterStale_rest s
    refine ⟨enterStale s, hrow, ?_, ?_, hsource, hforce, ?_, hflag, fun p => enterStale_holds⟩ <;> rw [hchain]

/-! ### Numbering (R191 to R193) -/

section
variable {p : Fin 8} {s t u : State} {f : List Byte} {n : Nat}

theorem receiveChain_discover (h : discoverValid f = true) (h0 : natAt f 2 1 = 0) :
    receiveChain f s = takeDiscover f (modChain countValid s) := by
  simp only [receiveChain, h, if_true, h0]

theorem receiveChain_renumber (h : discoverValid f = true) (h1 : natAt f 2 1 = 1) :
    receiveChain f s = takeRenumber f (modChain countValid s) := by
  simp only [receiveChain, h, if_true, h1, one_ne_zero, if_false]

theorem countValid_rest (c : Chain) : (countValid c).number = c.number ∧ (countValid c).state = c.state ∧
    (countValid c).asserted = c.asserted ∧ (countValid c).live = c.live := by
  unfold countValid
  split <;> exact ⟨rfl, rfl, rfl, rfl⟩

/-- The state with a number taken, before the first numbering's own effects. -/
def numbered (n : Nat) (s : State) : State :=
  send (.upstream (numberAnswer n)) (modChain (fun c => { c with number := some n, downstream := true, last := true }) s)

theorem takeNumber_later (h : s.chain.state ≠ .unlinked) : takeNumber n s = numbered n s := if_pos h

/-- What the first numbering leaves (R191, R194). -/
structure FirstNumbered (n : Nat) (s t : State) : Prop where
  number : t.chain.number = some n ∧ t.chain.downstream = true ∧ t.chain.last = true ∧ t.chain.silence = some 0 ∧
    t.chain.errors = s.chain.errors ∧ t.chain.live = s.chain.live
  sent : t.sent = s.sent ++ [.upstream (numberAnswer n)]
  discovered : s.chain.errors < 8 → t.chain.state = .discovered ∧ t.alloc.source = s.alloc.source ∧
    t.alloc.inForce = s.alloc.inForce ∧ (s.chain.live = false → t.chain.asserted = 0 ∧ t.alloc = s.alloc)
  stale : 8 ≤ s.chain.errors → t.chain.state = .stale ∧ t.chain.asserted = 0xFF ∧
    t.alloc.source = .fallback ∧ t.alloc.inForce = s.alloc.fallback ∧
    (s.alloc.source ≠ .fallback → cabinetFlagged .budgetSourceChanged t) ∧
    ∀ p : Fin 8, hasStep s.ports[p].run.state = true → s.ports[p].mask ≠ 0 → s.chain.asserted = 0 →
      t.ports[p].run.causes.interlock = true ∧ t.ports[p].run.causes.master = true

theorem takeNumber_first (n : Nat) (h : s.chain.state = .unlinked) : FirstNumbered n s (takeNumber n s) := by
  obtain ⟨x, hx⟩ : ∃ x, x = modChain (fun c => { c with silence := some 0 }) (numbered n s) := ⟨_, rfl⟩
  have hform : takeNumber n s = if s.chain.errors < 8
      then reformLines (modChain (fun c => { c with state := .discovered }) x) else enterStale x := by
    rw [hx]
    exact if_neg (not_not.mpr h)
  have hchain' : x.chain = { s.chain with number := some n, downstream := true, last := true, silence := some 0 } := by rw [hx]; rfl
  have hsent' : x.sent = s.sent ++ [.upstream (numberAnswer n)] := by rw [hx]; rfl
  have halloc : x.alloc = s.alloc := by rw [hx]; rfl
  have hports : x.ports = s.ports := by rw [hx]; rfl
  have hcalm (hl : s.chain.live = false) : assertedLines { x.chain with state := .discovered } = 0 := by
    rw [hchain']
    change (if s.chain.live then s.chain.frameLines.getD 0 else 0) = 0
    rw [hl]
    rfl
  clear hx
  by_cases he : s.chain.errors < 8
  · have hquiet := reformLines_quiet (modChain (fun c => { c with state := .discovered }) x)
    have hbudget := hquiet.budgets
    simp only [budgets, Prod.mk.injEq] at hbudget
    rw [hform, if_pos he]
    refine ⟨?_, hquiet.sent.trans hsent', fun _ => ⟨?_, hbudget.1.trans (by rw [← halloc]; rfl), hbudget.2.1.trans (by rw [← halloc]; rfl),
      fun hl => ⟨?_, ?_⟩⟩, fun h8 => absurd he (Nat.not_lt.mpr h8)⟩
    · rw [hquiet.chain]
      change x.chain.number = _ ∧ x.chain.downstream = _ ∧ x.chain.last = _ ∧ x.chain.silence = _ ∧ x.chain.errors = _ ∧ x.chain.live = _
      rw [hchain']
      exact ⟨rfl, rfl, rfl, rfl, rfl, rfl⟩
    · rw [hquiet.chain]
      rfl
    · rw [hquiet.chain]
      exact hcalm hl
    · rw [reformLines_clear (hcalm hl)]
      exact halloc
  · obtain ⟨hchain, hsent, hsource, hforce, hflag⟩ := enterStale_rest x
    have hholds (p : Fin 8) := enterStale_holds (p := p) (s := x)
    rw [hform, if_neg he]
    rw [halloc] at hforce hflag
    rw [hports, hchain'] at hholds
    refine ⟨?_, hsent.trans hsent', fun h8 => absurd h8 he, fun _ => ⟨?_, ?_, hsource, hforce, hflag, hholds⟩⟩
    all_goals rw [hchain]
    rw [hchain']
    exact ⟨rfl, rfl, rfl, rfl, rfl, rfl⟩

theorem takeDiscover_unnumbered (h : s.chain.number = none) : takeDiscover f s = takeNumber (natAt f 1 1) s := by
  simp only [takeDiscover, h]

theorem takeRenumber_replaces (h : 1 ≤ natAt f 1 1) :
    takeRenumber f s = send (.downstream (discoverBytes 0 true)) (takeNumber (natAt f 1 1) s) := if_pos h

/-- The drop form (R193). -/
theorem takeRenumber_drops (h : natAt f 1 1 = 0) (hn : s.chain.number = some n) : takeRenumber f s =
    modChain (fun c => { c with number := none, downstream := false, last := false, answerWatch := none })
      (send (.downstream (discoverBytes 0 true)) s) := by
  unfold takeRenumber
  rw [h]
  simp [hn]

theorem takeRenumber_unnumbered (h : natAt f 1 1 = 0) (hn : s.chain.number = none) : takeRenumber f s = s := by
  unfold takeRenumber
  rw [h]
  simp [hn]

theorem takeDiscover_numbered (hn : s.chain.number = some n) : takeDiscover f s =
    modChain (fun c => { c with answerWatch := some 0 }) (send (.upstream passAnswer) (send (.downstream f) s)) := by
  simp only [takeDiscover, hn]

/-- The row of a first numbering: `t` is the state it leaves, after what it sends downstream. -/
theorem first_row {i : Instr} {tail : List Sent} (hu : s.chain.state = .unlinked)
    (hrow : ∃ t, exec i s = .next t ∧ t.sent = (takeNumber n (modChain countValid s)).sent ++ tail ∧
      t = { takeNumber n (modChain countValid s) with sent := t.sent }) :
    ∃ t, exec i s = .next t ∧ t.sent = s.sent ++ [.upstream (numberAnswer n)] ++ tail ∧
      FirstNumbered n (modChain countValid s) { t with sent := s.sent ++ [.upstream (numberAnswer n)] } := by
  obtain ⟨-, hstate, -, -⟩ := countValid_rest s.chain
  have hfirst := takeNumber_first (s := modChain countValid s) n (hstate.trans hu)
  obtain ⟨t, ht, hsent, hrest⟩ := hrow
  refine ⟨t, ht, ?_, ?_⟩
  · rw [hsent, hfirst.sent]
    rfl
  · rw [hrest]
    obtain ⟨hnumber, -, hdiscovered, hstale⟩ := hfirst
    exact ⟨hnumber, rfl, hdiscovered, hstale⟩

end

/-- Settles O57. -/
theorem chainNumbers : Obligations.ChainNumbers := by
  have hcount (s : State) := countValid_rest s.chain
  refine ⟨fun i f s hd hu hi => ?_, fun f s hd h0 hn hs => ?_, fun f n s hd h0 hn => ?_, fun f s hd h1 hpos hs => ?_,
    fun f n s hd h1 hz hn => ?_, fun f s hd h1 hz hn => ?_, fun c => ⟨fun h => if_pos h, fun h => if_neg h⟩⟩
  · obtain ⟨hnum, hstate, hass, hlive⟩ := hcount s
    obtain ⟨t, ht, hsent, hfirst⟩ : ∃ t, exec i s = .next t ∧
        t.sent = s.sent ++ [.upstream (numberAnswer (natAt f 1 1))] ++
          (if natAt f 2 1 = 1 then [.downstream (discoverBytes 0 true)] else []) ∧
        FirstNumbered (natAt f 1 1) (modChain countValid s) { t with sent := s.sent ++ [.upstream (numberAnswer (natAt f 1 1))] } := by
      rcases hi with ⟨rfl, h0, hn⟩ | ⟨rfl, h1, hpos⟩
      · refine first_row hu ⟨takeNumber (natAt f 1 1) (modChain countValid s), congrArg Host.Outcome.next ?_, ?_, rfl⟩
        · rw [receiveChain_discover hd h0, takeDiscover_unnumbered (hnum.trans hn)]
        · rw [h0, if_neg (by decide), List.append_nil]
      · refine first_row hu ⟨send (.downstream (discoverBytes 0 true)) (takeNumber (natAt f 1 1) (modChain countValid s)),
          congrArg Host.Outcome.next ?_, ?_, rfl⟩
        · rw [receiveChain_renumber hd h1, takeRenumber_replaces hpos]
        · rw [h1, if_pos rfl]
          rfl
    obtain ⟨⟨hnumber, hdown, hlast, hsilence, herrors, hlive'⟩, -, hdiscovered, hstale⟩ := hfirst
    rw [show (modChain countValid s).chain.live = s.chain.live from hlive] at hdiscovered hlive'
    rw [show (modChain countValid s).chain.asserted = s.chain.asserted from hass] at hstale
    exact ⟨t, ht, hnumber, hdown, hlast, hsilence, herrors, hlive', hsent, hdiscovered, hstale⟩
  · refine congrArg Host.Outcome.next ?_
    rw [receiveChain_discover hd h0, takeDiscover_unnumbered ((hcount s).1.trans hn),
      takeNumber_later (by rw [show (modChain countValid s).chain.state = s.chain.state from (hcount s).2.1]; exact hs)]
    rfl
  · refine congrArg Host.Outcome.next ?_
    rw [receiveChain_discover hd h0, takeDiscover_numbered ((hcount s).1.trans hn)]
    simp [modChain, Machine.send]
  · refine congrArg Host.Outcome.next ?_
    rw [receiveChain_renumber hd h1, takeRenumber_replaces hpos,
      takeNumber_later (by rw [show (modChain countValid s).chain.state = s.chain.state from (hcount s).2.1]; exact hs)]
    simp [modChain, Machine.send, numbered]
  · refine congrArg Host.Outcome.next ?_
    rw [receiveChain_renumber hd h1, takeRenumber_drops hz ((hcount s).1.trans hn)]
    rfl
  · refine congrArg Host.Outcome.next ?_
    rw [receiveChain_renumber hd h1, takeRenumber_unnumbered hz ((hcount s).1.trans hn)]
    rfl

end Sys2Proof.ChainStates
end

section
/-! PROOFS. A change of the asserted lines (R45, R196), port by port and as a whole. -/

open Sys2Proof Sys2Proof.Machine Sys2Proof.Indexing Sys2Proof.PoolPhases Sys2Proof.InterlockMask Sys2Proof.Holds Sys2Proof.Turns
open Sys2Proof.Lockout Sys2Proof.Rounds Sys2Proof.ChainStates Sys2Proof.Owners Sys2Proof.Instants Sys2Proof.Faults

namespace Sys2Proof.LineTurns

section
variable {p q r : Fin 8} {s t u : State}

/-! ### A port's own turn -/

/-- A port enters HELD at its turn. -/
def heldNow (s : State) (p : Fin 8) : Bool := heldAtOnce p s (relined s)

/-- A port's interlock condition becomes false at its turn. -/
abbrev ends (s : State) (p : Fin 8) : Prop := s.ports[p].mask &&& s.chain.asserted ≠ 0 ∧ s.ports[p].mask &&& assertedLines s.chain = 0

theorem newlyHeld_iff : newlyHeld p s (relined s) = true ↔ (s.ports[p].mask &&& s.chain.asserted = 0 ∧
    s.ports[p].mask &&& assertedLines s.chain ≠ 0) ∧ hasStep s.ports[p].run.state = true := by
  rw [newlyHeld, Bool.and_eq_true, decide_eq_true_iff]
  rfl

theorem heldNow_iff : heldNow s p = true ↔ newlyHeld p s (relined s) = true ∧
    (s.ports[p].run.state = .running ∨ s.ports[p].run.state = .transfer) ∧ s.ports[p].run.applied = 0 := by
  rw [heldNow, heldAtOnce, Bool.and_eq_true, decide_eq_true_iff]

theorem lineTurn_newly (ho : sameOwnItems s.ports[p] t.ports[p]) (h : newlyHeld p s (relined s) = true) :
    lineTurn s p t = holdPort interlockCauses p t := by
  obtain ⟨⟨hb, ha⟩, hs⟩ := newlyHeld_iff.mp h
  obtain ⟨hstate, -⟩ := ho
  rw [lineTurn, interlocked_of_eq_zero hb, interlocked_of_ne_zero ha, handInterlock_rise (by rwa [hstate])]

theorem lineTurn_ends (h : ends s p) :
    lineTurn s p t = modRun p (fun r => { r with causes := { r.causes with interlock := false } }) t := by
  rw [lineTurn, interlocked_of_ne_zero h.1, interlocked_of_eq_zero h.2, handInterlock_fall]

theorem lineTurn_calm (ho : sameOwnItems s.ports[p] t.ports[p]) (h : newlyHeld p s (relined s) = false) (he : ¬ ends s p) :
    lineTurn s p t = t := by
  obtain ⟨hstate, -⟩ := ho
  by_cases hb : s.ports[p].mask &&& s.chain.asserted = 0
  · by_cases ha : s.ports[p].mask &&& assertedLines s.chain = 0
    · rw [lineTurn, interlocked_of_eq_zero hb, interlocked_of_eq_zero ha, handInterlock_same]
    · have hidle : hasStep s.ports[p].run.state = false :=
        Bool.eq_false_iff.mpr fun hs => ne_true_of_eq_false h (newlyHeld_iff.mpr ⟨⟨hb, ha⟩, hs⟩)
      rw [lineTurn, interlocked_of_eq_zero hb, interlocked_of_ne_zero ha, handInterlock_rise_idle (by rwa [hstate])]
  · have ha : s.ports[p].mask &&& assertedLines s.chain ≠ 0 := fun ha => he ⟨hb, ha⟩
    rw [lineTurn, interlocked_of_ne_zero hb, interlocked_of_ne_zero ha, handInterlock_same]

/-- The turn of a port that enters HELD. -/
theorem lineTurn_held (ho : sameOwnItems s.ports[p] t.ports[p]) (h : heldNow s p = true) :
    lineTurn s p t = enterHeld p (modRun p (addCauses interlockCauses) t) := by
  obtain ⟨hnew, hst, happ⟩ := heldNow_iff.mp h
  rw [lineTurn_newly ho hnew]
  obtain ⟨hstate, -, -, -, -, hat, -⟩ := ho
  exact holdPort_halts (by rwa [hstate]) (hat.trans happ)

/-- What another turn sets in its port: state, causes, slew and the throttled mark, and the intake with a drain. -/
def lit (st : PortState) (c : HoldCauses) (sl : Option Slew) (th : Bool) (i : Intake) (q : Port) : Port :=
  { q with run := { q.run with state := st, causes := c, slew := sl, throttled := th }, intake := i }

/-- The turn of a port that does not enter HELD. -/
theorem lineTurn_light (ho : sameOwnItems s.ports[p] t.ports[p]) (h : heldNow s p = false) : ∃ st c sl th i,
    lineTurn s p t = modPort p (lit st c sl th i) t ∧
    (newlyHeld p s (relined s) = false → st = t.ports[p].run.state ∧ sl = t.ports[p].run.slew ∧ th = t.ports[p].run.throttled ∧
      i = t.ports[p].intake ∧
      c = if ends s p then { t.ports[p].run.causes with interlock := false } else t.ports[p].run.causes) ∧
    (newlyHeld p s (relined s) = true → c = { t.ports[p].run.causes with interlock := true, master := true } ∧
      (s.ports[p].run.state = .holding ∨ s.ports[p].run.state = .held → st = t.ports[p].run.state) ∧
      (s.ports[p].run.state = .running ∨ s.ports[p].run.state = .transfer → st = .holding ∧
        sl = some (drainFrom t.ports[p].run t.alloc.rampTime))) := by
  have hmod (g : Port → Port) (st c sl th i) (hg : g t.ports[p] = lit st c sl th i t.ports[p]) :
      modPort p g t = modPort p (lit st c sl th i) t := modPort_congr hg
  cases hnew : newlyHeld p s (relined s)
  · by_cases he : ends s p
    · refine ⟨_, _, _, _, _, (lineTurn_ends he).trans (hmod _ t.ports[p].run.state
        { t.ports[p].run.causes with interlock := false } t.ports[p].run.slew t.ports[p].run.throttled t.ports[p].intake rfl),
        fun _ => ⟨rfl, rfl, rfl, rfl, by rw [if_pos he]⟩, fun h => absurd h (by simp)⟩
    · refine ⟨_, _, _, _, _, (lineTurn_calm ho hnew he).trans ((modPort_id (g := id) rfl).symm.trans (hmod _ t.ports[p].run.state
        t.ports[p].run.causes t.ports[p].run.slew t.ports[p].run.throttled t.ports[p].intake rfl)),
        fun _ => ⟨rfl, rfl, rfl, rfl, by rw [if_neg he]⟩, fun h => absurd h (by simp)⟩
  · obtain ⟨-, hs⟩ := newlyHeld_iff.mp hnew
    have hturn := lineTurn_newly ho hnew
    obtain ⟨hstate, -, -, -, -, happ, -⟩ := ho
    by_cases hrun : s.ports[p].run.state = .running ∨ s.ports[p].run.state = .transfer
    · have hne : s.ports[p].run.applied ≠ 0 := fun h0 => ne_true_of_eq_false h (heldNow_iff.mpr ⟨hnew, hrun, h0⟩)
      rw [holdPort_drains (by rwa [hstate]) (by rwa [happ])] at hturn
      simp only [restartSettle, discardCapture, startDrain, modIntake, modRun, modPort_modPort] at hturn
      refine ⟨_, _, _, _, _, hturn.trans (hmod _ .holding { t.ports[p].run.causes with interlock := true, master := true }
        (some (drainFrom t.ports[p].run t.alloc.rampTime)) false
        { t.ports[p].intake with captureA := none, settle := .empty } ?_), fun h => absurd h (by simp), fun _ => ⟨rfl, fun hh => ?_, fun _ => ⟨rfl, rfl⟩⟩⟩
      · simp only [addCauses_interlock, lit]
        rfl
      · rcases hrun with h | h <;> rw [h] at hh <;> simp at hh
    · have hheld : s.ports[p].run.state = .holding ∨ s.ports[p].run.state = .held := by
        revert hs hrun
        generalize s.ports[p].run.state = st
        cases st <;> simp [hasStep]
      rw [holdPort_stands (by rwa [hstate])] at hturn
      refine ⟨_, _, _, _, _, hturn.trans (hmod _ t.ports[p].run.state
        { t.ports[p].run.causes with interlock := true, master := true } t.ports[p].run.slew t.ports[p].run.throttled
        t.ports[p].intake ?_), fun h => absurd h (by simp), fun _ => ⟨rfl, fun _ => rfl, fun h => absurd h hrun⟩⟩
      simp only [addCauses_interlock, lit]

/-! ### What another port's turn leaves of a port -/

/-- What the turns of the other ports leave of a port: also its step, its basis and, where it does not wait, its run. -/
structure Passed (p : Fin 8) (s t : State) : Prop where
  beside : Bystands p s t
  step : t.ports[p].run.step = s.ports[p].run.step
  basis : t.ports[p].alloc.basis = s.ports[p].alloc.basis
  still : Absent p s.pool.queue → Absent p t.pool.queue ∧ t.ports[p].run = s.ports[p].run
  rampTime : t.alloc.rampTime = s.alloc.rampTime

theorem Passed.refl (s : State) : Passed p s s := ⟨.refl s, rfl, rfl, fun h => ⟨h, rfl⟩, rfl⟩

theorem Passed.trans (h : Passed p s t) (h' : Passed p t u) : Passed p s u where
  beside := h.beside.trans h'.beside
  step := h'.step.trans h.step
  basis := h'.basis.trans h.basis
  still ha := by
    obtain ⟨hat, hrun⟩ := h.still ha
    obtain ⟨hau, hrun'⟩ := h'.still hat
    exact ⟨hau, hrun'.trans hrun⟩
  rampTime := h'.rampTime.trans h.rampTime

theorem passed_modPort (hp : p ≠ r) (g : Port → Port) (t : State) : Passed p t (modPort r g t) := by
  have hport := modPort_other t hp g
  exact ⟨⟨by rw [hport]; exact .refl _, by rw [hport], by rw [hport], .refl _, fun hq => ⟨hq, fun _ _ => rfl, fun _ h => h⟩⟩,
    by rw [hport], by rw [hport], fun ha => ⟨ha, by rw [hport]⟩, rfl⟩

theorem outside_enterHeld (hq : s.pool.queue = []) : Outside r s (enterHeld r s) := by
  have hstop : Outside r s (stopped r s) := outside_of_pool hq rfl
  have hleave := hstop.trans (outside_leaveQueue hstop.queue)
  have hdown := hleave.trans (outside_disablePort hleave.queue)
  have hrel := hdown.trans (outside_releaseUnreserved hdown.queue)
  rw [enterHeld_eq]
  exact hrel.trans (outside_of_pool hrel.queue (by rw [raisePort_pool, fold_pool]))

theorem absent_others (ha : Absent p s.pool.queue) : Absent p (others r s) := fun x hx => ha x (List.mem_filter.mp hx).1

theorem leaveQueue_stays (hp : p ≠ r) (ha : Absent p s.pool.queue) :
    Absent p (leaveQueue r s).pool.queue ∧ (leaveQueue r s).ports[p] = s.ports[p] := by
  have hport := modPort_other { s with pool := { s.pool with queue := others r s } } hp
    (fun q => { q with phases := { q.phases with need := none } })
  rw [leaveQueue_eq]
  split
  · rw [serveList_queue, (serveList_absent (absent_others ha) _).1, hport]
    exact ⟨unserved_absent (absent_others ha), rfl⟩
  · exact ⟨absent_others ha, hport⟩

theorem releaseUnreserved_stays (ha : Absent p s.pool.queue) :
    Absent p (releaseUnreserved r s).pool.queue ∧ (releaseUnreserved r s).ports[p] = s.ports[p] := by
  unfold releaseUnreserved releaseAndServe serveQueue
  split
  · have ha' : Absent p (releaseBeyond r s.ports[r].phases.reserved s).pool.queue := by rwa [releaseBeyond_queue]
    rw [serveList_queue, (serveList_absent ha' _).1, releaseBeyond_ports]
    exact ⟨unserved_absent ha', rfl⟩
  · exact ⟨ha, rfl⟩

theorem enterHeld_stays (hp : p ≠ r) (ha : Absent p s.pool.queue) :
    Absent p (enterHeld r s).pool.queue ∧ (enterHeld r s).ports[p].run = s.ports[p].run := by
  have hne : (p : Nat) ≠ r := fun he => hp (Fin.ext he)
  obtain ⟨haleave, hleave⟩ := leaveQueue_stays (s := stopped r s) hp (by exact ha)
  obtain ⟨harel, hrel⟩ := releaseUnreserved_stays (r := r) (s := disablePort r (leaveQueue r (stopped r s))) (p := p)
    (by rwa [disablePort_queue])
  refine ⟨by rwa [enterHeld_eq, raisePort_pool, fold_pool], ?_⟩
  rw [disablePort_ports, hleave] at hrel
  have hstop : (stopped r s).ports[p].run = s.ports[p].run := by simp [stopped, hne]
  have hfold (x : State) : (raisePort .hold r (fold r x)).ports[p].run = x.ports[p].run := by simp
  rw [enterHeld_eq, hfold, hrel, hstop]

theorem passed_held (hp : p ≠ r) (s : State) : Passed p s (enterHeld r s) := by
  have hne : (p : Nat) ≠ r := fun he => hp (Fin.ext he)
  refine ⟨bystands_of_outside hp (enterHeld_portWork (p := r)) ?_ ?_ outside_enterHeld, ?_, ?_, enterHeld_stays hp,
    (enterHeld_portWork (b := false) (p := r)).rampTime⟩
  all_goals simp [enterHeld, setBasis, hne]

theorem passed_holdPort (hp : p ≠ r) (c : HoldCauses) (t : State) : Passed p t (holdPort c r t) := by
  have hcauses : Passed p t (modRun r (addCauses c) t) := passed_modPort hp ..
  unfold holdPort
  dsimp only
  split
  · split
    · exact hcauses.trans (passed_held hp _)
    · simp only [restartSettle, discardCapture, startDrain, modIntake, modRun, modPort_modPort]
      exact passed_modPort hp ..
  · exact hcauses

theorem passed_lineTurn (hp : p ≠ r) (t : State) : Passed p t (lineTurn s r t) := by
  unfold lineTurn handInterlock
  split
  · split
    · exact passed_holdPort hp ..
    · exact .refl t
  · split
    · exact passed_modPort hp ..
    · exact .refl t

/-! ### A port after a change of the lines -/

theorem reformLines_turn (p : Fin 8) (s : State) : ∃ t, Passed p (relined s) t ∧ Passed p (lineTurn s p t) (reformLines s) :=
  forPorts_turn .refl .trans (fun _ hr t => passed_lineTurn hr.symm t) (relined s)

theorem newlyHeld_reformLines (s : State) : newlyHeld p s (reformLines s) = newlyHeld p s (relined s) := by
  rw [newlyHeld, newlyHeld, (reformLines_quiet s).chain]

theorem heldAtOnce_reformLines (s : State) : heldAtOnce p s (reformLines s) = heldNow s p := by
  rw [heldNow, heldAtOnce, heldAtOnce, newlyHeld_reformLines]

theorem ends_reformLines (s : State) : (s.ports[p].mask &&& s.chain.asserted ≠ 0 ∧
    s.ports[p].mask &&& (reformLines s).chain.asserted = 0) ↔ ends s p := by
  rw [(reformLines_quiet s).chain]
  rfl

/-- A port that is not HELD at once. -/
theorem reformLines_light (h : heldNow s p = false) : linesHanded p s (reformLines s) := by
  obtain ⟨t, hbefore, hafter⟩ := reformLines_turn p s
  have hown : sameOwnItems s.ports[p] t.ports[p] := hbefore.beside.own
  obtain ⟨st, c, sl, th, i, hturn, hcalm, hnew⟩ := lineTurn_light hown h
  have hu : (lineTurn s p t).ports[p] = lit st c sl th i t.ports[p] := by rw [hturn, modPort_self]
  have hqueue : (lineTurn s p t).pool = t.pool := by rw [hturn]; rfl
  have hramp : t.alloc.rampTime = s.alloc.rampTime := hbefore.rampTime
  have hstill (ha : isQueued p s = false) : t.ports[p].run = s.ports[p].run ∧ Absent p t.pool.queue := by
    obtain ⟨hat, hrun⟩ := hbefore.still (isQueued_false.mp ha)
    exact ⟨hrun, hat⟩
  have hrun' (ha : isQueued p s = false) : (reformLines s).ports[p].run = (lineTurn s p t).ports[p].run :=
    (hafter.still (by rw [hqueue]; exact (hstill ha).2)).2
  have hstep : t.ports[p].run.step = s.ports[p].run.step := hbefore.step
  have hbasis : t.ports[p].alloc.basis = s.ports[p].alloc.basis := hbefore.basis
  have hrequest : t.ports[p].alloc.request = s.ports[p].alloc.request := hbefore.beside.request
  have kown := hafter.beside.own
  have kstep := hafter.step
  have kbasis := hafter.basis
  have krequest := hafter.beside.request
  rw [linesHanded, newlyHeld_reformLines, heldAtOnce_reformLines, h]
  simp only [ends_reformLines]
  rw [hu] at hrun' kown kstep kbasis krequest
  generalize reformLines s = v at *
  obtain ⟨hstate, hprogram, hindex, htimer, hcauses, happlied, howner, hresults, hlost, hintake, hacct, hident, hprot, hmask, hreserved⟩ := hown
  obtain ⟨kstate, kprogram, kindex, ktimer, kcauses, kapplied, kowner, kresults, klost, kintake, kacct, kident, kprot, kmask, kreserved⟩ := kown
  refine ⟨⟨kowner.trans howner, kmask.trans hmask, kresults.trans hresults, klost.trans hlost, kident.trans hident, kprot.trans hprot,
    kreserved.trans hreserved, (congrArg Accounts.step kacct).trans (congrArg Accounts.step hacct),
    (congrArg Accounts.run kacct).trans (congrArg Accounts.run hacct), kprogram.trans hprogram, kstep.trans hstep, kindex.trans hindex,
    ktimer.trans htimer, kapplied.trans happlied⟩, fun hn => ?_, fun hh => absurd hh (by simp), fun _ => ⟨kacct.trans hacct,
      kbasis.trans hbasis, krequest.trans hrequest⟩, fun hn => ?_⟩
  · obtain ⟨hc, hstands, hdrains⟩ := hnew hn
    refine ⟨kcauses.trans (by rw [← hcauses]; exact hc), fun hh => kstate.trans ((hstands hh).trans hstate), fun hh _ => ?_⟩
    obtain ⟨hst, hsl⟩ := hdrains hh
    refine ⟨kstate.trans hst, fun ha => ?_⟩
    rw [hrun' ha]
    change sl = _
    rw [hsl, (hstill ha).1, hramp]
    rfl
  · obtain ⟨hst, hsl, hth, hi, hc⟩ := hcalm hn
    have hc' : c = if ends s p then { s.ports[p].run.causes with interlock := false } else s.ports[p].run.causes := by
      rw [hc, hcauses]
    refine ⟨kintake.trans (hi.trans hintake), kstate.trans (hst.trans hstate), kcauses.trans hc', fun ha => ?_⟩
    rw [hrun' ha, hst, hsl, hth, lit, (hstill ha).1]

/-- The items that a port keeps at its entry into HELD. -/
theorem enterHeld_keeps (p : Fin 8) (s : State) :
    let a := s.ports[p]
    let b := (enterHeld p s).ports[p]
    (b.owner = a.owner ∧ b.mask = a.mask ∧ b.results = a.results ∧ b.lost = a.lost ∧ b.ident = a.ident ∧ b.prot = a.prot ∧
      b.phases.reserved = a.phases.reserved) ∧
    (b.run.program = a.run.program ∧ b.run.step = a.run.step ∧ b.run.stepIndex = a.run.stepIndex ∧
      b.run.stepTimer = a.run.stepTimer) ∧
    b.acct = { a.acct with unfolded := if a.ident.bound.isSome then .cleared else a.acct.unfolded } := by
  have hpre : (releaseUnreserved p (disablePort p (leaveQueue p (stopped p s)))).ports[p].acct = s.ports[p].acct := by simp [stopped]
  have hident : (releaseUnreserved p (disablePort p (leaveQueue p (stopped p s)))).ports[p].ident = s.ports[p].ident := by simp [stopped]
  refine ⟨⟨?_, ?_, ?_, ?_, ?_, ?_, ?_⟩, ⟨?_, ?_, ?_, ?_⟩, ?_⟩
  iterate 11 simp [enterHeld]
  rw [enterHeld_eq, raisePort_ports]
  generalize releaseUnreserved p (disablePort p (leaveQueue p (stopped p s))) = x at *
  cases hb : s.ports[p].ident.bound with
  | none => rw [fold_unbound (by rw [hident, hb]), hpre]; rfl
  | some e =>
    have hx : x.ports[p].ident.bound = some e := by rw [hident, hb]
    unfold fold
    rw [hx]
    dsimp only
    rw [modAcct, modPort_self]
    rw [← hpre]
    rfl

theorem absent_enterHeld (p : Fin 8) (s : State) : Absent p (enterHeld p s).pool.queue := by
  obtain ⟨⟨-, hqueue, -⟩, -⟩ := enterHeld_pool p s
  have hrest : Absent p (s.pool.queue.filter fun x => x.1 ≠ p) := others_absent
  rw [hqueue]
  split
  · exact unserved_absent hrest
  · exact hrest

/-- A port that is HELD at once. -/
theorem reformLines_held (h : heldNow s p = true) : linesHanded p s (reformLines s) := by
  obtain ⟨hnewly, hrun, happ⟩ := heldNow_iff.mp h
  obtain ⟨t, hbefore, hafter⟩ := reformLines_turn p s
  have hown : sameOwnItems s.ports[p] t.ports[p] := hbefore.beside.own
  have hstep : t.ports[p].run.step = s.ports[p].run.step := hbefore.step
  rw [lineTurn_held hown h] at hafter
  obtain ⟨x, hx⟩ : ∃ x, x = modRun p (addCauses interlockCauses) t := ⟨_, rfl⟩
  have hport : x.ports[p] = { t.ports[p] with run := addCauses interlockCauses t.ports[p].run } := by rw [hx, modRun, modPort_self]
  obtain ⟨hkept, hrunKept, hacctKept⟩ := enterHeld_keeps p x
  obtain ⟨hst, happ', hcv, hcs, -, -, hbasis, hrequest, hflag⟩ := enterHeld_port p x
  have hpool := heldPool_of_start (r := t) (s := x) (by rw [hx]; rfl) (by rw [hport]) (enterHeld_pool p x)
  have hgone : Absent p (enterHeld p x).pool.queue := absent_enterHeld p x
  have houtside (hq : t.pool.queue = []) : Outside p t (enterHeld p x) := by
    have hsame : Outside p t x := outside_of_pool hq (by rw [hx]; rfl)
    exact hsame.trans (outside_enterHeld hsame.queue)
  rw [← hx] at hafter
  rw [hport] at hkept hrunKept hacctKept hcs
  have kown := hafter.beside.own
  have hrunv : (reformLines s).ports[p].run = (enterHeld p x).ports[p].run := (hafter.still hgone).2
  rw [linesHanded, newlyHeld_reformLines, heldAtOnce_reformLines, h, hnewly]
  generalize reformLines s = v at *
  generalize enterHeld p x = u at *
  obtain ⟨hstate, hprogram, hindex, htimer, hcauses, happlied, howner, hresults, hlost, hintake, hacct, hident, hprot, hmask, hreserved⟩ := hown
  obtain ⟨kstate, kprogram, kindex, ktimer, kcauses, kapplied, kowner, kresults, klost, kintake, kacct, kident, kprot, kmask, kreserved⟩ := kown
  obtain ⟨eowner, emask, eresults, elost, eident, eprot, ereserved⟩ := hkept
  obtain ⟨eprogram, estep, eindex, etimer⟩ := hrunKept
  have hacctv : v.ports[p].acct = { s.ports[p].acct with
      unfolded := if s.ports[p].ident.bound.isSome then .cleared else s.ports[p].acct.unfolded } := by
    rw [kacct, hacctKept, hacct, hident]
  refine ⟨⟨kowner.trans (eowner.trans howner), kmask.trans (emask.trans hmask), kresults.trans (eresults.trans hresults),
    klost.trans (elost.trans hlost), kident.trans (eident.trans hident), kprot.trans (eprot.trans hprot),
    kreserved.trans (ereserved.trans hreserved), by rw [hacctv], by rw [hacctv], kprogram.trans (eprogram.trans hprogram),
    hafter.step.trans (estep.trans hstep), kindex.trans (eindex.trans hindex), ktimer.trans (etimer.trans htimer),
    (kapplied.trans happ').trans happ.symm⟩, fun _ => ⟨?_, fun hh => ?_, fun _ hne => absurd happ hne⟩, fun _ => ⟨kstate.trans hst, ?_,
    hafter.basis.trans hbasis, hafter.beside.request.trans hrequest, hacctv, hafter.beside.flags.flagged hflag, fun hq => ?_⟩,
    fun hh => absurd hh (by simp), fun hh => absurd hh (by simp)⟩
  · rw [kcauses, hcs, addCauses_interlock, hcauses]
  · rcases hrun with h | h <;> rw [h] at hh <;> simp at hh
  · rw [hrunv, hcv]
  · obtain ⟨hqt, hsame, -⟩ := hbefore.beside.pool hq
    have hout := houtside hqt
    obtain ⟨-, hsame', -⟩ := hafter.beside.pool hout.queue
    obtain ⟨⟨hgang, -, -⟩, hfall⟩ := hpool
    have hgangt : gang p t = gang p s := hbefore.beside.gang hq
    rw [hafter.beside.gang hout.queue, hgang, hgangt, hreserved]
    refine ⟨rfl, fun f hf => ?_⟩
    have hft : f ∈ gang p t := by rw [hgangt]; exact hf
    have hph : v.pool.phases[f] = u.pool.phases[f] := hsame' f (hout.own f (mem_gang.mp hft))
    have hpt : t.pool.phases[f] = s.pool.phases[f] := hsame f (.inl (mem_gang.mp hf))
    obtain ⟨hwatch, hdown⟩ := hfall f hft
    rw [hph, ← hpt]
    exact ⟨hwatch, fun hv => hdown (by rwa [hafter.beside.gang hout.queue] at hv)⟩

theorem reformLines_handed (p : Fin 8) (s : State) : linesHanded p s (reformLines s) := by
  cases h : heldNow s p
  · exact reformLines_light h
  · exact reformLines_held h

/-! ### The cabinet after a change of the lines -/

/-- The allocator stands as a round of the present requests and budget leaves it (R127). -/
def Rounded (s : State) : Prop :=
  s.alloc.lastRound = ⟨s.alloc.inForce, sideTotal (imports (requests s)), sideTotal (exports (requests s)),
    (allocate s.alloc.inForce (requests s)).2⟩ ∧
  ∀ p : Fin 8, s.ports[p].alloc.grant = ((allocate s.alloc.inForce (requests s)).1).getD p.val 0

theorem rounded_round (s : State) : Rounded (round s) := by
  rw [Rounded, requests_round]
  exact ⟨rfl, fun p => by simp [Machine.round]⟩

/-- The allocator and the ports' lines in it are the same. -/
def SameAlloc (s t : State) : Prop := t.alloc = s.alloc ∧ ∀ p : Fin 8, t.ports[p].alloc = s.ports[p].alloc

theorem SameAlloc.rounded (h : SameAlloc s t) (hr : Rounded s) : Rounded t := by
  obtain ⟨halloc, hports⟩ := h
  have hreq : requests t = requests s := by
    rw [requests_eq, requests_eq]
    exact List.map_congr_left fun p _ => by rw [hports p]
  rw [Rounded, hreq, halloc]
  exact ⟨hr.1, fun p => by rw [hports p]; exact hr.2 p⟩

theorem sameAlloc_enterHeld (p : Fin 8) (s : State) : SameAlloc (stopped p s) (enterHeld p s) := by
  rw [enterHeld_eq]
  exact ⟨by simp, fun q => by simp⟩

/-- What entry into HELD changes of the cabinet: one round, and the fold into the bound entry. -/
structure HeldOnce (p : Fin 8) (s t : State) : Prop where
  headers : t.headers = s.headers
  recency : t.history.recency = s.history.recency
  waiting : t.history.waiting = s.history.waiting
  evictions : t.history.evictions = s.history.evictions
  entry : ∀ e : Fin 64, s.ports[p].ident.bound ≠ some e → t.history.entries[e] = s.history.entries[e]
  rounded : Rounded t
  count : t.alloc.roundCount = (s.alloc.roundCount + 1) % 4294967296

theorem fold_other_entry {e : Fin 64} (h : s.ports[p].ident.bound ≠ some e) :
    (fold p s).history.entries[e] = s.history.entries[e] := by
  unfold fold
  cases hb : s.ports[p].ident.bound with
  | none => rfl
  | some k =>
    have hne : (k : Nat) ≠ e := fun he => h (by rw [hb, Fin.ext he])
    simp [modAcct, modEntry, hne]

theorem heldOnce_enterHeld (p : Fin 8) (s : State) : HeldOnce p s (enterHeld p s) := by
  have hsame := sameAlloc_enterHeld p s
  refine ⟨by simp [enterHeld], by simp [enterHeld], by simp [enterHeld], by simp [enterHeld], fun e he => ?_, ?_, ?_⟩
  · rw [enterHeld_eq, raisePort_history, fold_other_entry (by simpa [stopped] using he)]
    simp [stopped]
  · exact hsame.rounded (rounded_round _)
  · rw [hsame.1]
    rfl

/-- What the turns of some ports have changed of the cabinet. -/
structure Handed (s : State) (l : List (Fin 8)) (t : State) : Prop where
  headers : t.headers = s.headers
  recency : t.history.recency = s.history.recency
  waiting : t.history.waiting = s.history.waiting
  evictions : t.history.evictions = s.history.evictions
  entry : ∀ e : Fin 64, (∀ p : Fin 8, heldNow s p = true → s.ports[p].ident.bound ≠ some e) →
    t.history.entries[e] = s.history.entries[e]
  light : l.countP (heldNow s) = 0 → t.history = s.history ∧ t.pool = s.pool ∧ t.cmd = s.cmd ∧ SameAlloc s t
  rounded : l.countP (heldNow s) ≠ 0 → Rounded t
  count : t.alloc.roundCount % 4294967296 = (s.alloc.roundCount + l.countP (heldNow s)) % 4294967296

theorem handed_start (s : State) : Handed s [] (relined s) :=
  ⟨rfl, rfl, rfl, rfl, fun _ _ => rfl, fun _ => ⟨rfl, rfl, rfl, rfl, fun _ => rfl⟩, fun h => absurd rfl h, rfl⟩

theorem Handed.light_turn {l : List (Fin 8)} (h : Handed s l t) (hp : heldNow s p = false) {g : Port → Port}
    (hg : ∀ q, (g q).alloc = q.alloc) : Handed s (l ++ [p]) (modPort p g t) := by
  have hcount : (l ++ [p]).countP (heldNow s) = l.countP (heldNow s) := by simp [hp]
  have hsame : SameAlloc t (modPort p g t) := by
    refine ⟨rfl, fun q => ?_⟩
    rw [modPort_port]
    split
    · next hq => rw [hg, hq]
    · rfl
  refine ⟨h.headers, h.recency, h.waiting, h.evictions, h.entry, fun h0 => ?_, fun h0 => ?_, by rw [hcount]; exact h.count⟩
  · obtain ⟨hhistory, hpool, hcmd, halloc, hports⟩ := h.light (by rwa [hcount] at h0)
    exact ⟨hhistory, hpool, hcmd, halloc, fun q => (hsame.2 q).trans (hports q)⟩
  · exact hsame.rounded (h.rounded (by rwa [hcount] at h0))

theorem Handed.held_turn {l : List (Fin 8)} (h : Handed s l t) (hp : heldNow s p = true) (hu : HeldOnce p t u)
    (hb : t.ports[p].ident = s.ports[p].ident) : Handed s (l ++ [p]) u := by
  have hcount : (l ++ [p]).countP (heldNow s) = l.countP (heldNow s) + 1 := by simp [hp]
  refine ⟨hu.headers.trans h.headers, hu.recency.trans h.recency, hu.waiting.trans h.waiting, hu.evictions.trans h.evictions,
    fun e he => ?_, fun h0 => ?_, fun _ => hu.rounded, ?_⟩
  · rw [hu.entry e (by rw [hb]; exact he p hp), h.entry e he]
  · omega
  · have := h.count
    rw [hcount, hu.count]
    omega

/-- Turns seen one after another, each meeting its port with its own items as they were at the start. -/
theorem forPorts_inTurn {g : Fin 8 → State → State} {I : List (Fin 8) → State → Prop} (hg : ∀ p t, PortWork false p t (g p t))
    (h0 : I [] s) (hstep : ∀ l p t, sameOwnItems s.ports[p] t.ports[p] → I l t → I (l ++ [p]) (g p t)) :
    I (List.finRange 8) (forPorts g s) := by
  have hlist (rest : List (Fin 8)) : ∀ (done : List (Fin 8)) (t : State), rest.Nodup →
      (∀ q ∈ rest, sameOwnItems s.ports[q] t.ports[q]) → I done t → I (done ++ rest) (rest.foldl (fun t p => g p t) t) := by
    induction rest with
    | nil => intro done t _ _ hI; rwa [List.append_nil]
    | cons p rest ih =>
      intro done t hn hq hI
      obtain ⟨hp, hrest⟩ := List.nodup_cons.mp hn
      have hnext := ih (done ++ [p]) (g p t) hrest (fun q hq' => ?_) (hstep done p t (hq p List.mem_cons_self) hI)
      · rwa [List.append_assoc] at hnext
      · exact (hq q (List.mem_cons_of_mem p hq')).trans ((hg p t).others q fun he => hp (he ▸ hq'))
  exact hlist (List.finRange 8) [] s (List.nodup_finRange 8) (fun q _ => .refl _) h0

theorem reformLines_cabinet (s : State) : Handed s (List.finRange 8) (reformLines s) := by
  refine forPorts_inTurn (s := relined s) (g := lineTurn s) (I := Handed s) (fun _ _ => handInterlock_portWork _ _) (handed_start s)
    fun l p t ho h => ?_
  change sameOwnItems s.ports[p] t.ports[p] at ho
  cases hp : heldNow s p
  · obtain ⟨st, c, sl, th, i, hturn, -⟩ := lineTurn_light ho hp
    rw [hturn]
    exact h.light_turn hp fun _ => rfl
  · have hident : t.ports[p].ident = s.ports[p].ident := by
      obtain ⟨-, -, -, -, -, -, -, -, -, -, -, hident, -⟩ := ho
      exact hident
    rw [lineTurn_held ho hp]
    have hu := heldOnce_enterHeld p (modRun p (addCauses interlockCauses) t)
    refine h.held_turn hp ⟨hu.headers, hu.recency, hu.waiting, hu.evictions, fun e he => hu.entry e ?_, hu.rounded, hu.count⟩ hident
    rwa [modRun, modPort_self]

end

end Sys2Proof.LineTurns
end

section
/-! PROOFS. A CYCLE frame taken (R195, R198): its budget and lines, its report slot and its command slot. -/

open Sys2Proof Sys2Proof.Machine Sys2Proof.Indexing Sys2Proof.Rounds Sys2Proof.ChainStates Sys2Proof.LineTurns Sys2Proof.Cabinet
open Sys2Proof.InterlockMask

namespace Sys2Proof.CycleFrames

section
variable {p : Fin 8} {s t b : State} {f : List Byte} {n : Nat}

/-! ### The chain's record (R195) -/

/-- The chain of a cabinet that has taken a CYCLE frame, before its lines are formed again. -/
def cycled (f : List Byte) (n : Nat) (c : Chain) : Chain := returnChain (recordCycle f n (countValid c))

theorem cycled_record (f : List Byte) (n : Nat) (c : Chain) :
    (cycled f n c).silence = some 0 ∧ (cycled f n c).live = true ∧ (cycled f n c).superframe = some (natAt f 1 2) ∧
    (cycled f n c).frameLines = some (f.getD 123 0) ∧ (cycled f n c).entry = some (entryIn f n) := by
  unfold cycled returnChain recordCycle
  split <;> exact ⟨rfl, rfl, rfl, rfl, rfl⟩

theorem cycled_keeps (f : List Byte) (n : Nat) (c : Chain) :
    (cycled f n c).number = c.number ∧ (cycled f n c).lastTag = c.lastTag ∧ (cycled f n c).lastResponse = c.lastResponse ∧
    (cycled f n c).responsePending = c.responsePending ∧ (cycled f n c).last = c.last ∧ (cycled f n c).asserted = c.asserted := by
  unfold cycled returnChain recordCycle countValid
  split <;> split <;> exact ⟨rfl, rfl, rfl, rfl, rfl, rfl⟩

theorem cycled_state (f : List Byte) (n : Nat) (c : Chain) : (cycled f n c).state =
    if c.state = .stale ∧ (countValid c).errors = 0 then .discovered else c.state := by
  obtain ⟨-, hstate, -⟩ := countValid_rest c
  unfold cycled returnChain
  change (if (countValid c).state = .stale ∧ (countValid c).errors = 0 then _ else _ : Chain).state = _
  rw [hstate]
  split
  · rfl
  · exact hstate

theorem assertedLines_discovered {c : Chain} (hs : c.state = .discovered) (hl : c.live = true) :
    assertedLines c = c.frameLines.getD 0 := by
  simp only [assertedLines, hs, hl, if_true]

theorem assertedLines_stale {c : Chain} (hs : c.state = .stale) : assertedLines c = 0xFF := by
  simp only [assertedLines, hs]

/-! ### The entry in force (R119, R195) -/

/-- A cabinet with the frame recorded. -/
def recorded (f : List Byte) (n : Nat) (s : State) : State := modChain (cycled f n) (send (.downstream f) s)

/-- A cabinet with the frame's entry in force where the chain is DISCOVERED. -/
def budgeted (f : List Byte) (n : Nat) (s : State) : State :=
  if (recorded f n s).chain.state = .discovered then changeBudget .hallLive (entryIn f n) (recorded f n s) else recorded f n s

/-- The frame changes the budget in force. -/
abbrev changes (f : List Byte) (n : Nat) (s : State) : Prop :=
  (cycled f n s.chain).state = .discovered ∧ (s.alloc.source ≠ .hallLive ∨ s.alloc.inForce ≠ entryIn f n)

theorem changeBudget_steady {src : BudgetSource} {e : Budget} (h : s.alloc.source = src) (h' : s.alloc.inForce = e) :
    changeBudget src e s = s := by
  unfold changeBudget
  dsimp only
  rw [if_neg (not_not.mpr h), if_neg (not_not.mpr h')]

/-- What taking a frame's entry changes: the grants, the allocator and a flag. -/
structure Budgeted (f : List Byte) (n : Nat) (s b : State) : Prop where
  port : ∀ p : Fin 8, ∃ g, b.ports[p] = { s.ports[p] with alloc := { s.ports[p].alloc with grant := g } }
  chain : b.chain = cycled f n s.chain
  sent : b.sent = s.sent ++ [.downstream f]
  headers : b.headers = s.headers
  history : b.history = s.history
  pool : b.pool = s.pool
  prot : b.prot = s.prot
  pending : b.pending = s.pending
  settings : b.alloc.standalone = s.alloc.standalone ∧ b.alloc.fallback = s.alloc.fallback ∧ b.alloc.rampTime = s.alloc.rampTime
  live : b.chain.state = .discovered → b.alloc.source = .hallLive ∧ b.alloc.inForce = entryIn f n
  other : b.chain.state ≠ .discovered → b.alloc.source = s.alloc.source ∧ b.alloc.inForce = s.alloc.inForce
  flag : b.chain.state = .discovered → s.alloc.source ≠ .hallLive → cabinetFlagged .budgetSourceChanged b
  cmd : (b.chain.state = .discovered → s.alloc.source = .hallLive) → b.cmd = s.cmd
  round : changes f n s → Rounded b ∧ b.alloc.roundCount = (s.alloc.roundCount + 1) % 4294967296
  steady : ¬ changes f n s → SameAlloc s b

theorem budgeted_recorded (h : ¬ changes f n s) (ho : (cycled f n s.chain).state = .discovered →
    s.alloc.source = .hallLive ∧ s.alloc.inForce = entryIn f n) : Budgeted f n s (recorded f n s) :=
  ⟨fun p => ⟨s.ports[p].alloc.grant, rfl⟩, rfl, rfl, rfl, rfl, rfl, rfl, rfl, ⟨rfl, rfl, rfl⟩, ho, fun _ => ⟨rfl, rfl⟩,
    fun hd hs => absurd (ho hd).1 hs, fun _ => rfl, fun hc => absurd hc h, fun _ => ⟨rfl, fun _ => rfl⟩⟩

/-- A change of the budget in force is a round of the state with it. -/
theorem changeBudget_changes (hc : changes f n s) : ∃ y : State,
    changeBudget .hallLive (entryIn f n) (recorded f n s) = round y ∧ y.ports = s.ports ∧ y.chain = cycled f n s.chain ∧
    y.sent = s.sent ++ [.downstream f] ∧
    (y.headers = s.headers ∧ y.history = s.history ∧ y.pool = s.pool ∧ y.prot = s.prot ∧ y.pending = s.pending) ∧
    y.alloc = { s.alloc with source := .hallLive, inForce := entryIn f n } ∧
    (s.alloc.source = .hallLive → y.cmd = s.cmd) ∧ (s.alloc.source ≠ .hallLive → cabinetFlagged .budgetSourceChanged y) := by
  by_cases hsrc : s.alloc.source ≠ .hallLive
  · exact ⟨_, if_pos hsrc, rfl, rfl, rfl, ⟨rfl, rfl, rfl, rfl, rfl⟩, rfl, fun h => absurd h hsrc, fun _ => cabinetFlagged_raiseCabinet ..⟩
  · have hne : (recorded f n s).alloc.inForce ≠ entryIn f n := hc.2.resolve_left hsrc
    exact ⟨_, (if_neg hsrc).trans (if_pos hne), rfl, rfl, rfl, ⟨rfl, rfl, rfl, rfl, rfl⟩, rfl, fun _ => rfl, fun h => absurd h hsrc⟩

theorem budgeted_of (f : List Byte) (n : Nat) (s : State) : Budgeted f n s (budgeted f n s) := by
  by_cases hd : (cycled f n s.chain).state = .discovered
  · have hform : budgeted f n s = changeBudget .hallLive (entryIn f n) (recorded f n s) := if_pos hd
    by_cases hc : changes f n s
    · obtain ⟨y, hy, hports, hchain, hsent, hrest, halloc, hcmd, hflag⟩ := changeBudget_changes hc
      obtain ⟨hheaders, hhistory, hpool, hprot, hpending⟩ := hrest
      rw [hform, hy]
      have hall : (round y).alloc.source = .hallLive ∧ (round y).alloc.inForce = entryIn f n := by
        change y.alloc.source = _ ∧ y.alloc.inForce = _
        rw [halloc]
        exact ⟨rfl, rfl⟩
      refine ⟨fun p => ⟨((allocate y.alloc.inForce (requests y)).1).getD p 0, ?_⟩, hchain, hsent, hheaders, hhistory, hpool, hprot, hpending,
        ?_, fun _ => hall, fun hn => absurd (by rw [show (round y).chain = _ from hchain]; exact hd) hn, fun _ hs => hflag hs,
        fun hs => hcmd (hs (by rw [show (round y).chain = _ from hchain]; exact hd)), fun _ => ⟨rounded_round y, ?_⟩,
        fun hn => absurd hc hn⟩
      · rw [← hports]
        exact round_getElem ..
      · change y.alloc.standalone = _ ∧ y.alloc.fallback = _ ∧ y.alloc.rampTime = _
        rw [halloc]
        exact ⟨rfl, rfl, rfl⟩
      · change (y.alloc.roundCount + 1) % 4294967296 = _
        rw [halloc]
    · have hsteady : s.alloc.source = .hallLive ∧ s.alloc.inForce = entryIn f n := by
        rw [not_and_or, not_or, not_not, not_not] at hc
        exact hc.resolve_left (not_not.mpr hd)
      rw [hform, changeBudget_steady (s := recorded f n s) hsteady.1 hsteady.2]
      exact budgeted_recorded hc fun _ => hsteady
  · have hform : budgeted f n s = recorded f n s := if_neg hd
    rw [hform]
    exact budgeted_recorded (fun hc => hd hc.1) fun h => absurd h hd

/-! ### The taking (R195) -/

/-- The state that a frame's report is formed of. -/
def lined (f : List Byte) (n : Nat) (s : State) : State := reformLines (budgeted f n s)

theorem receiveChain_cycle (h : cycleValid f = true) (hn : s.chain.number = some n) :
    receiveChain f s = takeSlot f n (report (lined f n s)) := by
  have hnot : discoverValid f = false := by
    simp only [cycleValid, Bool.and_eq_true, decide_eq_true_eq] at h
    obtain ⟨⟨⟨hlen, -⟩, -⟩, -⟩ := h
    have hne : f.length ≠ 5 := by omega
    simp [discoverValid, hne]
  have hnum : (modChain countValid s).chain.number = some n := (countValid_rest s.chain).1.trans hn
  simp only [receiveChain, hnot, h, Bool.false_eq_true, if_false, if_true, takeCycle, hnum]
  rfl

theorem heldAtOnce_lined (hb : Budgeted f n s b) (p : Fin 8) : heldAtOnce p s (reformLines b) = heldNow b p := by
  obtain ⟨g, hport⟩ := hb.port p
  obtain ⟨-, -, -, -, -, hass⟩ := cycled_keeps f n s.chain
  rw [← heldAtOnce_reformLines, heldAtOnce, heldAtOnce, newlyHeld, newlyHeld, hport, hb.chain, hass]

theorem linesHanded_lined (hb : Budgeted f n s b) (p : Fin 8) : linesHanded p s (reformLines b) := by
  have h := reformLines_handed p b
  obtain ⟨g, hport⟩ := hb.port p
  obtain ⟨-, -, -, -, -, hass⟩ := cycled_keeps f n s.chain
  have hheld : heldAtOnce p b (reformLines b) = heldAtOnce p s (reformLines b) := by rw [heldAtOnce_lined hb, heldAtOnce_reformLines]
  have hnew : newlyHeld p b (reformLines b) = newlyHeld p s (reformLines b) := by rw [newlyHeld, newlyHeld, hport, hb.chain, hass]
  have hqueued : isQueued p b = isQueued p s := by rw [isQueued, isQueued, hb.pool]
  have hgang : gang p b = gang p s := by rw [gang, gang, hb.pool]
  have hfall : enablesFall p b (reformLines b) ↔ enablesFall p s (reformLines b) := by
    rw [enablesFall, enablesFall, hgang, hb.pool]
  obtain ⟨-, -, hramp⟩ := hb.settings
  rw [linesHanded] at h ⊢
  simp only [hport, hheld, hnew, hqueued, hgang, hfall, hramp, hb.pool, hb.chain, hass] at h
  exact h

/-- What a frame's taking records in the chain. -/
theorem lined_chain (f : List Byte) (n : Nat) (s : State) : (lined f n s).chain =
    { cycled f n s.chain with asserted := assertedLines (cycled f n s.chain) } := by
  have h : (lined f n s).chain = _ := (reformLines_quiet (budgeted f n s)).chain
  rw [h, relined, ← (budgeted_of f n s).chain]
  rfl

/-- The chain's items after a frame (R195, R196). -/
theorem lined_record (hn : s.chain.number = some n) (f : List Byte) :
    let v := lined f n s
    v.chain.silence = some 0 ∧ v.chain.live = true ∧ v.chain.superframe = some (natAt f 1 2) ∧
    v.chain.frameLines = some (f.getD 123 0) ∧ v.chain.entry = some (entryIn f n) ∧ v.chain.asserted = assertedLines v.chain ∧
    v.chain.number = some n ∧ v.chain.lastTag = s.chain.lastTag ∧ v.chain.lastResponse = s.chain.lastResponse ∧
    v.chain.responsePending = s.chain.responsePending ∧
    v.chain.state = if s.chain.state = .stale ∧ (countValid s.chain).errors = 0 then .discovered else s.chain.state := by
  obtain ⟨ksilence, klive, ksuper, klines, kentry⟩ := cycled_record f n s.chain
  obtain ⟨knumber, ktag, kresponse, kpending, -, -⟩ := cycled_keeps f n s.chain
  dsimp only
  rw [lined_chain]
  exact ⟨ksilence, klive, ksuper, klines, kentry, rfl, knumber.trans hn, ktag, kresponse, kpending, cycled_state f n s.chain⟩

/-- The lines asserted after a frame (R196). -/
theorem lined_asserted (f : List Byte) (n : Nat) (s : State) :
    let v := lined f n s
    (v.chain.state = .discovered → v.chain.asserted = f.getD 123 0) ∧ (v.chain.state = .stale → v.chain.asserted = 0xFF) := by
  obtain ⟨-, klive, -, klines, -⟩ := cycled_record f n s.chain
  dsimp only
  rw [lined_chain]
  refine ⟨fun hd => ?_, fun hd => assertedLines_stale hd⟩
  exact (assertedLines_discovered (c := cycled f n s.chain) hd klive).trans (by rw [klines]; rfl)

theorem lined_state (f : List Byte) (n : Nat) (s : State) : (lined f n s).chain.state = (budgeted f n s).chain.state := by
  rw [lined_chain, (budgeted_of f n s).chain]

/-- The budgets after a frame: the entry in force where the chain is DISCOVERED, the stored ones as before (R119, R195). -/
theorem lined_budgets (f : List Byte) (n : Nat) (s : State) :
    let v := lined f n s
    (v.chain.state = .discovered → v.alloc.source = .hallLive ∧ v.alloc.inForce = entryIn f n) ∧
    (v.chain.state ≠ .discovered → v.alloc.source = s.alloc.source ∧ v.alloc.inForce = s.alloc.inForce) ∧
    v.alloc.standalone = s.alloc.standalone ∧ v.alloc.fallback = s.alloc.fallback ∧ v.alloc.rampTime = s.alloc.rampTime := by
  have hb := budgeted_of f n s
  have hquiet : Quiet (relined (budgeted f n s)) (lined f n s) := reformLines_quiet _
  obtain ⟨hstand, hfall, hramp⟩ := hb.settings
  have hbudgets : budgets (lined f n s) = budgets (budgeted f n s) := hquiet.budgets
  simp only [budgets, Prod.mk.injEq] at hbudgets
  obtain ⟨bsource, bforce, bstand, bfall⟩ := hbudgets
  dsimp only
  rw [lined_state, bsource, bforce, bstand, bfall]
  exact ⟨hb.live, hb.other, hstand, hfall, hquiet.rampTime.trans hramp⟩

/-- What a frame leaves of the rest of the cabinet: all of it but the flags and grants where no port is HELD at once. -/
structure Spared (held : Nat) (s v : State) : Prop where
  headers : v.headers = s.headers
  prot : v.prot = s.prot
  pending : v.pending = s.pending
  recency : v.history.recency = s.history.recency
  waiting : v.history.waiting = s.history.waiting
  evictions : v.history.evictions = s.history.evictions
  still : held = 0 → v.history = s.history ∧ v.pool = s.pool
  entry : ∀ e : Fin 64, (∀ p : Fin 8, heldAtOnce p s v = true → s.ports[p].ident.bound ≠ some e) →
    v.history.entries[e] = s.history.entries[e]
  flag : v.chain.state = .discovered → s.alloc.source ≠ .hallLive → cabinetFlagged .budgetSourceChanged v
  cmd : (v.chain.state = .discovered → s.alloc.source = .hallLive) → held = 0 → v.cmd = s.cmd

theorem lined_spared (f : List Byte) (n : Nat) (s : State) :
    Spared ((List.finRange 8).countP (heldNow (budgeted f n s))) s (lined f n s) := by
  have hb := budgeted_of f n s
  have hquiet : Quiet (relined (budgeted f n s)) (lined f n s) := reformLines_quiet _
  have hcab : Handed (budgeted f n s) (List.finRange 8) (lined f n s) := reformLines_cabinet _
  have hheld (p : Fin 8) : heldAtOnce p s (lined f n s) = heldNow (budgeted f n s) p := heldAtOnce_lined hb p
  have hstate := lined_state f n s
  generalize lined f n s = v at *
  generalize budgeted f n s = b at *
  refine ⟨hcab.headers.trans hb.headers, hquiet.prot.trans hb.prot, hquiet.pending.trans hb.pending,
    hcab.recency.trans (congrArg History.recency hb.history), hcab.waiting.trans (congrArg History.waiting hb.history),
    hcab.evictions.trans (congrArg History.evictions hb.history), fun h0 => ?_, fun e he => ?_, fun hd hs => ?_, fun hs h0 => ?_⟩
  · obtain ⟨kh, kp, -⟩ := hcab.light h0
    exact ⟨kh.trans hb.history, kp.trans hb.pool⟩
  · rw [hcab.entry e fun p hp => ?_, hb.history]
    obtain ⟨g, hport⟩ := hb.port p
    rw [hport]
    exact he p ((hheld p).trans hp)
  · exact hquiet.cmd.cabinetFlagged (hb.flag (hstate ▸ hd) hs)
  · obtain ⟨-, -, kc, -⟩ := hcab.light h0
    exact kc.trans (hb.cmd fun hd => hs (hstate.trans hd))

/-- The allocator after a frame: rounds counted, and none of them where nothing changes. -/
structure Allocated (f : List Byte) (n held : Nat) (s v : State) : Prop where
  round : changes f n s ∨ held ≠ 0 → Rounded v
  steady : ¬ changes f n s → held = 0 → SameAlloc s v
  changed : changes f n s → v.alloc.roundCount % 2 ^ 32 = (s.alloc.roundCount + 1 + held) % 2 ^ 32
  unchanged : ¬ changes f n s → v.alloc.roundCount % 2 ^ 32 = (s.alloc.roundCount + held) % 2 ^ 32

theorem lined_allocated (f : List Byte) (n : Nat) (s : State) :
    Allocated f n ((List.finRange 8).countP (heldNow (budgeted f n s))) s (lined f n s) := by
  have hb := budgeted_of f n s
  have hv : Handed (budgeted f n s) (List.finRange 8) (lined f n s) := reformLines_cabinet (budgeted f n s)
  have hcount := hv.count
  refine ⟨fun h => ?_, fun hc h0 => ?_, fun hc => ?_, fun hc => ?_⟩
  · by_cases h0 : (List.finRange 8).countP (heldNow (budgeted f n s)) = 0
    · obtain ⟨-, -, -, hsame⟩ := hv.light h0
      exact hsame.rounded (hb.round (h.resolve_right (not_not.mpr h0))).1
    · exact hv.rounded h0
  · obtain ⟨-, -, -, halloc, hports⟩ := hv.light h0
    obtain ⟨halloc', hports'⟩ := hb.steady hc
    exact ⟨halloc.trans halloc', fun p => (hports p).trans (hports' p)⟩
  · have := (hb.round hc).2
    omega
  · rw [(hb.steady hc).1] at hcount
    exact hcount

/-- The report sent at once or kept for the list from below (R199, R201). -/
theorem report_eq (v : State) : report v = if v.chain.last then
      { v with
        chain := { v.chain with responsePending := false, uplink := none }
        sent := v.sent ++ [.upstream (upstreamBytes false [reportSlot v])] }
    else { v with chain := { v.chain with responsePending := false, uplink := some ⟨reportSlot v, 0⟩ } } := by
  unfold report
  dsimp only
  split <;> rfl

/-! ### The report slot's bytes (R200) -/

theorem sum_bits (u : Fin 8 → Bool) :
    ((List.finRange 8).map fun k : Fin 8 => if u k then 2 ^ k.val else 0).sum = Nat.ofBits u := by
  simp [List.finRange_succ, Nat.ofBits_succ, Function.comp_def]
  have hbit (b : Bool) (c : Nat) : (if b = true then c else 0) = c * b.toNat := by cases b <;> simp
  simp only [hbit]
  omega

theorem getLsbD_bits (u : Fin 8 → Bool) (p : Fin 8) :
    (BitVec.ofNat 8 ((List.finRange 8).map fun k : Fin 8 => if u k then 2 ^ k.val else 0).sum).getLsbD p.val = u p := by
  rw [sum_bits, BitVec.getLsbD_ofNat, Nat.testBit_ofBits_lt _ _ p.isLt]
  simp

theorem ports_map {α : Type} (g : Port → α) (s : State) : s.ports.toList.map g = (List.finRange 8).map fun p : Fin 8 => g s.ports[p] := by
  simp only [← Vector.toList_map]
  apply List.ext_getElem <;> simp

/-- The slot's items up to its net power. -/
def slotHead (v : State) : List Byte :=
  u8 (v.chain.number.getD 0) ++ u16 (v.chain.superframe.getD 0) ++ u8 (chainStateCode v.chain.state) ++ u8 v.chain.errors
    ++ u8 (sourceCode v.alloc.source) ++ i32 (netGrant v) ++ i32 (netPower v)

/-- The slot's port states. -/
def slotStates (v : State) : List Byte := (List.finRange 8).map fun p : Fin 8 => BitVec.ofNat 8 (portStateCode v.ports[p].run.state)

theorem u8_eq (n : Nat) : u8 n = [BitVec.ofNat 8 n] := by simp [u8, bytesOf]

theorem flatten_u8 {α : Type} (g : α → Nat) (l : List α) : (l.map fun x => u8 (g x)).flatten = l.map fun x => BitVec.ofNat 8 (g x) := by
  induction l with
  | nil => rfl
  | cons x l ih => rw [List.map_cons, List.flatten_cons, ih, u8_eq]; rfl

theorem length_slotHead (v : State) : (slotHead v).length = 14 := by simp [slotHead, u8, u16, i32]

theorem length_slotStates (v : State) : (slotStates v).length = 8 := by simp [slotStates]

theorem reportSlot_eq (v : State) : reportSlot v =
    slotHead v ++ (slotStates v ++ ([(hallSummary v).1, (hallSummary v).2] ++ responseBytes v.chain)) := by
  have hstates : (v.ports.toList.map fun q => u8 (portStateCode q.run.state)).flatten = slotStates v := by
    rw [flatten_u8, ports_map]
    rfl
  rw [reportSlot, hstates, slotHead]
  simp only [List.append_assoc]

theorem reportSlot_head (v : State) : (reportSlot v).take 14 = slotHead v := by
  rw [reportSlot_eq, List.take_left' (length_slotHead v)]

theorem reportSlot_behind (v : State) (k : Nat) : (reportSlot v)[14 + k]? =
    (slotStates v ++ ([(hallSummary v).1, (hallSummary v).2] ++ responseBytes v.chain))[k]? := by
  rw [reportSlot_eq, List.getElem?_append_right (by rw [length_slotHead]; omega), length_slotHead, Nat.add_sub_cancel_left]

theorem reportSlot_state (v : State) (p : Fin 8) :
    (reportSlot v)[14 + p.val]? = some (BitVec.ofNat 8 (portStateCode v.ports[p].run.state)) := by
  rw [reportSlot_behind, List.getElem?_append_left (by rw [length_slotStates]; exact p.isLt), slotStates]
  simp

theorem reportSlot_after (v : State) (k : Nat) : (reportSlot v)[22 + k]? =
    ([(hallSummary v).1, (hallSummary v).2] ++ responseBytes v.chain)[k]? := by
  rw [show 22 + k = 14 + (8 + k) by omega, reportSlot_behind, List.getElem?_append_right (by rw [length_slotStates]; omega),
    length_slotStates, Nat.add_sub_cancel_left]

theorem reportSlot_response (v : State) : (reportSlot v).drop 24 = responseBytes v.chain := by
  rw [reportSlot_eq, ← List.append_assoc, ← List.append_assoc]
  exact List.drop_left' (by simp [length_slotHead, length_slotStates])

theorem responseBytes_none {c : Chain} (h : c.responsePending = false) : responseBytes c = List.replicate 6 0 := by
  simp only [responseBytes, h]

theorem responseBytes_some {c : Chain} {tag : Byte} {r : Reply} (h : c.responsePending = true) (ht : c.lastTag = some tag)
    (hr : c.lastResponse = some r) : responseBytes c =
    [1, tag] ++ u8 (replyCodeCode r.code) ++ u8 (if r.clamped then 1 else 0) ++ u16 r.data.length ++ r.data := by
  simp only [responseBytes, h, ht, hr]
  rfl

/-- The marks byte of the summary has a port's bit where the port has an unmasked flag. -/
theorem hallSummary_port (v : State) (p : Fin 8) : (hallSummary v).1.getLsbD p.val = true ↔
    v.cmd.hallSet.ports[p] &&& ~~~v.cmd.hallMask.ports[p] ≠ 0 := by
  have h := getLsbD_bits (fun k => (unmasked v.cmd.hallSet v.cmd.hallMask).ports[k] != 0) p
  rw [hallSummary]
  dsimp only
  rw [h, bne_iff_ne]
  simp [unmasked, withoutFlags]

/-! ### The command slot (R198) -/

theorem takeSlot_other (h : natAt f 124 1 ≠ n) : takeSlot f n s = s := if_pos h

theorem takeSlot_repeated (h : natAt f 124 1 = n) (ht : s.chain.lastTag = some (f.getD 125 0)) :
    takeSlot f n s = { s with chain := { s.chain with responsePending := true } } :=
  (if_neg (not_not.mpr h)).trans (if_pos ht)

theorem takeSlot_new (h : natAt f 124 1 = n) (ht : s.chain.lastTag ≠ some (f.getD 125 0)) :
    takeSlot f n s = deliver (.hall (f.getD 125 0)) (natAt f 126 1)
      (takeCommand .hall (natAt f 126 1) (slice f 128 (natAt f 127 1)) s) :=
  (if_neg (not_not.mpr h)).trans (if_neg ht)

theorem decode_unknown {code : Nat} (h : code = 0 ∨ 47 ≤ code) (args : List Byte) : decodeCommand code args = .unknown := by
  rcases h with rfl | h
  · rfl
  · obtain ⟨k, rfl⟩ : ∃ k, code = k + 47 := ⟨code - 47, by omega⟩
    rfl

theorem withLength_known (k : Nat) (args : List Byte) (c : Command) : withLength k args c ≠ .unknown := by
  unfold withLength
  split <;> simp

theorem decode_known {code : Nat} (h : 1 ≤ code) (h' : code ≤ 46) (args : List Byte) : decodeCommand code args ≠ .unknown := by
  interval_cases code <;> exact withLength_known _ _ _

theorem takeCommand_refused {m : Master} {code : Nat} {args : List Byte} (h : decodeCommand code args = .unknown) :
    takeCommand m code args s = refuse .unknown s := by
  simp only [takeCommand, h]

theorem takeCommand_wrong {m : Master} {code : Nat} {args : List Byte} (h : decodeCommand code args = .wrongLength) :
    takeCommand m code args s = refuse .frameError s := by
  simp only [takeCommand, h]

theorem takeCommand_run {m : Master} {code : Nat} {args : List Byte} {c : Command} (h : decodeCommand code args = .command c) :
    takeCommand m code args s = runCommand m c s := by
  simp only [takeCommand, h]

end

/-- Settles O58: the frame is recorded, its entry put in force, the lines formed again, and the report made of the state so reached. -/
theorem cycleTaken : Obligations.CycleTaken := by
  refine ⟨fun f n s hvalid hn => ?_, ⟨fun v tag r hp ht hr => ?_, fun v hp => ?_, fun v n k hn hk => ?_⟩, fun f n u => takeSlot_other,
    fun f n u => takeSlot_repeated, fun f n u h ht => ⟨fun hc => ?_, fun hc => ?_, fun h1 h46 => decode_known h1 h46 _, fun c hc => ?_⟩⟩
  · refine ⟨lined f n s, report (lined f n s), congrArg Host.Outcome.next (receiveChain_cycle hvalid hn), ?_⟩
    have hb := budgeted_of f n s
    have hheld : (fun p : Fin 8 => heldAtOnce p s (lined f n s)) = heldNow (budgeted f n s) := funext (heldAtOnce_lined hb)
    have hspared := lined_spared f n s
    have hall := lined_allocated f n s
    rw [← hheld] at hspared hall
    have hchanges : ((lined f n s).chain.state = .discovered ∧ (s.alloc.source ≠ .hallLive ∨ s.alloc.inForce ≠ entryIn f n)) ↔
        changes f n s := by rw [lined_chain]
    have hsent : (lined f n s).sent = s.sent ++ [.downstream f] := (reformLines_quiet (budgeted f n s)).sent.trans hb.sent
    have hlast : (lined f n s).chain.last = s.chain.last := by
      obtain ⟨-, -, -, -, klast, -⟩ := cycled_keeps f n s.chain
      rw [lined_chain]
      exact klast
    have hreport := report_eq (lined f n s)
    rw [hlast] at hreport
    obtain ⟨hsilence, hlive, hsuper, hlines, hentry, hasserted, hnumber, htag, hresponse, hpending, hstate⟩ := lined_record hn f
    obtain ⟨hdiscovered, hstale⟩ := lined_asserted f n s
    obtain ⟨hin, hout, hstandalone, hfallback, hramp⟩ := lined_budgets f n s
    exact ⟨hsent, hsilence, hlive, hsuper, hlines, hentry, hasserted, hnumber, htag, hresponse, hpending, hstate, hin, hout,
      hdiscovered, hstale, ⟨linesHanded_lined hb, ⟨hspared.headers, hspared.prot, hspared.pending, hspared.recency, hspared.waiting,
      hspared.evictions, hstandalone, hfallback, hramp⟩, hspared.still, hspared.entry, hspared.flag, hspared.cmd,
      fun h => hall.round (h.imp_left hchanges.mp), fun hc h0 => hall.steady (mt hchanges.mpr hc) h0,
      fun hc => hall.changed (hchanges.mp hc), fun hc => hall.unchanged (mt hchanges.mpr hc)⟩, hreport⟩
  · rw [reportSlot_response, responseBytes_some hp ht hr]
  · rw [reportSlot_response, responseBytes_none hp]
  · refine ⟨?_, reportSlot_state v, ⟨(hallSummary v).1, ?_, hallSummary_port v⟩, ?_⟩
    · rw [reportSlot_head, slotHead, hn, hk, netGrant, netPower, ports_map, ports_map]
      generalize v.chain.state = st
      generalize v.alloc.source = so
      cases st <;> cases so <;> rfl
    · exact reportSlot_after v 0
    · exact reportSlot_after v 1
  · rw [takeSlot_new h ht, takeCommand_refused (decode_unknown hc _)]
    rfl
  · rw [takeSlot_new h ht, takeCommand_wrong hc]
    rfl
  · rw [takeSlot_new h ht, takeCommand_run hc]
    rfl

end Sys2Proof.CycleFrames
end

section
/-! PROOFS. A command's code and argument bytes, there and back (R206, R214), and the transactions of the station port (R205, R206). -/

open Sys2Proof Sys2Proof.Machine Sys2Proof.CycleFrames

namespace Sys2Proof.CommandBytes

section
variable {k n off len : Nat} {i : Int} {b rest args : List Byte}

/-! ### Fields read back -/

theorem fits_iff : fits k n = true ↔ n < 256 ^ k := decide_eq_true_iff

theorem slice_front : slice (b ++ rest) 0 b.length = b := by simp [slice]

theorem slice_behind (h : b.length ≤ off) : slice (b ++ rest) off len = slice rest (off - b.length) len := by
  rw [slice, slice, List.drop_append, List.drop_of_length_le h, List.nil_append]

theorem natAt_field (h : fits k n = true) : natAt (bytesOf k n ++ rest) 0 k = n := by
  have hfront := slice_front (b := bytesOf k n) (rest := rest)
  rw [length_bytesOf] at hfront
  rw [natAt, hfront, natOf_bytesOf (fits_iff.mp h)]

theorem natAt_last (h : fits k n = true) : natAt (bytesOf k n) 0 k = n := by
  have := natAt_field (rest := []) h
  rwa [List.append_nil] at this

theorem natAt_behind (h : k ≤ off) : natAt (bytesOf k n ++ rest) off len = natAt rest (off - k) len := by
  rw [natAt, slice_behind (by rwa [length_bytesOf]), length_bytesOf, natAt]

theorem intAt_behind (h : k ≤ off) : intAt (bytesOf k n ++ rest) off len = intAt rest (off - k) len := by
  rw [intAt, slice_behind (by rwa [length_bytesOf]), length_bytesOf, intAt]

theorem natAt_behind_signed (h : k ≤ off) : natAt (signedBytes k i ++ rest) off len = natAt rest (off - k) len := natAt_behind h

theorem intAt_field (h : fitsSigned k i = true) : intAt (signedBytes k i ++ rest) 0 k = i := by
  have hfront := slice_front (b := signedBytes k i) (rest := rest)
  rw [length_signedBytes] at hfront
  rw [intAt, hfront, intOf_signedBytes h]

theorem intAt_last (h : fitsSigned k i = true) : intAt (signedBytes k i) 0 k = i := by
  have := intAt_field (rest := []) h
  rwa [List.append_nil] at this

theorem parseAttention_bytes {a : Attention} (h : a.wf = true) : parseAttention (attentionBytes a) = a := by
  have hcabinet : a.cabinet &&& 0xC0 = 0 := of_decide_eq_true h
  have hkept : a.cabinet &&& 0x3F = a.cabinet := by
    calc a.cabinet &&& 0x3F = (a.cabinet &&& 0xC0) ||| (a.cabinet &&& 0x3F) := by rw [hcabinet]; exact BitVec.zero_or.symm
      _ = a.cabinet &&& BitVec.allOnes 8 := by rw [← BitVec.and_or_distrib_left]; rfl
      _ = a.cabinet := BitVec.and_allOnes
  have hports : (Vector.ofFn fun p : Fin 8 => (attentionBytes a).getD p 0) = a.ports := by
    apply Vector.ext
    intro j hj
    rw [Vector.getElem_ofFn, attentionBytes, List.getD_eq_getElem?_getD, List.getElem?_append_left (by simpa using hj)]
    simp [hj]
  rw [parseAttention, hports, show (attentionBytes a).getD 8 0 = a.cabinet by simp [attentionBytes], hkept]

@[simp] theorem length_attentionBytes (a : Attention) : (attentionBytes a).length = 9 := by simp [attentionBytes]

theorem drop_two (n i : Nat) : (u8 n ++ (u8 i ++ rest)).drop 2 = rest := by
  rw [u8_eq, u8_eq]
  rfl

theorem getD_one (n : Nat) (l : Byte) : (u8 n ++ [l]).getD 1 0 = l := by
  rw [u8_eq]
  rfl

end

/-- Settles O9: the record, the mask byte and the attention sets are read whole, and every other argument field by field. -/
theorem commandBytesRoundTrip : Obligations.CommandBytesRoundTrip := by
  intro c h
  cases c
  case writeStep n i r =>
    simp only [Command.wf, Bool.and_eq_true, decide_eq_true_eq] at h
    obtain ⟨⟨hn, hi⟩, hr⟩ := h
    simp only [decodeCommand, commandCode, argumentBytes, withLength, List.append_assoc, drop_two]
    simp [u8, natAt_field, natAt_behind, hn, hi, hr]
  case setInterlockMask p l =>
    have hp : fits 1 p = true := h
    simp only [decodeCommand, commandCode, argumentBytes, withLength, getD_one]
    simp [u8, natAt_field, hp]
  case clearAttention a => simp [decodeCommand, commandCode, argumentBytes, withLength, parseAttention_bytes h]
  case setAttentionMask a => simp [decodeCommand, commandCode, argumentBytes, withLength, parseAttention_bytes h]
  all_goals
    simp only [Command.wf, Envelope.wf, Limits.wf, Budget.wf, PortDefaults.wf, Selector.wf, Bool.and_eq_true, decide_eq_true_eq] at h
    simp [decodeCommand, commandCode, argumentBytes, withLength, parseSelector, selectorBytes, envelopeAt, envelopeBytes, limitsAt,
      limitsBytes, budgetAt, budgetBytes, u8, u16, u32, u64, i32, natAt_field, natAt_last, natAt_behind, intAt_behind,
      natAt_behind_signed, intAt_field, intAt_last, h]

/-! ### A command frame on the station port (R206) -/

section
variable {s : State} {out bytes args tail : List Byte} {code : Nat}

/-- A command fits the length byte of its frame. -/
theorem argumentBytes_fits {c : Command} (h : c.wf = true) : (argumentBytes c).length < 256 := by
  cases c
  case writeStep n i r =>
    simp only [Command.wf, Bool.and_eq_true, decide_eq_true_eq] at h
    simp [argumentBytes, u8, h]
  case importEntry r =>
    have hr : r.length = 78 := of_decide_eq_true h
    simp [argumentBytes, hr]
  all_goals simp [argumentBytes, selectorBytes, envelopeBytes, limitsBytes, budgetBytes, u8, u16, u32, u64, i32]

theorem commandCode_fits (c : Command) : commandCode c < 256 := by
  cases c <;> simp [commandCode]

/-- A station frame with its check, and the bytes behind it. -/
def framed (code : Nat) (args tail : List Byte) : List Byte := withCheck (u8 90 ++ u8 code ++ u8 args.length ++ args) ++ tail

theorem framed_eq (code : Nat) (args tail : List Byte) : framed code args tail =
    bytesOf 1 90 ++ (bytesOf 1 code ++ (bytesOf 1 args.length ++
      (args ++ ([checkByte (u8 90 ++ u8 code ++ u8 args.length ++ args)] ++ tail)))) := by
  simp only [framed, withCheck, u8, List.append_assoc]

theorem framed_start (hc : code < 256) (ha : args.length < 256) :
    natAt (framed code args tail) 0 1 = 90 ∧ natAt (framed code args tail) 1 1 = code ∧
    natAt (framed code args tail) 2 1 = args.length := by
  have hcode : fits 1 code = true := fits_iff.mpr hc
  have hlen : fits 1 args.length = true := fits_iff.mpr ha
  have hstart : fits 1 90 = true := by decide
  rw [framed_eq]
  refine ⟨natAt_field hstart, ?_, ?_⟩
  · rw [natAt_behind (Nat.le_refl 1), natAt_field hcode]
  · rw [natAt_behind (by omega), natAt_behind (Nat.le_refl 1), natAt_field hlen]

theorem framed_arguments : slice (framed code args tail) 3 args.length = args := by
  rw [framed_eq, slice_behind (by simp), slice_behind (by simp), slice_behind (by simp)]
  simp only [length_bytesOf, Nat.sub_self, Nat.reduceSub]
  exact slice_front

theorem framed_whole : (framed code args tail).take (args.length + 4) = withCheck (u8 90 ++ u8 code ++ u8 args.length ++ args) := by
  rw [framed]
  exact List.take_left' (by simp [withCheck, u8]; omega)

theorem takeStationFrame_framed (hc : code < 256) (ha : args.length < 256) (s : State) :
    takeStationFrame (framed code args tail) s = deliver .station code (takeCommand .station code args s) := by
  obtain ⟨h0, h1, h2⟩ := framed_start (tail := tail) hc ha
  have hlong : args.length + 4 ≤ (framed code args tail).length := by simp [framed, withCheck, u8]; omega
  unfold takeStationFrame
  simp only [h0, h1, h2, framed_whole, framed_arguments, sumsToZero_withCheck, not_true_eq_false, if_false]
  rw [if_neg (by simp), if_neg (by omega)]

theorem endTransaction_open (h : s.cmd.transaction = some out) (bytes : List Byte) :
    endTransaction bytes s = takeStationFrame bytes { s with
      cmd := { s.cmd with transaction := none }
      sent := s.sent ++ [.station ((out ++ List.replicate bytes.length 0).take bytes.length)] } := by
  simp only [endTransaction, h]
  rfl

theorem natAt_head (b : Byte) (bs : List Byte) : natAt (b :: bs) 0 1 = b.toNat := by simp [natAt, slice, natOf]

/-- Bytes that do not begin a command frame. -/
theorem takeStationFrame_none (h : ∀ b, bytes.head? = some b → b ≠ 90) (s : State) : takeStationFrame bytes s = s := by
  refine if_pos ?_
  cases bytes with
  | nil => simp [natAt, slice, natOf]
  | cons b bs =>
    rw [natAt_head]
    exact fun hb => h b rfl (BitVec.eq_of_toNat_eq hb)

/-- A frame that is short or fails its check. -/
theorem takeStationFrame_refused (h : bytes.head? = some 90)
    (hbad : bytes.length < 3 ∨ bytes.length < natAt bytes 2 1 + 4 ∨ sumsToZero (bytes.take (natAt bytes 2 1 + 4)) = false) (s : State) :
    takeStationFrame bytes s = deliver .station (natAt bytes 1 1) (refuse .frameError s) := by
  have h90 : natAt bytes 0 1 = 90 := by
    cases bytes with
    | nil => simp at h
    | cons b bs =>
      obtain rfl : b = 90 := by simpa using h
      exact natAt_head ..
  unfold takeStationFrame
  rw [if_neg (not_not.mpr h90)]
  dsimp only
  by_cases hshort : bytes.length < 3 ∨ bytes.length < natAt bytes 2 1 + 4
  · rw [if_pos hshort]
    rfl
  · have hsum : sumsToZero (bytes.take (natAt bytes 2 1 + 4)) = false := by
      rcases hbad with h | h | h
      · exact absurd (.inl h) hshort
      · exact absurd (.inr h) hshort
      · exact h
    rw [if_neg hshort, if_pos (by rw [hsum]; simp)]
    rfl

end

/-- Settles O11. -/
theorem stationTransaction : Obligations.StationTransaction := by
  refine ⟨fun s h => ?_, fun s out bytes h hb => ?_, fun s out tail c h hc => ?_, fun s out bytes h hh hbad => ?_,
    fun s out args tail bytes code h hc ha hbytes => ⟨fun hu => ?_, fun hw => ?_⟩⟩
  · refine congrArg Host.Outcome.next ?_
    simp only [startTransaction, h]
  · refine congrArg Host.Outcome.next ?_
    rw [endTransaction_open h, takeStationFrame_none hb]
  · refine congrArg Host.Outcome.next ?_
    rw [endTransaction_open h]
    refine (takeStationFrame_framed (commandCode_fits c) (argumentBytes_fits hc) _).trans ?_
    rw [takeCommand_run (commandBytesRoundTrip c hc)]
  · refine congrArg Host.Outcome.next ?_
    rw [endTransaction_open h, takeStationFrame_refused hh hbad]
  · refine congrArg Host.Outcome.next ?_
    rw [endTransaction_open h, hbytes]
    refine (takeStationFrame_framed hc ha _).trans ?_
    rw [takeCommand_refused (decode_unknown hu args)]
  · refine congrArg Host.Outcome.next ?_
    rw [endTransaction_open h, hbytes]
    refine (takeStationFrame_framed hc ha _).trans ?_
    rw [takeCommand_wrong hw]

end Sys2Proof.CommandBytes
end

section
/-! PROOFS. Items laid one behind another in a reply's data, and where they stand (R214). -/

open Sys2Proof Sys2Proof.Machine Sys2Proof.CycleFrames Sys2Proof.CommandBytes

namespace Sys2Proof.Layouts

section
variable {data a b : List Byte} {items ia ib : List (Nat × List Byte)} {segs : List (List Byte)} {k : Nat}

/-! ### Items in place -/

/-- Some items lie in some bytes at their offsets. -/
def Laid (data : List Byte) (items : List (Nat × List Byte)) : Prop :=
  ∀ x ∈ items, ∃ before after, data = before ++ (x.2 ++ after) ∧ before.length = x.1

theorem Laid.standsAt (h : Laid data items) : standsAt data items := fun x hx => by
  obtain ⟨before, after, hdata, hlen⟩ := h x hx
  rw [hdata, slice_behind (Nat.le_of_eq hlen), hlen, Nat.sub_self, slice_front]

theorem laid_whole (b : List Byte) : Laid b [(0, b)] := fun x hx => by
  obtain rfl := List.mem_singleton.mp hx
  exact ⟨[], [], by simp, rfl⟩

theorem laid_append_items (h : Laid data ia) (h' : Laid data ib) : Laid data (ia ++ ib) := fun x hx =>
  (List.mem_append.mp hx).elim (h x) (h' x)

theorem Laid.left (h : Laid a items) (b : List Byte) : Laid (a ++ b) items := fun x hx => by
  obtain ⟨before, after, hdata, hlen⟩ := h x hx
  exact ⟨before, after ++ b, by rw [hdata]; simp only [List.append_assoc], hlen⟩

theorem Laid.right (h : Laid b items) (hk : a.length = k) : Laid (a ++ b) (shifted k items) := fun x hx => by
  obtain ⟨y, hy, rfl⟩ := List.mem_map.mp hx
  obtain ⟨before, after, hdata, hlen⟩ := h y hy
  exact ⟨a ++ before, after, by rw [hdata]; simp only [List.append_assoc], by rw [List.length_append, hlen, hk]⟩

/-- Two parts with their items, the second counted from where it begins. -/
theorem laid_append (h : Laid a ia) (hk : a.length = k) (h' : Laid b ib) : Laid (a ++ b) (ia ++ shifted k ib) :=
  laid_append_items (h.left b) (h'.right hk)

/-- Items one behind another with their offsets. -/
def lay : Nat → List (List Byte) → List (Nat × List Byte)
  | _, [] => []
  | k, x :: xs => (k, x) :: lay (k + x.length) xs

theorem lay_shifted (k j : Nat) (segs : List (List Byte)) : lay (k + j) segs = shifted k (lay j segs) := by
  induction segs generalizing j with
  | nil => rfl
  | cons x xs ih =>
    rw [lay, lay, shifted, List.map_cons, Nat.add_assoc, ih]
    rfl

theorem laid_lay (segs : List (List Byte)) : Laid segs.flatten (lay 0 segs) := by
  induction segs with
  | nil => exact fun x hx => absurd hx List.not_mem_nil
  | cons x xs ih =>
    have hrest := lay_shifted x.length 0 xs
    rw [Nat.add_zero] at hrest
    rw [List.flatten_cons, lay, Nat.zero_add, hrest]
    exact laid_append (laid_whole x) rfl ih

/-- Bytes that are some segments in their order hold the items among them. -/
theorem laid_of (segs : List (List Byte)) (hdata : data = segs.flatten) (hitems : ∀ x ∈ items, x ∈ lay 0 segs) : Laid data items :=
  fun x hx => by
    rw [hdata]
    exact laid_lay segs x (hitems x hx)

/-- An optional field shows its value's bytes, or those of a value that is 0 throughout. -/
theorem optional_getD {α : Type} {n : Nat} {f : α → List Byte} {d : α} (h : f d = List.replicate n 0) (o : Option α) :
    optional n (o.map f) = flagByte o.isSome ++ f (o.getD d) := by
  cases o with
  | none => rw [Option.map_none, Option.getD_none, h]; rfl
  | some x => rfl

/-! ### Lengths -/

@[simp] theorem length_u8 (n : Nat) : (u8 n).length = 1 := length_bytesOf 1 n
@[simp] theorem length_u16 (n : Nat) : (u16 n).length = 2 := length_bytesOf 2 n
@[simp] theorem length_u32 (n : Nat) : (u32 n).length = 4 := length_bytesOf 4 n
@[simp] theorem length_u64 (n : Nat) : (u64 n).length = 8 := length_bytesOf 8 n
@[simp] theorem length_i32 (i : Int) : (i32 i).length = 4 := length_signedBytes 4 i
@[simp] theorem length_flagByte (x : Bool) : (flagByte x).length = 1 := length_bytesOf 1 _

/-- Records of one length one behind another. -/
theorem length_records {α : Type} {g : α → List Byte} {l : List α} (h : ∀ x, (g x).length = k) :
    ((l.map g).flatten).length = k * l.length := by
  induction l with
  | nil => rfl
  | cons x l ih => rw [List.map_cons, List.flatten_cons, List.length_append, ih, h, List.length_cons, Nat.mul_succ, Nat.add_comm]

theorem laid_records {n m : Nat} {g : Fin n → List Byte} {items : Fin n → List (Nat × List Byte)} (hlen : ∀ i, (g i).length = m)
    (h : ∀ i, Laid (g i) (items i)) : Laid (((List.finRange n).map g).flatten)
      (((List.finRange n).map fun i => shifted (m * i.val) (items i)).flatten) := fun x hx => by
  obtain ⟨l, hl, hx⟩ := List.mem_flatten.mp hx
  obtain ⟨i, -, rfl⟩ := List.mem_map.mp hl
  have hi : i.val < (List.finRange n).length := by rw [List.length_finRange]; exact i.isLt
  have hsplit : List.finRange n = (List.finRange n).take i.val ++ (i :: (List.finRange n).drop (i.val + 1)) := by
    have hdrop := List.drop_eq_getElem_cons hi
    rw [List.getElem_finRange] at hdrop
    calc List.finRange n = (List.finRange n).take i.val ++ (List.finRange n).drop i.val := (List.take_append_drop ..).symm
      _ = _ := by rw [hdrop]; rfl
  have hbefore : ((((List.finRange n).take i.val).map g).flatten).length = m * i.val := by
    rw [length_records hlen, List.length_take, Nat.min_eq_left (Nat.le_of_lt hi)]
  have hlaid := ((h i).left ((((List.finRange n).drop (i.val + 1)).map g).flatten)).right hbefore
  rw [hsplit, List.map_append, List.map_cons, List.flatten_append, List.flatten_cons]
  exact hlaid x hx

theorem toList_map_finRange {α β : Type} {n : Nat} (g : α → β) (v : Vector α n) :
    v.toList.map g = (List.finRange n).map fun i : Fin n => g v[i] := by
  rw [← Vector.toList_map]
  apply List.ext_getElem <;> simp

end

end Sys2Proof.Layouts
end

section
/-! PROOFS. The data of READ_PORT_STATUS, chapter after chapter (R54, R62, R90, R114, R140, R163, R187, R202). -/

open Sys2Proof Sys2Proof.Machine Sys2Proof.CycleFrames Sys2Proof.CommandBytes Sys2Proof.Layouts

namespace Sys2Proof.PortStatus

section
variable {p : Fin 8} {s : State} {q : Port}

/-! ### The run (R54) -/

/-- The items of the run before its loop counters. -/
def runHead (q : Port) : List (List Byte) :=
  [u8 (portStateCode q.run.state), u8 (stageCode q.run.stage), causesByte q.run.causes, u8 (ownerCode q.owner),
    orNone ((shownProgram q.run).map Fin.val), u8 q.run.stepIndex, orNone (q.run.step.map fun x => kindCode x.kind),
    u8 (subPhaseCode q.run.subPhase), u32 q.run.stepTimer, u32 q.run.throttledTime, u32 q.run.runCycles,
    u8 (countersInUse q.run).length]

/-- The items of the run behind them. -/
def runTail (q : Port) : List (List Byte) :=
  [u8 q.results.length, u16 q.lost, u8 (outcomeCode q.run.outcome), flagByte q.run.slew.isSome,
    u16 ((q.run.slew.map Slew.elapsed).getD 0)]

theorem runStatus_eq (q : Port) : runStatus q =
    (runHead q).flatten ++ (((countersInUse q.run).map u16).flatten ++ (runTail q).flatten) := by
  have hslew : optional 2 (q.run.slew.map fun d => u16 d.elapsed) =
      flagByte q.run.slew.isSome ++ u16 ((q.run.slew.map Slew.elapsed).getD 0) := by
    cases q.run.slew <;> rfl
  simp only [runStatus, runHead, runTail, hslew, counted, List.length_map, List.flatten_cons, List.flatten_nil, List.append_nil,
    List.append_assoc]

theorem runItems_eq (q : Port) : runItems q = lay 0 (runHead q) ++
    shifted 21 ([(0, ((countersInUse q.run).map u16).flatten)] ++
      shifted (2 * (countersInUse q.run).length) (lay 0 (runTail q))) := by
  simp [runItems, lay, shifted, runHead, runTail, causesByte, orNone]
  omega

theorem length_words (l : List Nat) : ((l.map u16).flatten).length = 2 * l.length :=
  length_records fun _ => length_u16 _

theorem runStatus_laid (q : Port) : Laid (runStatus q) (runItems q) := by
  rw [runStatus_eq, runItems_eq]
  refine laid_append (laid_lay _) ?_ (laid_append (laid_whole _) ?_ (laid_lay _))
  · simp [runHead, causesByte, orNone]
  · rw [length_words]

theorem length_runStatus (q : Port) : (runStatus q).length = 28 + 2 * (countersInUse q.run).length := by
  rw [runStatus_eq, List.length_append, List.length_append, length_words]
  simp [runHead, runTail, causesByte, orNone]
  omega

/-! ### The intake (R62) -/

/-- The items of the intake in their order. -/
def intakeParts (i : Intake) : List (List Byte) :=
  let v := i.latest.getD ⟨0, 0, 0, false⟩
  [flagByte i.latest.isSome, u32 v.voltage, i32 v.current, i32 v.temperature, flagByte v.reversed,
    flagByte (0 < i.missed), u16 i.missed, i32 i.voltageCal.offset, u32 i.voltageCal.gain, i32 i.currentCal.offset,
    u32 i.currentCal.gain, i32 i.temperatureCal.offset, u32 i.temperatureCal.gain, u8 (settleGrade i.settle), u8 i.settle.count,
    flagByte i.settle.dirty, u16 i.settle.band, flagByte i.captureValid, flagByte i.overwrite]

theorem intakeStatus_eq (i : Intake) : intakeStatus i = (intakeParts i).flatten := by
  have hlatest : optional 13 (i.latest.map fun v => u32 v.voltage ++ i32 v.current ++ i32 v.temperature ++ flagByte v.reversed) = _ :=
    optional_getD (d := ⟨0, 0, 0, false⟩) (by decide) i.latest
  rw [intakeStatus, hlatest]
  simp [intakeParts, calibrationBytes]

theorem intakeStatus_laid (i : Intake) : Laid (intakeStatus i) (intakeItems i) := by
  have hitems : intakeItems i = lay 0 (intakeParts i) := by simp [intakeItems, lay, intakeParts]
  rw [intakeStatus_eq, hitems]
  exact laid_lay _

theorem length_intakeStatus (i : Intake) : (intakeStatus i).length = 48 := by rw [intakeStatus_eq]; simp [intakeParts]

/-! ### The accounts (R90) -/

/-- The items of a set in their order. -/
def tallyParts (x : Tally) : List (List Byte) :=
  [u32 x.chargeIn.whole, u32 x.chargeIn.residue, u32 x.chargeOut.whole, u32 x.chargeOut.residue, u32 x.energyIn.whole,
    u64 x.energyIn.residue, u32 x.energyOut.whole, u64 x.energyOut.residue, u32 x.time.whole, u16 x.time.residue, flagByte x.saturated]

/-- The items of the accounts in their order. -/
def accountParts (a : Accounts) (bound : Bool) : List (List Byte) :=
  tallyParts a.step.tally ++ [i32 a.step.maxTemp] ++ tallyParts a.run ++ tallyParts a.unfolded.tally ++
    [i32 a.unfolded.maxTemp, u8 a.unfolded.cycleDelta, u8 a.unfolded.faultDelta, flagByte a.unfolded.lastResistance.isSome,
      i32 (a.unfolded.lastResistance.getD 0), flagByte bound]

theorem accountStatus_eq (q : Port) : accountStatus q = (accountParts q.acct q.ident.bound.isSome).flatten := by
  have hlast : resistanceBytes q.acct.unfolded.lastResistance = _ := optional_getD (f := i32) (d := 0) (by decide) q.acct.unfolded.lastResistance
  simp only [accountStatus, hlast, accountParts, tallyParts, tallyBytes, chargeBytes, energyBytes, timeBytes, List.flatten_cons,
    List.flatten_nil, List.flatten_append, List.append_nil, List.append_assoc]

theorem accountItems_eq (a : Accounts) (bound : Bool) : accountItems a bound = lay 0 (accountParts a bound) := by
  simp [accountItems, tallyItems, lay, accountParts, tallyParts]

theorem accountStatus_laid (q : Port) : Laid (accountStatus q) (accountItems q.acct q.ident.bound.isSome) := by
  rw [accountStatus_eq, accountItems_eq]
  exact laid_lay _

theorem length_accountStatus (q : Port) : (accountStatus q).length = 157 := by
  rw [accountStatus_eq]
  simp [accountParts, tallyParts]

/-! ### The identification (R114) -/

/-- The items of the identification in their order. -/
def identParts (p : Fin 8) (s : State) : List (List Byte) :=
  let i := s.ports[p].ident
  [flagByte i.present, u8 ((i.attempt.map Attempt.number).getD 255), u8 (idFailureCode i.lastFailure),
    Machine.optional 8 (if (waitPosition p s).isSome then i.serialRead.map u64 else none),
    u8 (if p ∈ s.history.waiting then s.history.waiting.idxOf p + 1 else 255), u8 ((i.bound.map Fin.val).getD 255),
    flagByte i.bound.isSome, u64 ((i.bound.bind fun e => s.history.entries[e].map Entry.serial).getD 0)]

theorem u64_zero : u64 0 = List.replicate 8 0 := by decide

theorem identStatus_eq (p : Fin 8) (s : State) : identStatus p s = (identParts p s).flatten := by
  have hserial : Machine.optional 8 (s.ports[p].ident.bound.map fun e => u64 ((s.history.entries[e].map Entry.serial).getD 0)) =
      flagByte s.ports[p].ident.bound.isSome ++
        u64 ((s.ports[p].ident.bound.bind fun e => s.history.entries[e].map Entry.serial).getD 0) := by
    cases s.ports[p].ident.bound with
    | none => rw [Option.map_none, Option.bind_none, Option.getD_none, u64_zero]; rfl
    | some e => rfl
  have hwait : (waitPosition p s).getD 255 = if p ∈ s.history.waiting then s.history.waiting.idxOf p + 1 else 255 := by
    unfold waitPosition
    split <;> rfl
  simp only [identStatus, identParts, hserial, hwait, levelByte, orNone, List.flatten_cons, List.flatten_nil, List.append_nil,
    List.append_assoc]

theorem length_optional_serial {b : Bool} (o : Option Nat) : (Machine.optional 8 (if b then o.map u64 else none)).length = 9 := by
  cases b <;> cases o <;> simp [Machine.optional]

theorem identStatus_laid (p : Fin 8) (s : State) : Laid (identStatus p s) (identItems p s) := by
  refine laid_of _ (identStatus_eq p s) ?_
  simp [identItems, lay, identParts, length_optional_serial]

theorem length_identStatus (p : Fin 8) (s : State) : (identStatus p s).length = 23 := by
  rw [identStatus_eq]
  simp [identParts, length_optional_serial]

/-! ### Grant table and command (R140) -/

/-- The value bytes of a basis, 0 throughout where there is none. -/
def basisField (o : Option Basis) : List Byte := (o.map basisBytes).getD (List.replicate 23 0)

/-- The items of the grant table and the command in their order. -/
def grantParts (q : Port) : List (List Byte) :=
  let g := q.alloc
  let b := q.run.bounds
  [flagByte g.basis.isSome, basisField g.basis, i32 g.request, u8 g.level, flagByte g.requestClamped,
    i32 g.grant, u32 b.grantBound, u32 b.stepDemand, u32 b.cvDemand, u32 q.run.cvIntegrator, u32 b.phaseCapacity, i32 q.run.applied,
    flagByte q.run.throttled]

@[simp] theorem length_basisField (o : Option Basis) : (basisField o).length = 23 := by
  cases o <;> simp [basisField, basisBytes]

theorem grantStatus_eq (q : Port) : grantStatus q = (grantParts q).flatten := by
  have hbasis : optional 23 (q.alloc.basis.map basisBytes) =
      flagByte q.alloc.basis.isSome ++ basisField q.alloc.basis := by
    cases q.alloc.basis <;> rfl
  simp only [grantStatus, grantParts, hbasis, List.flatten_cons, List.flatten_nil, List.append_nil, List.append_assoc]

theorem grantStatus_laid (q : Port) : Laid (grantStatus q) (grantItems q) := by
  refine laid_of _ (grantStatus_eq q) ?_
  simp [grantItems, lay, grantParts]

theorem length_grantStatus (q : Port) : (grantStatus q).length = 59 := by
  rw [grantStatus_eq]
  simp [grantParts]

/-! ### The phases (R163) -/

/-- The record of a phase of the gang. -/
def gangRecord (s : State) (y : Fin 16 × Nat) : List Byte := u8 y.1.val ++ u8 y.2 ++ u32 s.pool.phases[y.1].command

/-- The records of a port's gang. -/
def gangBytes (p : Fin 8) (s : State) : List Byte := ((gang p s).zipIdx.map (gangRecord s)).flatten

theorem length_gangBytes (p : Fin 8) (s : State) : (gangBytes p s).length = 6 * heldCount p s := by
  rw [gangBytes, length_records (k := 6) fun y => by simp [gangRecord], List.length_zipIdx]
  rfl

/-- The items of the phases before the gang. -/
def phaseHead (p : Fin 8) (s : State) : List (List Byte) :=
  [u8 s.ports[p].phases.reserved, u8 (heldCount p s), u8 (heldCount p s)]

/-- The items of the phases behind the gang. -/
def phaseTail (p : Fin 8) (s : State) : List (List Byte) :=
  let x := s.ports[p].phases
  let place := s.pool.queue.findIdx? fun y => y.1 = p
  [u8 ((x.need.map Need.raw).getD 255), u8 ((x.need.map Need.need).getD 0), u8 ((place.map fun k => k + 1).getD 255),
    u8 ((place.map fun k => (s.pool.queue.getD k (0, 0)).2).getD 255)]

theorem phaseStatus_eq (p : Fin 8) (s : State) : phaseStatus p s =
    (phaseHead p s).flatten ++ (gangBytes p s ++ (phaseTail p s).flatten) := by
  have hcount : counted ((gang p s).zipIdx.map fun y => u8 y.1.val ++ u8 y.2 ++ u32 s.pool.phases[y.1].command) =
      u8 (heldCount p s) ++ gangBytes p s := by
    rw [counted, List.length_map, List.length_zipIdx]
    rfl
  simp only [phaseStatus, hcount]
  simp only [queuePlace, orNone, phaseHead, phaseTail, Option.map_map, Function.comp_def, List.flatten_cons,
    List.flatten_nil, List.append_nil, List.append_assoc]

theorem phaseItems_eq (p : Fin 8) (s : State) : phaseItems p s = lay 0 (phaseHead p s) ++
    shifted 3 ([(0, gangBytes p s)] ++ shifted (6 * heldCount p s) (lay 0 (phaseTail p s))) := by
  have hgang : ((gang p s).zipIdx.map fun y => u8 y.1.val ++ u8 y.2 ++ u32 s.pool.phases[y.1].command).flatten = gangBytes p s := rfl
  simp only [phaseItems, hgang]
  simp [lay, shifted, phaseHead, phaseTail]
  omega

theorem phaseStatus_laid (p : Fin 8) (s : State) : Laid (phaseStatus p s) (phaseItems p s) := by
  rw [phaseStatus_eq, phaseItems_eq]
  exact laid_append (laid_lay _) (by simp [phaseHead]) (laid_append (laid_whole _) (length_gangBytes p s) (laid_lay _))

theorem length_phaseStatus (p : Fin 8) (s : State) : (phaseStatus p s).length = 7 + 6 * heldCount p s := by
  rw [phaseStatus_eq, List.length_append, List.length_append, length_gangBytes]
  simp [phaseHead, phaseTail]
  omega

/-! ### Protection and mask (R187, R202) -/

/-- The values of an envelope in their order. -/
def envelopeParts (e : Envelope) : List (List Byte) := [u32 e.vMax, u32 e.vMin, u32 e.charge, u32 e.discharge, i32 e.tMax]

/-- The value bytes of a fault record's run, 0 throughout where there is none. -/
def runField (f : FaultRecord) : List Byte :=
  (f.run.map fun m => u8 m.program.val ++ u8 m.stepIndex ++ u32 m.runCycles).getD (List.replicate 6 0)

@[simp] theorem length_runField (f : FaultRecord) : (runField f).length = 6 := by
  rw [runField]
  cases f.run <;> simp

/-- The items of a fault record in their order. -/
def faultParts (f : FaultRecord) : List (List Byte) :=
  [u8 (faultCodeCode f.code), u64 f.time, u8 (portStateCode f.portState), flagByte f.run.isSome, runField f, u32 f.voltage,
    i32 f.current, i32 f.temperature, u8 f.additional]

theorem faultBytes_eq (f : FaultRecord) : faultBytes f = (faultParts f).flatten := by
  have hrun : Machine.optional 6 (f.run.map fun m => u8 m.program.val ++ u8 m.stepIndex ++ u32 m.runCycles) =
      flagByte f.run.isSome ++ runField f := by
    rw [runField]
    cases f.run <;> rfl
  simp only [faultBytes, hrun]
  simp only [faultParts, List.flatten_cons, List.flatten_nil, List.append_nil, List.append_assoc]

/-- The trip filters' bytes. -/
def filterBytes (q : Port) : List Byte := (q.prot.filters.toList.map u8).flatten

theorem filterBytes_eq (q : Port) : (q.prot.filters.toList.map u8).flatten = filterBytes q := rfl

@[simp] theorem length_filterBytes (q : Port) : (filterBytes q).length = 6 := by
  rw [filterBytes, length_records (k := 1) fun _ => length_u8 _]
  simp

/-- The items of protection and mask in their order, with those of the fault record. -/
def protectionParts (q : Port) (asserted : Byte) (fault : List (List Byte)) : List (List Byte) :=
  envelopeParts q.prot.requested ++ envelopeParts q.prot.effective ++
    [flagByte q.prot.clamped, flagByte q.run.clamped, filterBytes q, flagByte (!q.prot.thermalOpen), flagByte q.prot.thermalLatch,
      flagByte q.prot.fault.isSome] ++ fault ++ [[q.mask], flagByte (q.mask &&& asserted != 0)]

theorem protectionStatus_eq (asserted : Byte) {fault : List (List Byte)}
    (h : Machine.optional 30 (q.prot.fault.map faultBytes) = flagByte q.prot.fault.isSome ++ fault.flatten) :
    protectionStatus q ++ maskStatus q asserted = (protectionParts q asserted fault).flatten := by
  simp only [protectionStatus, maskStatus, h, levelByte, interlocked, envelopeBytes, protectionParts, envelopeParts, filterBytes,
    List.flatten_cons, List.flatten_nil, List.flatten_append, List.append_nil, List.append_assoc]

theorem protection_laid (q : Port) (asserted : Byte) :
    Laid (protectionStatus q ++ maskStatus q asserted) (protectionItems q asserted) ∧
    (protectionStatus q ++ maskStatus q asserted).length = 83 := by
  cases hf : q.prot.fault with
  | none =>
    have h := protectionStatus_eq (q := q) asserted (fault := [List.replicate 30 0]) (by rw [hf]; rfl)
    rw [h]
    refine ⟨laid_of _ rfl ?_, ?_⟩
    · simp [protectionItems, hf, protectionParts, envelopeItems, envelopeParts, lay, filterBytes_eq]
    · simp [protectionParts, envelopeParts]
  | some f =>
    have h := protectionStatus_eq (q := q) asserted (fault := faultParts f)
      (by rw [hf, Option.map_some, faultBytes_eq]; rfl)
    rw [h]
    refine ⟨laid_of _ rfl ?_, ?_⟩
    · simp [protectionItems, hf, protectionParts, envelopeItems, envelopeParts, faultParts, lay, filterBytes_eq]
    · simp [protectionParts, envelopeParts, faultParts]

/-! ### The whole (R54) -/

theorem portStatus_laid (p : Fin 8) (s : State) : Laid (portStatus p s) (portItems p s) := by
  obtain ⟨hprot, -⟩ := protection_laid s.ports[p] s.chain.asserted
  rw [portStatus, List.append_assoc]
  refine laid_append (laid_append (laid_append (laid_append (laid_append (laid_append (runStatus_laid _) (length_runStatus _)
    (intakeStatus_laid _)) ?_ (accountStatus_laid _)) ?_ (identStatus_laid p s)) ?_ (grantStatus_laid _)) ?_ (phaseStatus_laid p s)) ?_ hprot
  all_goals
    simp only [List.length_append, length_runStatus, length_intakeStatus, length_accountStatus, length_identStatus, length_grantStatus,
      length_phaseStatus]
  all_goals omega

theorem length_portStatus (p : Fin 8) (s : State) : (portStatus p s).length = portStatusLength p s := by
  obtain ⟨-, hprot⟩ := protection_laid s.ports[p] s.chain.asserted
  rw [portStatus, List.append_assoc, List.length_append, hprot]
  simp only [List.length_append, length_runStatus, length_intakeStatus, length_accountStatus, length_identStatus, length_grantStatus,
    length_phaseStatus, portStatusLength]
  omega

end

end Sys2Proof.PortStatus
end

section
/-! PROOFS. The data of READ_CABINET_STATUS, chapter after chapter (R114, R140, R163, R187, R202, R208). -/

open Sys2Proof Sys2Proof.Machine Sys2Proof.CycleFrames Sys2Proof.CommandBytes Sys2Proof.Layouts

namespace Sys2Proof.CabinetStatus

section
variable {s : State}

/-! ### Allocator and history (R140, R114) -/

theorem outcomeBytes_eq : outcomeBytes .unthrottled = [0, 0, 0] ∧
    (∀ l, outcomeBytes (.importThrottled l) = [1, 1] ++ u8 l) ∧ ∀ l, outcomeBytes (.exportThrottled l) = [2, 1] ++ u8 l :=
  ⟨rfl, fun _ => rfl, fun _ => rfl⟩

@[simp] theorem length_outcomeBytes (o : RoundOutcome) : (outcomeBytes o).length = 3 := by cases o <;> rfl

/-- The items of the allocator and the history table before the wait list. -/
def allocatorParts (s : State) : List (List Byte) :=
  let a := s.alloc
  [u8 (sourceCode a.source), u32 a.inForce.imp, u32 a.inForce.exp, u32 a.standalone.imp, u32 a.standalone.exp, u32 a.fallback.imp,
    u32 a.fallback.exp, u32 a.lastRound.budget.imp, u32 a.lastRound.budget.exp, u32 a.lastRound.iTot, u32 a.lastRound.eTot,
    outcomeBytes a.lastRound.outcome, i32 (netGrant s), u32 a.roundCount, u32 a.rampTime, u8 (occupiedCount s), u8 (pinnedCount s),
    u8 s.history.evictions.length, u8 s.history.waiting.length]

/-- The bytes of the history wait list. -/
def waitingBytes (s : State) : List Byte := (s.history.waiting.map fun p => u8 p.val).flatten

@[simp] theorem length_waitingBytes (s : State) : (waitingBytes s).length = s.history.waiting.length := by
  rw [waitingBytes, length_records fun _ => length_u8 _, Nat.one_mul]

theorem length_allocatorParts (s : State) : (allocatorParts s).flatten.length = 60 := by simp [allocatorParts]

theorem allocatorStatus_eq (s : State) : allocatorStatus s ++ historyStatus s = (allocatorParts s).flatten ++ waitingBytes s := by
  simp only [allocatorStatus, historyStatus, budgetBytes, counted, List.length_map, waitingBytes, allocatorParts, List.flatten_cons,
    List.flatten_nil, List.append_nil, List.append_assoc]

theorem allocatorItems_eq (s : State) : allocatorItems s = lay 0 (allocatorParts s) ++ shifted 60 [(0, waitingBytes s)] := by
  obtain ⟨hunthrottled, himport, hexport⟩ := outcomeBytes_eq
  cases ho : s.alloc.lastRound.outcome <;>
    simp [allocatorItems, allocatorParts, lay, shifted, ho, hunthrottled, himport, hexport, netGrant, occupiedCount, waitingBytes]

theorem allocator_laid (s : State) : Laid (allocatorStatus s ++ historyStatus s) (allocatorItems s) := by
  rw [allocatorStatus_eq, allocatorItems_eq]
  exact laid_append (laid_lay _) (length_allocatorParts s) (laid_whole _)

theorem length_allocator (s : State) : (allocatorStatus s ++ historyStatus s).length = 60 + s.history.waiting.length := by
  rw [allocatorStatus_eq, List.length_append, length_allocatorParts, length_waitingBytes]

/-! ### The phase pool (R163) -/

/-- The items of a phase's record in their order. -/
def phaseParts (ph : Phase) : List (List Byte) :=
  [match ph.state with
    | .free => [0, 255]
    | .assigned p => [1] ++ u8 p.val
    | .outOfService => [2, 255],
    flagByte ph.enabled, u8 (directionCode ph.direction), u32 ph.command, flagByte ph.watch.isSome, u32 (ph.watch.getD 0)]

theorem phaseBytes_eq (ph : Phase) : phaseBytes ph = (phaseParts ph).flatten := by
  have hwatch : Machine.optional 4 (ph.watch.map u32) = _ := optional_getD (d := 0) (by decide) ph.watch
  cases hs : ph.state <;> simp [phaseBytes, phaseParts, hs, hwatch, orNone, u8_eq]

theorem phaseBytes_laid (ph : Phase) : Laid (phaseBytes ph) (phaseRecordItems 0 ph) := by
  have hitems : phaseRecordItems 0 ph = lay 0 (phaseParts ph) := by
    cases hs : ph.state <;> simp [phaseRecordItems, phaseParts, hs, lay]
  rw [phaseBytes_eq, hitems]
  exact laid_lay _

theorem length_phaseBytes (ph : Phase) : (phaseBytes ph).length = 13 := by
  rw [phaseBytes_eq]
  cases hs : ph.state <;> simp [phaseParts, hs]

/-- The records of the sixteen phases. -/
def recordBytes (s : State) : List Byte := ((List.finRange 16).map fun f : Fin 16 => phaseBytes s.pool.phases[f]).flatten

@[simp] theorem length_recordBytes (s : State) : (recordBytes s).length = 208 := by
  rw [recordBytes, length_records fun f => length_phaseBytes _, List.length_finRange]

/-- The counts behind the phases. -/
def poolCounts (s : State) : List (List Byte) := [u8 (inServiceCount s), u8 (freeCount s), u8 s.pool.queue.length]

/-- The bytes of the phase wait queue. -/
def queueBytes (s : State) : List Byte := (s.pool.queue.map fun x => u8 x.1.val ++ u8 x.2).flatten

@[simp] theorem length_queueBytes (s : State) : (queueBytes s).length = 2 * s.pool.queue.length :=
  length_records fun x => by simp

theorem poolStatus_eq (s : State) : poolStatus s = recordBytes s ++ ((poolCounts s).flatten ++ queueBytes s) := by
  have hrecords : (s.pool.phases.toList.map phaseBytes).flatten = recordBytes s := by rw [toList_map_finRange]; rfl
  simp only [poolStatus, hrecords, counted, List.length_map, poolCounts, queueBytes, List.flatten_cons, List.flatten_nil, List.append_nil,
    List.append_assoc]

theorem poolItems_eq (s : State) : poolItems s =
    ((List.finRange 16).map fun f : Fin 16 => shifted (13 * f.val) (phaseRecordItems 0 s.pool.phases[f])).flatten ++
      shifted 208 (lay 0 (poolCounts s) ++ shifted 3 [(0, queueBytes s)]) := by
  have hrecord (k : Nat) (ph : Phase) : phaseRecordItems k ph = shifted k (phaseRecordItems 0 ph) := by
    simp [phaseRecordItems, shifted]
  simp only [poolItems, hrecord (13 * _)]
  simp [lay, shifted, poolCounts, queueBytes]

theorem poolStatus_laid (s : State) : Laid (poolStatus s) (poolItems s) := by
  rw [poolStatus_eq, poolItems_eq]
  refine laid_append (laid_records (fun f => length_phaseBytes _) fun f => phaseBytes_laid _) (length_recordBytes s)
    (laid_append (laid_lay _) ?_ (laid_whole _))
  simp [poolCounts]

theorem length_poolStatus (s : State) : (poolStatus s).length = 211 + 2 * s.pool.queue.length := by
  rw [poolStatus_eq, List.length_append, List.length_append, length_recordBytes, length_queueBytes]
  simp [poolCounts]
  omega

/-! ### The protection unit (R187) -/

theorem cabinetBytes_eq : cabinetBytes .normal = [0, 0, 0, 0] ++ u32 0 ∧ (∀ r, cabinetBytes (.cooldown r) = [1, 1, 0, 1] ++ u32 r) ∧
    ∀ x, cabinetBytes (.waiting x) = [1, 1, 1, 0] ++ u32 0 := ⟨rfl, fun _ => rfl, fun _ => rfl⟩

@[simp] theorem length_cabinetBytes (c : CabinetState) : (cabinetBytes c).length = 8 := by cases c <;> rfl

/-- The items of the protection unit in their order. -/
def unitParts (x : Protection) : List (List Byte) :=
  [u32 x.limits.maxVoltage, u32 x.limits.maxCharge, u32 x.limits.maxDischarge, i32 x.limits.maxTemp, u32 x.limits.maxPower,
    flagByte x.locked, u8 (policyCode x.policy), cabinetBytes x.cabinet, u8 (contactorCode x.contactor), flagByte x.drive,
    flagByte x.feedbackClosed, flagByte x.closingWatch.isSome, u32 (x.closingWatch.getD 0), flagByte x.openingWatch.isSome,
    u32 (x.openingWatch.getD 0), flagByte (!x.doorOpen), u8 x.log.length, u16 x.overflow]

theorem unitStatus_eq (x : Protection) : unitStatus x = (unitParts x).flatten := by
  have hwatch (o : Option Nat) : Machine.optional 4 (o.map u32) = flagByte o.isSome ++ u32 (o.getD 0) := optional_getD (d := 0) (by decide) o
  simp only [unitStatus, limitsBytes, hwatch, levelByte, unitParts, List.flatten_cons, List.flatten_nil, List.append_nil,
    List.append_assoc]

theorem unitStatus_laid (x : Protection) : Laid (unitStatus x) (unitItems x) := by
  obtain ⟨hnormal, hcooldown, hwaiting⟩ := cabinetBytes_eq
  have hitems : unitItems x = lay 0 (unitParts x) := by
    cases hc : x.cabinet <;> simp [unitItems, unitParts, lay, hc, hnormal, hcooldown, hwaiting]
  rw [unitStatus_eq, hitems]
  exact laid_lay _

theorem length_unitStatus (x : Protection) : (unitStatus x).length = 47 := by
  rw [unitStatus_eq]
  simp [unitParts]

/-! ### The hall chain interface (R202) -/

/-- The items of the chain interface in their order. -/
def chainParts (c : Chain) : List (List Byte) :=
  let b := c.entry.getD ⟨0, 0⟩
  [u8 (c.number.getD 255), u8 (chainStateCode c.state), flagByte c.live, flagByte c.last, flagByte c.downstream,
    flagByte c.answerWatch.isSome, u32 (c.answerWatch.getD 0), u8 c.errors, u8 c.validRun, flagByte c.silence.isSome,
    u32 (c.silence.getD 0), flagByte c.frameLines.isSome, [c.frameLines.getD 0], [c.asserted], flagByte c.entry.isSome, u32 b.imp,
    u32 b.exp, flagByte c.superframe.isSome, u16 (c.superframe.getD 0), flagByte c.lastTag.isSome, [c.lastTag.getD 0],
    flagByte c.responsePending, u16 c.breaks]

theorem chainStatus_eq (c : Chain) : chainStatus c = (chainParts c).flatten := by
  have htime (o : Option Nat) : Machine.optional 4 (o.map u32) = flagByte o.isSome ++ u32 (o.getD 0) := optional_getD (d := 0) (by decide) o
  have hbyte (o : Option Byte) : Machine.optional 1 (o.map fun b => [b]) = flagByte o.isSome ++ [o.getD 0] :=
    optional_getD (d := 0) (by decide) o
  have hentry : Machine.optional 8 (c.entry.map budgetBytes) = _ := optional_getD (d := ⟨0, 0⟩) (by decide) c.entry
  have hframe : Machine.optional 2 (c.superframe.map u16) = _ := optional_getD (d := 0) (by decide) c.superframe
  simp only [chainStatus, htime, hbyte, hentry, hframe, budgetBytes, orNone, chainParts, List.flatten_cons, List.flatten_nil,
    List.append_nil, List.append_assoc]

theorem chainStatus_laid (c : Chain) : Laid (chainStatus c) (chainStatusItems c) := by
  have hitems : chainStatusItems c = lay 0 (chainParts c) := by simp [chainStatusItems, chainParts, lay]
  rw [chainStatus_eq, hitems]
  exact laid_lay _

theorem length_chainStatus (c : Chain) : (chainStatus c).length = 37 := by
  rw [chainStatus_eq]
  simp [chainParts]

/-! ### The whole (R208) -/

/-- The owners of the ports. -/
def ownerBytes (s : State) : List Byte := (s.ports.toList.map fun q => u8 (ownerCode q.owner)).flatten

@[simp] theorem length_ownerBytes (s : State) : (ownerBytes s).length = 8 := by
  rw [ownerBytes, length_records fun _ => length_u8 _]
  simp

theorem cabinetStatus_eq (s : State) : cabinetStatus s =
    (allocatorStatus s ++ historyStatus s) ++ poolStatus s ++ unitStatus s.prot ++ chainStatus s.chain ++
      (ownerBytes s ++ flagByte (attentionLine s)) := by
  rw [cabinetStatus, ← ownerBytes]
  simp only [List.append_assoc]

theorem cabinetItems_eq (s : State) : cabinetItems s = allocatorItems s ++ shifted (60 + s.history.waiting.length) (poolItems s) ++
    shifted (271 + cabinetLists s) (unitItems s.prot) ++ shifted (318 + cabinetLists s) (chainStatusItems s.chain) ++
    shifted (355 + cabinetLists s) ([(0, ownerBytes s)] ++ shifted 8 [(0, flagByte (attentionLine s))]) := by
  simp [cabinetItems, shifted, ownerBytes]
  omega

theorem cabinetStatus_laid (s : State) : Laid (cabinetStatus s) (cabinetItems s) := by
  rw [cabinetStatus_eq, cabinetItems_eq]
  refine laid_append (laid_append (laid_append (laid_append (allocator_laid s) (length_allocator s) (poolStatus_laid s)) ?_
    (unitStatus_laid _)) ?_ (chainStatus_laid _)) ?_ (laid_append (laid_whole _) (length_ownerBytes s) (laid_whole _))
  all_goals
    have hfirst := length_allocator s
    simp only [List.length_append] at hfirst
    simp only [List.length_append, length_poolStatus, length_unitStatus, length_chainStatus, cabinetLists]
    omega

theorem length_cabinetStatus (s : State) : (cabinetStatus s).length = 364 + cabinetLists s := by
  rw [cabinetStatus_eq, List.length_append, List.length_append, List.length_append, List.length_append, length_allocator,
    length_poolStatus, length_unitStatus, length_chainStatus, List.length_append, length_ownerBytes, length_flagByte, cabinetLists]
  omega

end

end Sys2Proof.CabinetStatus
end

section
/-! PROOFS. The reads (R21, R53, R54, R77, R110, R186, R208, R210): each answers with its data and leaves the state. -/

open Sys2Proof Sys2Proof.Machine Sys2Proof.Layouts Sys2Proof.PortStatus Sys2Proof.CabinetStatus

namespace Sys2Proof.Reads

section
variable {p : Fin 8} {s : State} {iss : Issuer}

theorem readStep_answers {n : Fin 32} {i : Nat} (h : s.headers[n].state ≠ .empty) (hi : i < s.headers[n].steps.length) :
    readStep n.val i s = answer
      (u8 (headerStateCode s.headers[n].state) ++ u8 (masterCode s.headers[n].author) ++ u8 s.headers[n].steps.length
        ++ u8 s.headers[n].useCount ++ u8 (writtenCount s.headers[n]) ++ u16 (freeSlots s)
        ++ Machine.optional 74 ((recordAt n i s).map fun r => stepBytes r (counterByte s.headers[n] i r))) s := by
  rw [readStep, onProgram_fin]
  dsimp only
  rw [if_neg h, if_neg (Nat.not_le.mpr hi)]

theorem peekResult_answers {r : ResultRecord} (h : s.ports[p].results.head? = some r) :
    peekResult p s = answer (resultReply r s.ports[p].results.length s.ports[p].lost) s := by
  unfold peekResult
  cases hr : s.ports[p].results with
  | nil => rw [hr] at h; cases h
  | cons x rest =>
    rw [hr] at h
    obtain rfl : x = r := Option.some.inj h
    rfl

theorem entryOf_known {serial : Nat} {e : Fin 64} (h : entryOf serial s = some e) : ∃ x, s.history.entries[e] = some x := by
  have hany := List.find?_some h
  cases hx : s.history.entries[e] with
  | none => rw [hx] at hany; cases hany
  | some x => exact ⟨x, rfl⟩

theorem onEntry_serial {serial : Nat} {e : Fin 64} (h0 : serial ≠ 0) (h : entryOf serial s = some e)
    (k : Fin 64 → Entry → State × Reply) : onEntry ⟨1, serial⟩ s k = onEntry ⟨0, e.val⟩ s k := by
  obtain ⟨x, hx⟩ := entryOf_known h
  rw [onEntry_number hx]
  simp only [onEntry, one_ne_zero, if_false, if_true, if_neg h0, h, hx]

theorem readFaultLog_answers (h : s.prot.log ≠ [] ∨ s.prot.overflow ≠ 0) :
    readFaultLog s = answer (counted (s.prot.log.map logBytes) ++ u16 s.prot.overflow) s := by
  refine if_neg ?_
  rw [List.isEmpty_iff, not_and_or]
  exact h

theorem readResult_takes {r : ResultRecord} {rest : List ResultRecord} (h : s.ports[p].results = r :: rest) :
    readResult p s = answer (resultReply r rest.length s.ports[p].lost)
      (modPort p (fun q => { q with results := rest, lost := if rest = [] then 0 else q.lost }) s) := by
  simp only [readResult, h, List.isEmpty_iff]

theorem readResult_empty (h : s.ports[p].results = []) : readResult p s = refuse .empty s := by
  simp only [readResult, h]

theorem readCapture_answers {c : CaptureResult} (h : s.ports[p].intake.slot = some c) :
    readCapture p s = answer (captureBytes c s.ports[p].intake.captureValid s.ports[p].intake.overwrite)
      (modIntake p (fun i => { i with captureValid := false, overwrite := false }) s) := by
  simp only [readCapture, h]

theorem readCapture_empty (h : s.ports[p].intake.slot = none) : readCapture p s = refuse .empty s := by
  simp only [readCapture, h]

end

/-- Settles O20. -/
theorem readsAnswer : Obligations.ReadsAnswer := by
  have hrow (iss : Issuer) (code : Nat) {x y : State × Reply} (h : x = y) :
      (Host.Outcome.next (deliver iss code x) : Host.Outcome State Fault Refusal) = .next (deliver iss code y) := by rw [h]
  refine ⟨fun iss s => ⟨fun n i h hi => hrow iss 5 (readStep_answers h hi), fun p => ⟨hrow iss 21 (onPort_fin p _),
      length_portStatus p s, (portStatus_laid p s).standsAt⟩, fun p r h => hrow iss 23 ((onPort_fin p _).trans (peekResult_answers h)),
      fun e x h => hrow iss 25 (onEntry_number h _), fun serial e h0 h => hrow iss 25 (onEntry_serial h0 h _),
      ⟨rfl, length_cabinetStatus s, (cabinetStatus_laid s).standsAt⟩, fun h => hrow iss 41 (readFaultLog_answers h), rfl⟩,
    ⟨fun iss p r rest s ho h => hrow iss 22 ((onOwnPort_owner ho _).trans (readResult_takes h)),
      fun iss p s ho h => hrow iss 22 ((onOwnPort_owner ho _).trans (readResult_empty h)),
      fun iss p c s h => hrow iss 24 ((onPort_fin p _).trans (readCapture_answers h)),
      fun iss p s h => hrow iss 24 ((onPort_fin p _).trans (readCapture_empty h))⟩, by decide⟩

end Sys2Proof.Reads
end
